-- ==== Sys2Proof/Word.lean ====
section
/-!
DEFINITION. The word and byte types of Azloth (R10: every register is 32 bits wide).
-/

namespace Sys2Proof

/-- A register, 32 bits (R10). -/
abbrev Word := BitVec 32

/-- A byte of HBM or of a packet. -/
abbrev Byte := BitVec 8

end Sys2Proof
end

