-- ==== Sys2Proof/Syntax.lean ====
section
/-!
DEFINITION. The commands of Azloth: one constructor of `Instr` for each row of spec/opcode_table.json, with the
operands its rule needs. An operand that stands for an outcome the spec leaves to the surroundings (a size a coder
chose, a signature check, a message's contents) is marked so in its docstring.
-/

namespace Sys2Proof

/-- The path of a register or memory access (R45, R450): PCIe, SMBus, fabric remote register access from a node, JTAG,
or the REG_WRITE action of an accepted token with the sub-unit and node of the path that delivered it (R456). -/
inductive Path where
  | pcie
  | smbus
  | fabric (node : Nat)
  | jtag
  | token (unit node : Nat)
  deriving DecidableEq, Repr

/-- One register access: its path, and whether every byte enable is set (R38). -/
structure Access where
  path : Path
  full : Bool
  deriving DecidableEq, Repr

/-- The instructions of the IEEE 1149.1 port that are always available (R469). -/
inductive JtagInstruction where
  | bypass | idcode | sample | extest | clamp | highz
  deriving DecidableEq, Repr

/-- The profile that an SPS states, by its name in R231; `other` is any that R231 does not list. -/
inductive DecProfile where
  | vvcMain10
  | vvcMain10Yuv444
  | hevcMain
  | hevcMain10
  | hevcMain422Ten
  | other
  deriving DecidableEq, Repr

/-- An SPS as the codec's syntax gives it (R231, R232, R235, R243): its identity, picture size after the conformance window,
profile, ten times the number of its level (62 for level 6.2), bits per sample, field_seq_flag, chroma format, reference
pictures it needs, whether pictures are reordered, CTU size, tile columns, subpictures per row, the subpictures (x, y, width,
height in luma samples), whether every subpicture has the flags that R243 asks, and the colour description that it signals
(colorimetry, transfer, range as DEC_CFG codes them). -/
structure DecSps where
  id : Nat
  width : Nat
  height : Nat
  profile : DecProfile
  level : Nat
  depth : Nat
  fieldSeq : Bool
  chroma : Nat
  refs : Nat
  reorders : Bool
  ctu : Nat
  tileCols : Nat
  subpicsAcross : Nat
  subpics : List (Nat × Nat × Nat × Nat)
  treated : Bool
  vui : Option (Nat × Nat × Nat)
  deriving DecidableEq, Repr

/-- What the headers of a slice's picture give: access unit, POC, FRAME_NO that a ferry access unit carries (R233), whether it
starts a coded video sequence, IRAP, GDR, POC at which a recovery that starts here ends (R247), the POCs that its reference
lists name and those that stay in the reference store, whether a decoded picture hash is present and matches, whether the
picture is output at all, and the POCs that the output process of Annex C outputs as the picture begins, removes without
output as it begins, and outputs once it is decoded. -/
structure DecHeader where
  au : Nat
  poc : Int
  frame : Nat
  cvs : Bool
  irap : Bool
  gdr : Bool
  recovery : Option Int
  refs : List Int
  keep : List Int
  hash : Option Bool
  output : Bool
  outputs : List Int
  removes : List Int
  bumps : List Int
  deriving DecidableEq, Repr

/-- A NAL unit of an access unit that reaches a decode stream (R241): an SPS that becomes active, another parameter set or
picture header, a slice with the CTUs it covers, whether its parsing succeeds and its bytes, or a NAL unit that decoding
does not use. -/
inductive DecNal where
  | sps (au : Nat) (x : DecSps)
  | params (au : Nat) (data : List Byte)
  | slice (h : DecHeader) (ctus : List Nat) (parsed : Bool) (data : List Byte)
  | other (au : Nat)
  deriving DecidableEq, Repr

/-- A part of a COMPRESSED packet's payload (R94): the PID of its transport stream packets (TRANSPORT 2 alone), the NAL unit it
belongs to, and whether it holds that NAL unit's first and last byte. -/
structure CodedPart where
  pid : Nat
  first : Bool
  last : Bool
  nal : DecNal
  deriving DecidableEq, Repr

/-- One sample row data segment of an ST 2110-20 packet: its field bit, line, pixel offset, and the samples in the
component order of the surface format (R80, R83). -/
structure VideoSegment where
  field : Bool
  line : Nat
  offset : Nat
  samples : List Nat
  deriving DecidableEq, Repr

/-- The payload of a received RTP packet, as its standard lays it out (R80). -/
inductive RtpPayload where
  /-- ST 2110-20: payload bytes and its sample row data segments. -/
  | video (bytes : Nat) (segments : List VideoSegment)
  /-- ST 2110-30: per sample time, the word of each channel, an unsigned word of 24 bits, or of 16 for L16. -/
  | audio (frames : List (List Nat))
  /-- ST 2110-40: the RFC 8331 bytes of the packet. -/
  | anc (bytes : List Byte)
  /-- A compressed elementary or transport stream payload (R94): the parts of NAL units it carries, in order. -/
  | coded (parts : List CodedPart)
  deriving DecidableEq, Repr

/-- A received RTP packet: header fields, the extended sequence number, whether SRTP authentication passes where the flow
has SRTP (the outcome is the packet's own), and its payload. -/
structure RtpPacket where
  version : Nat
  pt : Nat
  ssrc : Nat
  seq : Nat
  ts : Nat
  marker : Bool
  authOk : Bool
  payload : RtpPayload
  deriving DecidableEq, Repr

/-- The SecTAG of a received frame (R337): secure channel identifier, association number, packet number, and whether
its integrity check passes. -/
structure SecTag where
  sci : Nat
  an : Nat
  pn : Nat
  icvOk : Bool
  deriving DecidableEq, Repr

/-- Control traffic that firmware handles (R327): a request for one of the port's addresses, an echo request, a group
membership query, or the neighbour answer that gives an address's MAC address. -/
inductive ControlMessage where
  | addressRequest (address : Nat)
  | echoRequest (address : Nat)
  | groupQuery
  | neighbour (address mac : Nat)
  deriving DecidableEq, Repr

/-- A received Ethernet frame (R325-R328): bytes from the destination address through the FCS, FCS correct, SecTAG,
VLAN identifiers of its tags, IP version, IPv4 header checksum correct, fragment, IPv6 extension header, addresses, UDP
ports and checksum, the control traffic for firmware that it is (R327), whether the chiplet's ingest line buffers are
more than 75 % full at its arrival (R328), and the RTP packet it carries. -/
structure EthFrame where
  length : Nat
  fcsOk : Bool
  tag : Option SecTag
  vlans : List Nat
  ipv6 : Bool
  ipOk : Bool
  fragment : Bool
  extHeader : Bool
  src : Nat
  dst : Nat
  dport : Nat
  udpOk : Bool
  udpZero : Bool
  control : Option ControlMessage
  buffersHigh : Bool
  rtp : Option RtpPacket
  deriving DecidableEq, Repr

/-- What a PTP message makes of the receiving instance (R338); the decision of the default BMCA, which IEEE 1588 gives, is
an operand: after an Announce, the state of each local port, the grandmaster, its clockClass and whether a master is
chosen; a Sync exchange with the master completes with an offset and a path delay in ns; a Delay_Req asks for an
answer; any other message is only timestamped. -/
inductive PtpMessage where
  | announce (states : List (Nat × Nat)) (grandmaster clockClass : Nat) (master : Option Nat)
  | sync (offset : Int) (delay : Nat)
  | delayReq
  | other
  deriving DecidableEq, Repr

/-- A PTP message as it arrives (R338): its domain, whether over UDP/IPv6, and what it does. -/
structure PtpPacket where
  domain : Nat
  ipv6 : Bool
  body : PtpMessage
  deriving DecidableEq, Repr

/-- The PTP messages a port sends on its own intervals (R338). -/
inductive PtpTimer where
  | announce | sync | delayReq
  deriving DecidableEq, Repr

/-- A 66-bit block as a tile lane carries it (R279): the sync header, and the 8 bytes of its scrambled payload. -/
structure TileBlock where
  sync : Nat
  bytes : List Nat
  deriving DecidableEq, Repr

/-- What a member is known by beside its links (R375, R382): serial number, COORD_ELIGIBLE, COORD_PRIORITY, TIME_PRIORITY,
whether its TIME_SEL is not 0 and its source is LOCKED, and SOURCE of its TIME_SRC. The spec gives no message that
carries these, so they come with the member's LINK_STATE and with COORD_SYNC. -/
structure FabAttrs where
  serial : Nat
  eligible : Bool
  priority : Nat
  timePriority : Nat
  timing : Bool
  source : Nat
  deriving DecidableEq, Repr

/-- The three messages of AUTH (R373, R453): 1 with serial number and the ROOT_ID of the certificate; 2 and whether its
signature and the certificate verify; FINISH. -/
inductive FabAuth where
  | first (serial root : Nat)
  | second (ok : Bool)
  | finish
  deriving DecidableEq, Repr

/-- An item that a moored pair compares (R411, R412): kind (0 slice, 1 check rectangle), channel or raster, slice or
rectangle, FRAME_NO. -/
structure MateItem where
  kind : Nat
  unit : Nat
  index : Nat
  frame : Nat
  deriving DecidableEq, Repr

/-- A comparison record (R412): item, flags, CRC or check value. -/
structure MateRecord where
  item : MateItem
  flags : Nat
  value : Nat
  deriving DecidableEq, Repr

/-- The payload of a mooring frame (R408). -/
inductive MoorBody where
  | heartbeat (role : Nat) (home ready sense critical fenced : Bool) (epoch config frame serial : Nat)
  | compare (records : List MateRecord)
  | health (words : List Nat)
  | thermal (raster frame part : Nat) (last : Bool) (reports : List (Nat × Nat × Nat))
  | helm (kind target : Nat)
  | arbStart (item : MateItem)
  | arbResult (item : MateItem) (fail : Bool) (failed : List Nat)
  deriving DecidableEq, Repr

/-- The payload of a fabric frame by TYPE (R369, R408); `reserved` is a frame of a reserved type. -/
inductive FabBody where
  | hello (serial node coord port version : Nat)
  | auth (m : FabAuth)
  | credit (counts : List Nat)
  | remap (lane : Nat)
  | linkState (epoch : Nat) (links : List (Nat × Nat))
  | landRequest (serial wanted epoch config relay port : Nat)
  | landGrant (node epoch config : Nat)
  | landRefuse (reason offer : Nat)
  | prepare (txn mask target count : Nat)
  | vote (txn : Nat) (yes : Bool) (reason : Nat)
  | decision (txn : Nat) (commit : Bool) (reason config firstNo : Nat)
  | ack (txn : Nat)
  | snap (frame : Nat)
  | timeRequest
  | timeResponse (t2 t3 source refDiv : Nat)
  | event (levels : List (Nat × Bool))
  | coordSync (members : List (Nat × FabAttrs)) (place : List (Nat × List Nat)) (recorded : List (Nat × (Nat × Nat))) (config : Nat)
  | join (producer : Nat)
  | reg (write response : Bool) (offset data result : Nat)
  | ferry
  | rect (pixels : List (Nat × Nat × Nat))
  | moor (m : MoorBody)
  | reserved (code : Nat)
  deriving DecidableEq, Repr

/-- A fabric frame (R368): payload, DST, SRC, HOPS, LEN, VC and LAST of FLAGS, PN, TAG, SEQ, FRAME_NO, HASH; and for a
received one whether its FCS is correct and whether its tag verifies. -/
structure FabFrame where
  body : FabBody
  dst : Nat
  src : Nat
  hops : Nat
  len : Nat
  vc : Nat
  last : Bool
  pn : Nat
  tag : Nat
  seq : Nat
  frameNo : Nat
  hash : Nat
  fcsOk : Bool
  tagOk : Bool
  deriving DecidableEq, Repr

/-- What a mailbox command finds, where its outcome is not in the block's state: whether the signature it checks verifies
(of the token, the image or the microcode); whether a second one does (owner co-signature of an image, root signature of a
certificate); whether image or microcode was built for this stepping; whether every flash erase and program succeeds;
the security version of the image or the version of the microcode; the engines, stages or pipelines that fail their
golden vectors (of a chiplet's engines the pixel engines are 0-23, the entropy engines 24-27); whether the bank has a spare row; and the SHA-384 of the image read or read back. -/
structure MbxOutcome where
  signed : Bool
  cosigned : Bool
  stepping : Bool
  flash : Bool
  version : Nat
  failed : List Nat
  spare : Bool
  hash : Nat
  deriving DecidableEq, Repr

/-- What the board's and the chip's sensors and error counters read at a beat boundary (R306, R319, R416, R482, R483): VIN_MAIN and
VIN_AUX in mV, input power over 1 ms in mW, the hottest junction sensor in 1/16 °C as 16 bits, each domain's power in 0.1 W, input
energy in mJ, the clocks present, the audio PLL locked, the four offsets in 0.01 ppm as 32 bits, each island's measured clock in MHz,
the HBM scrub passes completed since reset; and since the last beat: of wide lane n (key n) or tile lane n (key 128 + n) the FEC symbol
errors and pattern errors, of a NET port the uncorrectable codewords and the corrected codewords / 1,024. -/
structure Sensors where
  vin : Nat
  aux : Nat
  mw : Nat
  junction : Nat
  power : List Nat
  energy : Nat
  refclk156 : Bool
  refclk100 : Bool
  xo : Bool
  audio : Bool
  ppm : List Nat
  freq : List Nat
  passes : Nat
  lanes : List (Nat × Nat × Nat)
  fec : List (Nat × Nat × Nat)
  deriving DecidableEq, Repr


/-- What a register write finds where its effect rests on something outside the block's state: whether the signature of the response
that RESP_OP_CTL.START checks verifies, and the CABLE_FAULT causes that LANE_CTL.RETRY of a tile lane finds. -/
structure WriteFinds where
  signed : Bool
  causes : List Nat
  deriving DecidableEq, Repr

/-- The commands, in the order of spec/opcode_table.json. -/
inductive Instr where
  /-- REGISTER_WRITE (R36): A write to a register that has no row of its own is applied according to the access code of each field. -/
  | registerWrite (a : Access) (addr : Nat) (v : Word) (k : WriteFinds)
  /-- FAULTED_READ (R44): A read of an unimplemented offset or page, or one made without read rights, returns 0 or 0xFFFF_FFFF and records a fault in SYS. -/
  | faultedRead (a : Access) (addr : Nat)
  /-- OCC_READ_HI_POP (R46): A read of OCC_READ_HI returns the upper half of the head record and pops it from the queue. -/
  | occReadHiPop (a : Access) (base : Nat)
  /-- CLEAR_LOST (R42): Writing CLEAR_LOST sets OCC_LOST of the page to 0. -/
  | clearLost (a : Access) (base : Nat)
  /-- COMMIT_GROUP_WRITE (R42): A write of PAGE_CTL.COMMIT_GROUP moves the page and its unarmed pending values to a new group, unless the group is armed. -/
  | commitGroupWrite (a : Access) (base : Nat) (v : Word)
  /-- FRAME_NO_LO_READ (R28): A read of FRAME_NO_LO captures FRAME_NO, SYSTIME and TIME_SRC for that requester. -/
  | frameNoLoRead (a : Access)
  /-- EVT_ROUTE_WRITE (R51): A write of a ROUTE register changes event source routing at once and re-evaluates vector and pin levels. -/
  | evtRouteWrite (a : Access) (m : Nat) (v : Word)
  /-- VECTOR_ACK (R52): A 1 written to VECTOR_ACK re-arms an MSI-X vector, which sends again at once if its level is still 1. -/
  | vectorAck (a : Access) (hi : Bool) (v : Word)
  /-- EVT_CTL_WRITE (R54): A write of EVT_CTL enables the pins or the fabric event channel, making every routed level due when FAB_ENABLE rises. -/
  | evtCtlWrite (a : Access) (v : Word)
  /-- FAB_EVT_DEST_WRITE (R54): A change of FAB_EVT_DEST makes the level of every source routed to the fabric due. -/
  | fabEvtDestWrite (a : Access) (v : Word)
  /-- FABRIC_EVENT_SEND (R54): When credit allows, an EVENT frame is formed from up to 32 pending due levels. -/
  | fabricEventSend
  /-- BAR2_WRITE (R88): A PCIe write to BAR2 is checked against leases and work-area protection in 64-byte blocks, and any part beyond the host pool is dropped. -/
  | bar2Write (a : Nat) (bytes : List Byte)
  /-- BAR2_READ (R465): A PCIe read of BAR2 returns host pool data, 0 for sealed storage and 0xFFFF_FFFF beyond the host pool. -/
  | bar2Read (a n : Nat)
  /-- BEAT_BOUNDARY (R24): SYSTIME reaches B(n+1) and FRAME_NO advances to the next beat. -/
  | beatBoundary (m : Sensors)
  /-- BEAT_RATE_SWITCH (R25): At the first boundary of the new rate, an accepted beat rate change takes effect and FRAME_NO steps to the count at the new rate. -/
  | beatRateSwitch
  /-- RASTER_LINE_START (R250): A raster reaches the start instant of one of its lines, and the frame boundary events of that line happen. -/
  | rasterLineStart (r : Nat)
  /-- TONE_CURVE_COMPUTE (R143): Within 16 us of the end of composition, the target tone curve index for the next frame is computed from the statistics. -/
  | toneCurveCompute (r : Nat)
  /-- FRAME_LEASE_RELEASE (R87): A frame's leases are released once scan-out and the last encode job reading the frame have both finished. -/
  | frameLeaseRelease (r f : Nat)
  /-- COMPOSE_ERROR (R122): An uncorrectable error in a line store, the still pool or a surface read puts the raster into safe colour mode from that line. -/
  | composeError (r kind : Nat)
  /-- COMMIT_ARM (R58): A write of COMMIT_ARM.ARM copies the pending values of the masked groups into staging and starts validation. -/
  | commitArm (a : Access) (v : Word)
  /-- COMMIT_VALIDATION_DONE (R59): Validation of an arm finishes, accepting all groups or rejecting all of them. -/
  | commitValidationDone
  /-- COMMIT_CANCEL (R64): A write of COMMIT_ARM.CANCEL aborts every arm that holds a selected group, unless it comes too late. -/
  | commitCancel (a : Access) (v : Word)
  /-- FAB_PREPARE_RECEIVED (R69): A member receives PREPARE, arms and validates the masked groups, and votes. -/
  | fabPrepareReceived (p : Nat) (f : FabFrame)
  /-- FAB_VOTE_RECEIVED (R69): The coordinator takes a vote and decides ABORT on the first NO, or COMMIT when all votes are YES. -/
  | fabVoteReceived (p : Nat) (f : FabFrame)
  /-- FAB_VOTE_DEADLINE (R69): At the vote deadline with votes missing, the coordinator decides ABORT with MEMBER_LOST. -/
  | fabVoteDeadline
  /-- FAB_DECISION_REPEAT (R69): Every 10 us until B(F-1), the coordinator resends the decision to members that have not acknowledged. -/
  | fabDecisionRepeat
  /-- FAB_DECISION_RECEIVED (R69): A member takes the COMMIT or ABORT decision, acknowledges it, and checks its CONFIG_EPOCH. -/
  | fabDecisionReceived (p : Nat) (f : FabFrame)
  /-- FAB_ACK_RECEIVED (R384): The coordinator receives a member's ACK and stops repeating the decision to it. -/
  | fabAckReceived (p : Nat) (f : FabFrame)
  /-- FAB_COMMIT_APPLY (R69): At B(F-1), every COMMITTED member applies the commit and takes the new CONFIG_EPOCH. -/
  | fabCommitApply
  /-- SNAP_START (R75): START of the snapshot selects the capture beat, or ends FAILED at start. -/
  | snapStart (a : Access) (v : Word)
  /-- SNAP_ABORT (R76): ABORT of the snapshot leaves the pages already written in place. -/
  | snapAbort (a : Access) (v : Word)
  /-- SNAP_MESSAGE_RECEIVED (R75): A member receives SNAP(S) and starts its own capture, or refuses it when busy or late. -/
  | snapMessageReceived (p : Nat) (f : FabFrame)
  /-- SNAP_CAPTURE (R76): At B(S), every register is captured at the first cycle of its island. -/
  | snapCapture
  /-- SNAP_WRITE_DONE (R76): The snapshot buffer has been written, and the operation ends DONE. -/
  | snapWriteDone
  /-- ETH_FRAME_RECEIVED (R325): A received Ethernet frame is checked, classified, policed, decrypted and handed to its ingest stream or to firmware. -/
  | ethFrameReceived (p t : Nat) (f : EthFrame)
  /-- INGEST_FRAME_PUBLISH (R82): A frame whose marker packet has arrived and whose lines are all in HBM is published. -/
  | ingestFramePublish (n : Nat)
  /-- INGEST_NO_SIGNAL (R95): After 2 source frame periods without a valid packet, NO_SIGNAL is set. -/
  | ingestNoSignal (n : Nat)
  /-- INGEST_PATH_DOWN (R95): After 2 source frame periods without a packet on one path, PATH_A_DOWN or PATH_B_DOWN is set. -/
  | ingestPathDown (n : Nat) (pathB : Bool)
  /-- COEF_DATA_WRITE (R110): A write of COEF_DATA stores a scaler coefficient and advances INDEX, updating bank validity. -/
  | coefDataWrite (a : Access) (x : Nat) (v : Word)
  /-- LUT_DATA_WRITE (R142): A write of LUT_DATA stores a colour table entry and advances INDEX. -/
  | lutDataWrite (a : Access) (r : Nat) (v : Word)
  /-- STATS_CAPTURE_READ (R144): A read of STATS index 0 captures the last completed statistics. -/
  | statsCaptureRead (a : Access) (r : Nat)
  /-- ROW_HANDOFF (R155): Once its raster lines and hint map row are written, a coded row is handed to the task scheduler. -/
  | rowHandoff (c t : Nat)
  /-- PIXEL_JOB_DISPATCH (R167): The task scheduler dispatches the oldest eligible pixel job to an engine. -/
  | pixelJobDispatch (t : Nat)
  /-- AFFINITY_WAIT_EXPIRY (R167): A job that has waited AFFINITY_WAIT cycles for its preferred engine may go to another engine. -/
  | affinityWaitExpiry (t : Nat)
  /-- ANALYSIS_PUBLISH (R226): A rung-0 pixel job publishes its motion analysis into the source slots of the other rungs. -/
  | analysisPublish (e t : Nat)
  /-- PIXEL_JOB_COMPLETE (R164): A pixel job completes with its exact row size, a function of its inputs. The operands are the
  engine, as its compute chiplet and its number there (R14), the reference cache misses of the job (R173), and SYSTIME. -/
  | pixelJobComplete (x e misses t : Nat)
  /-- FLOOR_RECODE_DONE (R196): The floor recoder completes a floored row's syntax and reconstruction. -/
  | floorRecodeDone (c t : Nat)
  /-- SEAM_FILTER_DONE (R163): The seam filter completes a released row's boundaries, advancing the reconstruction of the picture. -/
  | seamFilterDone (c t : Nat)
  /-- ENTROPY_JOB_DISPATCH (R169): The entropy job of a slice is dispatched to the lowest idle entropy engine. -/
  | entropyJobDispatch (t : Nat)
  /-- SLICE_ASSEMBLED (R169): An entropy engine completes the assembly of a slice. -/
  | sliceAssembled (e t : Nat)
  /-- JOB_ERROR (R171): An uncorrectable error during a job ends it without output, and the job is retried on another engine. -/
  | jobError (u t : Nat)
  /-- ENGINE_SELFTEST_LOAN (R171): An engine idle for 2 x AFFINITY_WAIT with no eligible job is lent to self-test. -/
  | engineSelftestLoan (u t : Nat)
  /-- ENGINE_RETURN (R171): A withdrawn or lent engine returns to dispatch after self-test. -/
  | engineReturn (u t : Nat)
  /-- HIST_CLEAR (R173): HIST_CLEAR sets every wait histogram bin and maximum to 0. -/
  | histClear (a : Access) (v : Word)
  /-- RC_CLEAR (R184): RC_CTL.CLEAR resets MIN_SLACK and the LAT_MAX registers. -/
  | rcClear (a : Access) (v : Word)
  /-- HINT_ERROR (R213): An uncorrectable HBM error in a hint makes the affected coded hints zero, recorded once per picture. `row`
  is the picture's number and the row. -/
  | hintError (c : Nat) (row : Nat × Nat) (blocks : List Nat)
  /-- ENC_ADMIT (R182): Firmware admits a channel from its pending values if the admission limits hold, and records its grant. -/
  | encAdmit
  /-- LADDER_ADMIT (R182): Firmware admits a ladder group as a whole if the admission limits hold. -/
  | ladderAdmit
  /-- ENC_RELEASE (R182): Firmware releases an admitted channel or ladder, returning STATE to IDLE. -/
  | encRelease
  /-- ENC_QUERY (R182): Firmware returns the admitted demand sums and counts. -/
  | encQuery
  /-- DEC_ADMIT (R239): Firmware admits and places a decode stream if its decode demand fits. -/
  | decAdmit
  /-- DEC_RELEASE (R239): Firmware releases an admitted decode stream. -/
  | decRelease
  /-- DEC_NAL_RECEIVED (R241): A NAL unit reaches a decode stream, possibly closing the previous picture or activating a new SPS. -/
  | decNalReceived (d t : Nat) (n : DecNal)
  /-- DEC_PICTURE_TIMEOUT (R241): No NAL unit for 1.5 picture periods closes the picture. -/
  | decPictureTimeout (d : Nat)
  /-- DEC_PICTURE_COMPLETE (R241): A closed picture finishes reconstruction and is published, or waits for its alignment instant. -/
  | decPictureComplete (d t : Nat)
  /-- DEC_ALIGN_PUBLISH (R234): At B(f+ALIGN-1), a waiting ferry picture is published. -/
  | decAlignPublish (d t : Nat)
  /-- DEC_NO_INPUT (R248): After 2 picture periods without a NAL unit, NO_INPUT is set. -/
  | decNoInput (d : Nat)
  /-- REF_CFG_WRITE (R256): A write of REF_CFG changes the time source, which passes through ACQUIRING. -/
  | refCfgWrite (a : Access) (v : Word)
  /-- REF_EDGE (R257): A REF_IN edge is screened and either ignored as a glitch or accepted to steer SYSTIME. -/
  | refEdge (t : Nat)
  /-- REF_EDGE_TIMEOUT (R257): No accepted edge for 2.5 P puts the reference into HOLDOVER. -/
  | refEdgeTimeout
  /-- TILE_MAP_DATA_WRITE (R261): A write of TBL_DATA stores a word of the tile map, check rectangle or thermal table and advances WORD and INDEX. -/
  | tileMapDataWrite (a : Access) (x : Nat) (v : Word)
  /-- CAL_DATA_WRITE (R267): A write of CAL_DATA updates a calibration cell, or its pending copy when the cell is referenced. -/
  | calDataWrite (a : Access) (x : Nat) (v : Word)
  /-- CAL_LOAD_START (R268): START copies calibration cells from the host pool, or ends FAILED at start. -/
  | calLoadStart (a : Access) (x : Nat) (v : Word)
  /-- CAL_LOAD_ABORT (R268): ABORT of the calibration load leaves the cells already written. -/
  | calLoadAbort (a : Access) (x : Nat) (v : Word)
  /-- CAL_LOAD_DONE (R268): The calibration load has written its last cell and ends DONE. -/
  | calLoadDone (x : Nat)
  /-- TILE_REPORT_RECEIVED (R290): A REPORT from a tile receiver is kept per lane and position, or discarded as bad. -/
  | tileReportReceived (n : Nat) (bs : List TileBlock)
  /-- CABLE_FAULT_DETECT (R298): A tile lane cable fault is detected, and a lane with code 1-4 goes out of service. -/
  | cableFaultDetect (n : Nat) (codes : List Nat)
  /-- CABLE_RETRY (R299): Every RETRY_INTERVAL, an out-of-service lane drives for 1 us to test its fault. -/
  | cableRetry (n : Nat) (found : List Nat)
  /-- CABLE_FAULT_CLEARS (R299): A fault whose cause has been absent long enough clears, and the lane returns to service. -/
  | cableFaultClears (n code : Nat)
  /-- TILE_LANE_RETRY (R301): LANE_CTL.RETRY retries the indexed tile lane at once. -/
  | tileLaneRetry (a : Access) (x : Nat) (v : Word) (k : WriteFinds)
  /-- BLOCK_LOCK_ACQUIRE (R291): The tile-lane receiver reaches block lock in normal or inverted polarity. -/
  | blockLockAcquire (n : Nat)
  /-- BLOCK_LOCK_POLARITY_TIMEOUT (R308): After 100 us without block lock, the receiver tries the other polarity. -/
  | blockLockPolarityTimeout (n : Nat)
  /-- LANE_PLL_LOCK (R308): The lane transmit PLL locks, and the transmitter starts sending. -/
  | lanePllLock (wide : Bool) (n : Nat)
  /-- LANE_PLL_TIMEOUT (R308): A PLL not locked after 1 ms records PLL_FAIL and retries. -/
  | lanePllTimeout (wide : Bool) (n : Nat)
  /-- LANE_CDR_LOCK (R308): The clock and data recovery locks, and the lane enters ADAPT. -/
  | laneCdrLock (wide : Bool) (n : Nat)
  /-- LANE_ADAPT_DONE (R308): Initial adaptation ends, and the lane enters IN_SERVICE. -/
  | laneAdaptDone (wide : Bool) (n : Nat) (eq : List Int) (eyeH eyeW : Nat)
  /-- LANE_LOS_ASSERT (R309): A weak input for 2 us asserts LOS, stopping received data. -/
  | laneLosAssert (wide : Bool) (n : Nat)
  /-- LANE_LOS_CLEAR (R309): A strong input for 100 us clears LOS and resumes bring-up. -/
  | laneLosClear (wide : Bool) (n : Nat)
  /-- LANE_LOL_ASSERT (R309): A frequency offset or no phase lock for 10 us asserts LOL. -/
  | laneLolAssert (wide : Bool) (n : Nat)
  /-- LANE_LOL_CLEAR (R309): Lock held for 100 us clears LOL. -/
  | laneLolClear (wide : Bool) (n : Nat)
  /-- LANE_ADAPT_UPDATE (R311): Background adaptation changes an equaliser value by at most one step, at most once per 10 us. -/
  | laneAdaptUpdate (wide : Bool) (n : Nat) (steps : List Int)
  /-- LANE_ADAPT_RESTART (R311): ADAPT_RESTART returns a lane to initial adaptation. -/
  | laneAdaptRestart (a : Access) (wide : Bool) (n : Nat) (v : Word)
  /-- LANE_LOOPBACK_CHANGE (R312): A change of LOOPBACK selects a loopback path and returns the lane to acquisition. -/
  | laneLoopbackChange (a : Access) (wide : Bool) (n : Nat) (v : Word)
  /-- LANE_ERR_CLEAR (R306): ERR_CLEAR sets PRBS_ERRORS to 0. -/
  | laneErrClear (a : Access) (wide : Bool) (n : Nat) (v : Word)
  /-- NET_LINK_RISE (R322): A NET port's PCS aligns and LINK rises. -/
  | netLinkRise (p : Nat)
  /-- NET_LINK_FALL (R322): A NET port loses alignment and LINK falls. -/
  | netLinkFall (p : Nat)
  /-- NET_TABLE_WRITE (R324): TBL_CTL.WRITE copies TBL_DATA into a NET table entry in one cycle, unless the entry is in use. -/
  | netTableWrite (a : Access) (x : Nat) (v : Word)
  /-- NET_TABLE_READ (R324): TBL_CTL.READ copies a NET table entry into TBL_DATA. -/
  | netTableRead (a : Access) (x : Nat) (v : Word)
  /-- PTP_MESSAGE_RECEIVED (R338): A PTP message is timestamped and processed by the BMCA and servo. -/
  | ptpMessageReceived (p t : Nat) (m : PtpPacket)
  /-- PTP_MESSAGE_TIMER (R338): At its configured interval, a port sends Announce, Sync or Delay_Req. -/
  | ptpMessageTimer (p : Nat) (m : PtpTimer)
  /-- PTP_ANNOUNCE_TIMEOUT (R338): ANNOUNCE_TIMEOUT intervals without an Announce from the master has the effects of REF_LOST. -/
  | ptpAnnounceTimeout (p : Nat)
  /-- SCHED_SELECT (R354): When a port can start a frame, the scheduler selects a head packet and starts or discards it. -/
  | schedSelect (p t : Nat)
  /-- GATE_ENTRY_BOUNDARY (R356): A gate control list reaches an entry boundary or cycle start, and the class gates change. -/
  | gateEntryBoundary (p t : Nat)
  /-- SCHED_TABLE_WRITE (R345): TBL_CTL.WRITE writes a scheduler table entry, staged or banked. -/
  | schedTableWrite (a : Access) (x : Nat) (v : Word)
  /-- SCHED_TABLE_READ (R345): TBL_CTL.READ copies the pending or active scheduler entry into TBL_DATA. -/
  | schedTableRead (a : Access) (x : Nat) (v : Word)
  /-- SCHED_TABLE_READ_ACTIVE (R345): TBL_CTL.READ_ACTIVE copies the active scheduler entry into TBL_DATA. -/
  | schedTableReadActive (a : Access) (x : Nat) (v : Word)
  /-- SCHED_PEAK_CLEAR (R344): PEAK_CLEAR sets BUF_PEAK to 0. -/
  | schedPeakClear (a : Access) (x : Nat) (v : Word)
  /-- FAB_LINK_CHANGE (R372): LINK of a fabric port rises or falls, moving the port to HELLO or DOWN. -/
  | fabLinkChange (p : Nat) (up : Bool)
  /-- FAB_HELLO_TIMER (R372): A fabric port whose LINK is 1 sends HELLO every 100 us. -/
  | fabHelloTimer (p : Nat)
  /-- FAB_HELLO_RECEIVED (R372): A valid HELLO moves the port to AUTH, or to REFUSED when looped or of another version. -/
  | fabHelloReceived (p : Nat) (f : FabFrame)
  /-- FAB_AUTH_RECEIVED (R373): An AUTH message advances the handshake, which on completion takes the port UP with new keys. -/
  | fabAuthReceived (p : Nat) (f : FabFrame)
  /-- FAB_AUTH_TIMEOUT (R372): AUTH not completed in 10 ms moves the port to REFUSED. -/
  | fabAuthTimeout (p : Nat)
  /-- FAB_PORT_SILENCE (R372): No valid frame for 300 us takes the port DOWN. -/
  | fabPortSilence (p : Nat)
  /-- FAB_REFUSED_RETRY (R372): After 1 s in REFUSED, the port returns to HELLO. -/
  | fabRefusedRetry (p : Nat)
  /-- FAB_REKEY (R373): When PN reaches 2^40, the port repeats AUTH while remaining UP. -/
  | fabRekey (p : Nat)
  /-- FAB_AUTO_REMAP (R371): A logical lane down for 100 us is swapped to a spare lane, and REMAP is sent. -/
  | fabAutoRemap (p l : Nat)
  /-- FAB_REMAP_RECEIVED (R371): A peer's REMAP makes this side perform the matching lane swap. -/
  | fabRemapReceived (p : Nat) (f : FabFrame)
  /-- FAB_CREDIT_RECEIVED (R374): A CREDIT frame updates the credits held per VC. -/
  | fabCreditReceived (p : Nat) (f : FabFrame)
  /-- FAB_CREDIT_SEND (R374): A CREDIT frame is sent after 32 credits are freed or 1 us after any is freed. -/
  | fabCreditSend (p : Nat)
  /-- FAB_CREDIT_STALL (R374): A VC that has held a frame for want of credit for 100 us shows CREDIT_STALL. -/
  | fabCreditStall (p vc : Nat)
  /-- FAB_FRAME_FORWARD (R381): A routed frame for another node is forwarded cut-through on its ROUTE set, or dropped. -/
  | fabFrameForward (p : Nat) (f : FabFrame)
  /-- FAB_LINK_STATE_TIMER (R379): A landed member floods LINK_STATE every 1 ms. -/
  | fabLinkStateTimer
  /-- FAB_LINK_STATE_RECEIVED (R379): A LINK_STATE is kept and forwarded unless already held. -/
  | fabLinkStateReceived (p : Nat) (f : FabFrame) (a : FabAttrs)
  /-- FAB_MEMBER_TIMEOUT (R379): A member without LINK_STATE for 3 ms is declared departed by the coordinator. -/
  | fabMemberTimeout (n : Nat)
  /-- FAB_ROUTE_UPDATE (R380): Within 50 us of a link state change, firmware rewrites the ROUTE table. -/
  | fabRouteUpdate
  /-- FAB_COORD_TIMEOUT (R375): A coordinator silent for 3 ms is replaced by the next eligible member. -/
  | fabCoordTimeout
  /-- FAB_COORD_SYNC_RECEIVED (R375): An eligible member takes the coordinator state from COORD_SYNC. -/
  | fabCoordSyncReceived (p : Nat) (f : FabFrame)
  /-- FAB_CFG_WRITE (R375): A write of FAB_CFG changes JOIN, eligibility or priorities, and may end the coordinator role. -/
  | fabCfgWrite (a : Access) (v : Word)
  /-- FAB_LAND_REQUEST_RECEIVED (R377): The coordinator chooses an ID and answers a LAND REQUEST with GRANT or REFUSE. -/
  | fabLandRequestReceived (p : Nat) (f : FabFrame)
  /-- FAB_LAND_GRANT_RECEIVED (R377): A device lands with the granted ID and ownership epoch. -/
  | fabLandGrantReceived (p : Nat) (f : FabFrame)
  /-- FAB_LAND_REFUSE_RECEIVED (R378): A refused device becomes fenced and shows the offered ID. -/
  | fabLandRefuseReceived (p : Nat) (f : FabFrame)
  /-- FAB_LEAVE (R378): LAND_CTL.LEAVE makes the device depart and become alone. -/
  | fabLeave (a : Access) (v : Word)
  /-- FAB_RELAND (R378): LAND_CTL.RELAND lets the ports leave HELLO and land again. -/
  | fabReland (a : Access) (v : Word)
  /-- FAB_ACCEPT_OFFER (R378): LAND_CTL.ACCEPT_OFFER makes the device request the offered ID. -/
  | fabAcceptOffer (a : Access) (v : Word)
  /-- FAB_TIME_REQUEST_TIMER (R382): Every 125 us, each UP port sends a TIME request. -/
  | fabTimeRequestTimer (p : Nat)
  /-- FAB_TIME_REQUEST_RECEIVED (R382): A TIME request is answered with t2, t3, the time source and REF_DIV. -/
  | fabTimeRequestReceived (p : Nat) (f : FabFrame) (t : Nat)
  /-- FAB_TIME_RESPONSE_RECEIVED (R382): A TIME response gives offset and delay, and the follower steers SYSTIME to its parent. -/
  | fabTimeResponseReceived (p : Nat) (f : FabFrame) (t : Nat)
  /-- RRA_START (R385): START sends a remote register access, or executes it locally when the target is the device itself. -/
  | rraStart (a : Access) (v : Word) (k : WriteFinds)
  /-- RRA_ABORT (R385): ABORT ends a remote register access that is still running. -/
  | rraAbort (a : Access) (v : Word)
  /-- RRA_TIMEOUT (R385): No response within RRA_TIMEOUT ends the access FAILED with TIMEOUT. -/
  | rraTimeout
  /-- FAB_REG_REQUEST_RECEIVED (R385): A target executes a REG request with PEER rights and returns a response. -/
  | fabRegRequestReceived (p : Nat) (f : FabFrame) (k : WriteFinds)
  /-- FAB_REG_RESPONSE_RECEIVED (R385): A REG response ends the access DONE with its result. -/
  | fabRegResponseReceived (p : Nat) (f : FabFrame)
  /-- FAB_JOIN_RECEIVED (R387): A JOIN or LEAVE updates the MCAST entry and is passed toward the producer. -/
  | fabJoinReceived (p : Nat) (f : FabFrame)
  /-- FAB_JOIN_REFRESH (R387): Every 100 ms, an enabled ferry DEC stream resends JOIN. -/
  | fabJoinRefresh (d : Nat)
  /-- FAB_MCAST_EXPIRY (R387): An MCAST port not refreshed for 300 ms is removed. -/
  | fabMcastExpiry (k p : Nat)
  /-- FAB_FERRY_RECEIVED (R387): A FERRY frame is multicast onward and delivered to local DEC streams. -/
  | fabFerryReceived (p : Nat) (f : FabFrame) (nals : List DecNal)
  /-- FAB_RECT_RECEIVED (R388): A RECT frame's pixels are written into the matching sink surface, or discarded. -/
  | fabRectReceived (p : Nat) (f : FabFrame)
  /-- FAB_EVENT_RECEIVED (R389): An EVENT frame updates the REMOTE_EVT levels per node and source. -/
  | fabEventReceived (p : Nat) (f : FabFrame)
  /-- FAB_TABLE_WRITE (R391): TBL_CTL.WRITE writes a FAB global table entry. -/
  | fabTableWrite (a : Access) (v : Word)
  /-- FAB_TABLE_READ (R391): TBL_CTL.READ copies a FAB global table entry into TBL_DATA. -/
  | fabTableRead (a : Access) (v : Word)
  /-- HELM_IN_CLASS_CHANGE (R399): The classification of HELM_IN changes, possibly making the non-home holder leave HOLDER. -/
  | helmInClassChange (c : Nat)
  /-- HELM_SENSE_FAULT (R400): HELM_SENSE differs from the drive for more than 200 ns after an edge, setting SENSE_FAULT. -/
  | helmSenseFault
  /-- HELM_SENSE_CLEAR (R400): SENSE_FAULT clears after 64 heartbeat periods without a difference. -/
  | helmSenseClear
  /-- MOOR_HEARTBEAT_TIMER (R408): Every 5 us, a moored unit sends HEARTBEAT on both mooring ports. -/
  | moorHeartbeatTimer
  /-- MOOR_HEARTBEAT_RECEIVED (R396): A mate's heartbeat updates mate state and raises EPOCH on a non-holder. -/
  | moorHeartbeatReceived (p : Nat) (f : FabFrame)
  /-- MOOR_TIMEOUT_EXPIRY (R402): No valid mooring frame for MOOR_TIMEOUT while HELM_IN is RELEASED triggers a claim. -/
  | moorTimeoutExpiry (p : Nat)
  /-- HELM_TAKEOVER_INSTANT (R404): 1 us after a claim, outputs are enabled and the replay window and takeover BEATs are sent. -/
  | helmTakeoverInstant (t : Nat)
  /-- HELM_YIELD_RECEIVED (R402): A HELM YIELD from the holder triggers a claim by the standby. -/
  | helmYieldReceived (p : Nat) (f : FabFrame)
  /-- MATE_HANDOVER (R403): MATE_CTL.HANDOVER makes the holder send YIELD and leave HOLDER. -/
  | mateHandover (a : Access) (v : Word)
  /-- MATE_REQUALIFY (R415): MATE_CTL.REQUALIFY takes a DEAD unit back to STANDBY. -/
  | mateRequalify (a : Access) (v : Word)
  /-- MATE_FORCE_CLAIM (R402): MATE_CTL.FORCE_CLAIM claims the helm unless HELM_IN is HOLD. -/
  | mateForceClaim (a : Access) (v : Word)
  /-- MOOR_COMPARE_RECEIVED (R413): The mate's comparison records are compared with the unit's own. -/
  | moorCompareReceived (p : Nat) (f : FabFrame)
  /-- MOOR_RECORD_MISSING (R413): An own record without the mate's record 2 beats later counts as MISSING. -/
  | moorRecordMissing (m : MateItem)
  /-- MOOR_HEALTH_RECEIVED (R416): The mate's HEALTH frame updates the mate health report. -/
  | moorHealthReceived (p : Nat) (f : FabFrame)
  /-- MOOR_THERMAL_RECEIVED (R409): A THERMAL frame from the holder supplies temperature reports for a later latch. -/
  | moorThermalReceived (p : Nat) (f : FabFrame)
  /-- ARB_START_RECEIVED (R414): An ARB START from the mate starts golden vectors on the stage concerned. -/
  | arbStartReceived (p : Nat) (f : FabFrame)
  /-- ARB_RUN_DONE (R414): The golden vector run completes, and ARB RESULT is sent. -/
  | arbRunDone (fail : Bool) (failed : List Nat)
  /-- ARB_RESULT_RECEIVED (R415): The mate's ARB RESULT decides the arbitration outcome. -/
  | arbResultReceived (p : Nat) (f : FabFrame)
  /-- ARB_RESULT_TIMEOUT (R415): A result missing after 10 ms makes the silent side fail. -/
  | arbResultTimeout
  /-- TAKEBACK_REQ_RECEIVED (R417): The holder answers a takeback request with ACK or NAK. -/
  | takebackReqReceived (p : Nat) (f : FabFrame)
  /-- TAKEBACK_ACK_RECEIVED (R417): The home unit waits for B(F) to take the helm back. -/
  | takebackAckReceived (p : Nat) (f : FabFrame)
  /-- TAKEBACK_NAK_RECEIVED (R417): A NAK fails the takeback attempt and starts HOLDOFF. -/
  | takebackNakReceived (p : Nat) (f : FabFrame)
  /-- TAKEBACK_YIELD (R417): At B(F), the holder yields silently and the home unit claims by trigger 4. -/
  | takebackYield (t : Nat)
  /-- TAKEBACK_TIMEOUT (R417): No answer by B(F-1) fails the takeback attempt. -/
  | takebackTimeout
  /-- HOLDOFF_EXPIRY (R417): The HOLDOFF period ends, and the unit returns to qualification. -/
  | holdoffExpiry
  /-- AUDIO_FRAME_START (R422): At A(s), each audio port starts a TDM frame, transmitting and capturing its slots. -/
  | audioFrameStart (t : Nat) (sdi : List (Nat × List Nat))
  /-- AUDIO_BLOCK_WRITE (R430): Within 20 us of a block's end, its record is written to the receive ring. -/
  | audioBlockWrite (p : Nat)
  /-- CVU_START (R441): START samples the configuration and begins a memory scan or snoop, or ends FAILED at start. -/
  | cvuStart (a : Access) (n : Nat) (v : Word)
  /-- CVU_ABORT (R447): ABORT ends a check-value operation, leaving RESULT unchanged. -/
  | cvuAbort (a : Access) (n : Nat) (v : Word)
  /-- CVU_SCAN_DONE (R441): A memory scan completes, writing RESULT and releasing its scan lease. -/
  | cvuScanDone (n : Nat)
  /-- CVU_SNOOP_FRAME (R442): A whole snooped frame is fed to the CRC, forming a result at the end of each group. -/
  | cvuSnoopFrame (n : Nat)
  /-- CVU_MEMORY_ERROR (R444): An uncorrectable HBM error in a scanned block ends the scan FAILED. -/
  | cvuMemoryError (n k : Nat)
  /-- CVU_VAL_LO_READ (R440): A read of VAL_LO captures the whole selected 64-bit value. -/
  | cvuValLoRead (a : Access) (n : Nat)
  /-- CVU_VAL_LO_WRITE (R440): A write of VAL_LO is held as the low half. -/
  | cvuValLoWrite (a : Access) (n : Nat) (v : Word)
  /-- CVU_VAL_HI_WRITE (R440): A write of VAL_HI stores both halves of the selected value in one cycle. -/
  | cvuValHiWrite (a : Access) (n : Nat) (v : Word)
  /-- TOKEN_ROOT_PROVISION (R456): A ROOT_PROVISION token programs and verifies ROOT_HASH, then ROOT_STATE. -/
  | tokenRootProvision (o : MbxOutcome)
  /-- TOKEN_POLICY_SET (R460): A POLICY_SET token applies a new policy record. -/
  | tokenPolicySet (o : MbxOutcome)
  /-- TOKEN_CERT_INSTALL (R456): A CERT_INSTALL token installs the device certificate. -/
  | tokenCertInstall (o : MbxOutcome)
  /-- TOKEN_SEAL (R463): A SEAL token installs sealed ranges after checking the outputs may carry them. -/
  | tokenSeal (o : MbxOutcome)
  /-- TOKEN_UNSEAL (R456): An UNSEAL token removes sealed ranges in one cycle. -/
  | tokenUnseal (o : MbxOutcome)
  /-- TOKEN_REG_WRITE (R456): A REG_WRITE token executes register writes with OWNER rights. -/
  | tokenRegWrite (o : MbxOutcome)
  /-- TOKEN_SVN_ADVANCE (R456): An SVN_ADVANCE token raises SVN_MIN in the fuses. -/
  | tokenSvnAdvance (o : MbxOutcome)
  /-- TOKEN_DEBUG_PERMA_CLOSE (R456): A DEBUG_PERMA_CLOSE token programs DEBUG_DISABLE and ends every session. -/
  | tokenDebugPermaClose (o : MbxOutcome)
  /-- TOKEN_PW_RESET (R456): A PW_RESET token sets the password failure count to 0. -/
  | tokenPwReset (o : MbxOutcome)
  /-- DEVICE_ID (R458): The DEVICE_ID command writes the device certificate or its layout to a buffer. -/
  | deviceId
  /-- ATTEST (R468): The ATTEST command writes a signed quote of the measurements. -/
  | attest
  /-- MEAS_EXTEND (R458): The MEAS_EXTEND command extends M6 or M7 with host data. -/
  | measExtend
  /-- KEY_LOAD_START (R462): START begins unwrapping a key blob into a key slot. -/
  | keyLoadStart (a : Access) (v : Word)
  /-- KEY_LOAD_ABORT (R462): ABORT ends a running key load. -/
  | keyLoadAbort (a : Access) (v : Word)
  /-- KEY_LOAD_DONE (R462): A key load finishes DONE, or FAILED with its cause. -/
  | keyLoadDone (tag : Bool)
  /-- KEY_CLEAR (R462): KEY_CTL.CLEAR empties the indexed key slot unless it is in use. -/
  | keyClear (a : Access) (v : Word)
  /-- DBG_CHALLENGE (R471): DBG_CTL.CHALLENGE issues a new 48-byte challenge, making the previous one stale. -/
  | dbgChallenge (a : Access) (v : Word)
  /-- DBG_CLOSE (R473): DBG_CTL.CLOSE ends the session and returns PV bits to their reset values. -/
  | dbgClose (a : Access) (v : Word)
  /-- DBG_RESPONSE_CHECK (R472): START checks a challenge response and opens a SERVICE session if it passes. -/
  | dbgResponseCheck (a : Access) (v : Word) (k : WriteFinds)
  /-- DBG_RESPONSE_ABORT (R472): ABORT ends a running response check. -/
  | dbgResponseAbort (a : Access) (v : Word)
  /-- PW_CHECK (R470): START checks a password and opens a DIAG session, or counts a failure. -/
  | pwCheck (a : Access) (v : Word)
  /-- PW_CHECK_ABORT (R470): ABORT ends a running password check. -/
  | pwCheckAbort (a : Access) (v : Word)
  /-- PW_DELAY_EXPIRY (R470): The password retry delay ends, and attempts are accepted again. -/
  | pwDelayExpiry
  /-- SESSION_EXPIRY (R473): A debug session reaches its duration and ends. -/
  | sessionExpiry
  /-- CHALLENGE_EXPIRY (R471): A challenge older than 60 s becomes invalid. -/
  | challengeExpiry
  /-- JTAG_EXTEST (R469): Loading EXTEST, CLAMP or HIGHZ resets every domain except DOMAIN_00, empties key slots and ends sessions. The
  operands are the instruction loaded and the bits then shifted in; the other instructions that are always available come this way too. -/
  | jtagExtest (i : JtagInstruction := .extest) (tdi : List Bool := [])
  /-- JTAG_DBG_UNLOCK (R469): DBG_UNLOCK shifts in a password or a challenge response for checking. -/
  | jtagDbgUnlock (response : Bool) (b : List Byte) (sig : Bool)
  /-- JTAG_DBG_READ (R469): DBG_READ performs a register or memory read within a session. -/
  | jtagDbgRead (memory : Bool) (a n : Nat)
  /-- JTAG_DBG_WRITE (R469): DBG_WRITE performs a register or memory write in a SERVICE session. -/
  | jtagDbgWrite (memory : Bool) (a : Nat) (v : Word) (bytes : List Byte) (k : WriteFinds)
  /-- JTAG_DBG_SCAN (R469): DBG_SCAN accesses internal scan in a SERVICE session. -/
  | jtagDbgScan (n : Nat)
  /-- GOV_SLACK_ENTRY (R478): The governor puts an idle domain into the deepest slack state that fits its horizon. -/
  | govSlackEntry (d t : Nat)
  /-- GOV_SLACK_EXIT (R478): A domain begins leaving its slack state ahead of its next known event, or at work without notice. -/
  | govSlackExit (d t : Nat)
  /-- REQ_DIM (R485): REQ_DIM yields the helm, stops rasters and channels, and takes the device toward DIM. -/
  | reqDim (a : Access) (v : Word)
  /-- DIM_ENTRY_DONE (R485): The domains take their DIM states, the retention snapshot is written, and DEV_STATE becomes DIM. -/
  | dimEntryDone
  /-- REQ_ACTIVE (R485): REQ_ACTIVE restores the domains from DIM. -/
  | reqActive (a : Access) (v : Word)
  /-- DIM_EXIT_DONE (R485): The domains are restored, rasters and channels restart, and DEV_STATE becomes ACTIVE. -/
  | dimExitDone
  /-- REQ_DORMANT (R486): REQ_DORMANT yields the helm, writes the retention snapshot and powers down all but DOMAIN_00. -/
  | reqDormant (a : Access) (v : Word)
  /-- WAKE_PIN (R486): WAKE_N held low for 1 ms wakes a DORMANT device with a MAIN reset. -/
  | wakePin
  /-- WAKE_LANE_SIGNAL (R486): A signal on WAKE_LANE for 100 us wakes a DORMANT device. -/
  | wakeLaneSignal (n : Nat)
  /-- SMBUS_WAKE (R514): The SMBus Send Byte 0x10 wakes a DORMANT device when enabled. -/
  | smbusWake (address : Nat) (pec : Bool)
  /-- VIN_MAIN_LOSS (R486): VIN_MAIN below 36 V, or above 62 V, for 50 us enters AUX-ONLY or loses all state. -/
  | vinMainLoss
  /-- VIN_MAIN_RETURN (R486): VIN_MAIN returning in AUX-ONLY causes a MAIN reset. -/
  | vinMainReturn
  /-- VIN_AUX_LOSS (R509): VIN_AUX below 2.2 V for 50 us is lost. -/
  | vinAuxLoss
  /-- POWER_ON (R510): The first supply passing its start threshold powers DOMAIN_00, a COLD reset if it was unpowered. -/
  | powerOn (viaMain : Bool) (strap : Nat)
  /-- SYS_XO_READY (R510): SYS_XO present for 1 ms starts the always-on island and SYSTIME. -/
  | sysXoReady
  /-- RESET_RELEASE (R510): Reset is released and the boot ROM starts choosing and loading the firmware image. -/
  | resetRelease (passA passB home : Bool)
  /-- BOOT_COMPLETE (R492): Firmware serves the MBX page and records BOOT_TIME_MS. -/
  | bootComplete (version svn hash time : Nat)
  /-- RESET_N_LOW (R513): RESET_N low for at least 1 us causes a DEVICE reset. -/
  | resetNLow
  /-- RESET_CTL_DEVICE (R489): SYS.RESET_CTL.DEVICE requests a DEVICE reset that takes effect 20 us later. -/
  | resetCtlDevice (a : Access) (v : Word)
  /-- DEVICE_RESET_EFFECT (R489): 20 us after a requested reset, every domain except DOMAIN_00 is reset. -/
  | deviceResetEffect
  /-- WATCHDOG_EXPIRY (R488): FW_HEARTBEAT not advanced for 1 s causes a DEVICE reset. -/
  | watchdogExpiry
  /-- THERMAL_TRIP (R488): A junction at or above 128 C for 100 us holds the device in reset. -/
  | thermalTrip
  /-- THERMAL_TRIP_RELEASE (R488): The junction falling below 110 C releases the thermal trip reset. -/
  | thermalTripRelease
  /-- LINK_RESET (R488): PERST_N, a hot reset or an FLR resets DOMAIN_02 only and ends any debug session. -/
  | linkReset
  /-- ISLAND_PLL_LOSS (R483): An island PLL loses lock, and its work is treated as an uncorrectable error. -/
  | islandPllLoss (n : Nat)
  /-- PWR_PEAK_CLEAR (R482): PWR_CTL.PEAK_CLEAR sets PEAK_MW to 0. -/
  | pwrPeakClear (a : Access) (v : Word)
  /-- LOCK_EVENTS_CLEAR (R483): CLK_CTL.LOCK_EVENTS_CLEAR sets LOCK_EVENTS to 0. -/
  | lockEventsClear (a : Access) (v : Word)
  /-- MBX_COMMAND_DONE (R494): A mailbox command completes, taking effect and writing its response words. -/
  | mbxCommandDone (o : MbxOutcome)
  /-- MBX_CMD_ABORT (R494): ABORT of the running mailbox command ends it, changing nothing for most commands. -/
  | mbxCmdAbort (a : Access) (v : Word)
  /-- MBX_UNKNOWN_COMMAND (R494): START with an unknown code ends FAILED with UNKNOWN set. -/
  | mbxUnknownCommand (a : Access) (v : Word)
  /-- DEVICE_RESET (R495): The DEVICE_RESET command writes its response and requests a DEVICE reset. -/
  | deviceReset
  /-- IMG_STAGE (R498): IMG_STAGE copies a firmware image into HBM and checks it. -/
  | imgStage (o : MbxOutcome)
  /-- IMG_WRITE (R498): IMG_WRITE erases and programs the target slot from the staged image. -/
  | imgWrite (o : MbxOutcome)
  /-- IMG_VERIFY (R498): IMG_VERIFY reads the slot back and compares its hash with the staged image. -/
  | imgVerify (o : MbxOutcome)
  /-- IMG_SWITCH (R498): IMG_SWITCH writes a new switch record naming the target slot. -/
  | imgSwitch (o : MbxOutcome)
  /-- RECOVERY_BOOT (R491): In RECOVERY, RECOVERY_BOOT runs a verified image from the host pool. -/
  | recoveryBoot (o : MbxOutcome)
  /-- MCODE_RELOAD (R496): MCODE_RELOAD withdraws a chiplet's engines, loads new microcode and returns them after golden vectors. -/
  | mcodeReload (o : MbxOutcome)
  /-- HBM_REPAIR (R497): HBM_REPAIR remaps an HBM row to a spare and optionally marks it for hard repair. -/
  | hbmRepair (o : MbxOutcome)
  /-- RASTER_SELFTEST (R499): RASTER_SELFTEST runs golden vectors through a raster's pipelines in safe colour frames. -/
  | rasterSelftest (o : MbxOutcome)
  /-- RETENTION_READ (R487): RETENTION_READ writes the retention snapshot to a host pool buffer. -/
  | retentionRead
  /-- SELFTEST_VECTOR_DONE (R416): A background golden vector run on a lent engine or pipeline completes. -/
  | selftestVectorDone (u : Nat) (pass : Bool)
  /-- HBM_SCRUB_CORRECT (R416): The HBM scrub corrects a single-bit error in place. -/
  | hbmScrubCorrect
  /-- SMBUS_REGISTER_WRITE (R514): An SMBus Block Write with command 0x02 writes a register. -/
  | smbusRegisterWrite (address : Nat) (pec : Bool) (off : Nat) (v : Word) (k : WriteFinds)
  /-- SMBUS_READ_OFFSET (R514): An SMBus Block Write with command 0x01 sets the offset of the next read. -/
  | smbusReadOffset (address : Nat) (pec : Bool) (off : Nat)
  /-- SMBUS_READ_DATA (R514): An SMBus Block Read with command 0x03 returns the register at the set offset. -/
  | smbusReadData (address : Nat)
  /-- VOUT_SHORT (R511): A short on VOUT_3V3 or VOUT_1V8 turns the rail off. -/
  | voutShort (k : Nat)
  /-- VOUT_RETRY (R511): Every 100 ms, a shorted output rail retries. -/
  | voutRetry (k : Nat) (shorted : Bool)
  /-- DORMANT_ENTRY_DONE (R486): After the helm has been yielded and the retention snapshot written, power is removed from every domain except DOMAIN_00 and the device leaves ENTERING_DORMANT for DORMANT. -/
  | dormantEntryDone
  /-- HBM_SCRUB_UNCORRECTABLE (R416): The background HBM scrub finds an uncorrectable error, which counts in HEALTH_0 and makes the health report CRITICAL for 1,024 beats. -/
  | hbmScrubUncorrectable
  /-- MSIX_TABLE_WRITE (R52): A host write to the MSI-X table in BAR4 masks or unmasks a vector, and unmasking a vector that is armed with level 1 sends its message. -/
  | msixTableWrite (e k : Nat) (v : Word)
  deriving DecidableEq, Repr

end Sys2Proof
end

