-- ==== Sys2Proof/Config.lean ====
section
/-!
DEFINITION. What the spec leaves to an implementation or to a standard it names, and the free values. None of these
constants has a body: no proof can see a value of them (assumption log 2).
-/

namespace Sys2Proof.Config

/-- A value the spec leaves open, by the number of the draw (the state's counter `freeCount`) and the width. -/
opaque freeValue : Nat → Nat → Nat

/-- SHA-384 of a byte string (20_security.md R467, R455; FIPS 180-4 is not restated in the spec), as a number of 384 bits. -/
opaque sha384 : List (BitVec 8) → Nat

/-- The instant, in SYSTIME units after the frame's beat, at which SMPTE ST 2110-21 lets packet `k` of `n` of a frame leave
(R334), by sender type (0 narrow gapped, 1 narrow linear). -/
opaque senderOffset : Nat → Nat → Nat → Nat

/-- The parameter sets that a decode stream holds (R231), as one number: those held before, and the bytes of the next. -/
opaque parameterSets : Nat → List Nat → Nat

/-- A decoded picture as one number (R231: decoding is normative, by ITU-T H.266 or H.265, which the spec does not restate): a
function of the parameter sets, the bytes of the slices by first CTU, the pictures that its reference lists name (none: mid-grey), the
concealed CTUs, and the picture that those are taken from. In-loop filtering follows R245: no sample of a concealed CTU is
modified, edges between concealed and received CTUs are not deblocked, and other samples are filtered as their syntax states. -/
opaque decodedPicture : Nat → List (Nat × List (BitVec 8)) → List (Option Nat) → List Nat → Option Nat → Nat

/-- A sample of a decoded picture by its place in the surface, and a byte of its motion field. -/
opaque decodedSample : Nat → Nat → Nat
opaque decodedMotion : Nat → Nat → BitVec 8

/-- Limits of Annex A of the codecs (R147, R152, R185; ITU-T H.265 and H.266 are not restated), by codec (0 VVC, 1 HEVC),
profile, tier, general_level_idc and what is limited: 0 luma samples of a picture, 1 luma samples of a dimension, 2 luma
sample rate, 3 tile columns, 4 tiles, 5 slices, 6 subpictures, 7 NAL bit rate, 8 NAL buffer size in bits. -/
opaque levelLimit : Nat → Nat → Nat → Nat → Nat → Nat

/-- Byte size, start code included, of a non-VCL NAL unit (R149, R190, R191: its fields have fixed lengths), by the channel's words, its
entry's words, the picture's kind (0 IDR, 1 first of a sweep, 2 other) and the number of the NAL unit's type (EncNal.code); an ALF APS
of 0 bytes is not sent. -/
opaque nalBytes : List Nat → List Nat → Nat → Nat → Nat

/-- Bits of the start code, NAL header and slice header of a slice, entry points apart (R191), by the channel's words, its entry's words
and the slice's number. -/
opaque sliceHead : List Nat → List Nat → Nat → Nat

/-- WORK_SIZE of a channel in 64 KiB units (R154, R182: the layout belongs to firmware), by its grant's words. -/
opaque workSize : List Nat → Nat

/-- Where firmware's layout puts a byte in a channel's work area (R154), by the latched words: of a source slot (0), a reconstructed
picture (1), its motion field (2) or the coded slice buffer (3), by the slot and the byte's offset in it. -/
opaque workPlace : List Nat → Nat → Nat → Nat → Nat

/-! Coding by ITU-T H.266 and H.265, which the spec does not restate, within the decisions that it fixes. -/

/-- The coding of a coded 64 × 64 block by the table of R216: in floor mode as an inter or an intra region (R192), intra, static
(R217), or by the normal decision. -/
inductive BlockCode where
  | floorInter
  | floorIntra
  | intra
  | still
  | normal
  deriving DecidableEq, Repr

/-- The search of a luma area for one reference index (R150, R218, R219, R223, R227): the reference index; the area's x, y and size in
coded luma; the centre of the integer search, in 1/16 luma samples for VVC and 1/4 for HEVC (none: the encoder's own choice); its reach in luma
samples about the centre (none: the window, by EFFORT), 0 for a sub-sample refinement alone; whether the centre is evaluated first;
the vectors that are candidates beside zero and merge; and the bounds of a vector, x from and to, y from and to, in the same units. -/
structure RefSearch where
  ref : Nat
  area : Nat × Nat × Nat
  centre : Option (Int × Int)
  reach : Option Nat
  first : Bool
  candidates : List (Int × Int)
  window : Int × Int × Int × Int
  deriving DecidableEq, Repr

/-- What the spec fixes of a block's coding (R192, R216-R223): how it is coded, the base QP of its CUs, whether every partition is
evaluated down to the smallest CU, whether transform skip is evaluated, whether the CTU has SAO, ALF and CC-ALF off, whether a CTU of 128 is split
once (else one CU), and its searches. -/
structure BlockPlan where
  code : BlockCode
  qp : Nat
  allPartitions : Bool
  transformSkip : Bool
  filtersOff : Bool
  split : Bool
  searches : List RefSearch
  deriving DecidableEq, Repr

/-- The syntax of a static block (R217): a skip CU with a merge index, or a non-merge inter CU with predictor index 0, a motion vector
difference and no coded residual. -/
inductive StaticCu where
  | skip (index : Nat)
  | amvp (dx dy : Int)
  deriving DecidableEq, Repr

/-- The floor coding of a CTU (R192): the CUs it is coded as (4 where a CTU of 128 is split once), each a skip CU with a merge index, or an intra CU
with DC prediction for luma and the derived chroma mode; whether residual is coded; and whether SAO and ALF are on. -/
structure FloorCtu where
  cus : Nat
  skip : Option Nat
  intraDc : Bool
  derivedChroma : Bool
  residual : Bool
  sao : Bool
  alf : Bool
  deriving DecidableEq, Repr

/-- The coding tools of R148, used and absent. -/
inductive Tool where
  | quadTree | binarySplit | ternarySplit | asymmetric
  | intra67 | mrl | isp | mip | cclm | intra35
  | merge | mmvd | sbTmvp | tmvp | amvp | amvr | smvd | bcw | bdof | dmvr | ciip | gpm | affine4
  | mts | lfnst | sbt | transformSkip | dependentQuantisation | jointCbCr | signHiding
  | deblocking | sao | alf | ccAlf | lmcs
  | tiles | subpictures | idr | gdr | recoveryPoint
  | ibc | palette | act | rpr | affine6 | wavefront | scalingLists | weightedPrediction | longTermReferences | reordering | fieldCoding
  | lossless | dependentSlices | pcm | transquantBypass | rangeExtensions
  deriving DecidableEq, Repr

/-- Everything on which the output of a pixel job depends (R164): the latched words of the channel's page, entry and ladder page, the
allowed tools (R148), the picture's number since its last IDR, kind and sweep, whether temporal motion vector prediction is on (R197), row and tile
column, planned QP, the row's source lines, the blocks of the job with what is fixed of their coding, the reconstructed lines of the
rows that R32 allows by reference index and row, and for HEVC the result of the job above in the same slice (R162, R191). -/
structure JobInput where
  words : List Nat
  rc : List Nat
  ladder : List Nat
  tools : List Tool
  poc : Nat
  kind : Nat
  sweep : Option (Nat × Nat)
  tmvp : Bool
  row : Nat
  col : Nat
  qp : Nat
  src : List (List Nat)
  plans : List ((Nat × Nat) × BlockPlan)
  refs : List (List (Nat × List (List Nat)))
  above : Option Nat
  deriving DecidableEq, Repr

/-- For each merge candidate of a block, in order, whether it is exactly uni-prediction from reference index 0 with vector (0, 0), without
MMVD, GPM, CIIP, affine, SbTMVP or a non-default BCW (R217). -/
opaque mergeIsStill : JobInput → Nat × Nat → List Bool

/-- The motion vector predictor 0 of a block for reference index 0 (R217). -/
opaque predictor0 : JobInput → Nat × Nat → Int × Int

/-- The result of a pixel job as one number: its syntax, reconstruction and coder state (R164), with the syntax of its static blocks. -/
opaque pixelJob : JobInput → List ((Nat × Nat) × StaticCu) → Nat

/-- The floor coding of the job's CTUs, by CTU column, by the floor recoder (R192, R196), as one number. -/
opaque floorJob : JobInput → List (Nat × FloorCtu) → Nat

/-- The exact size in bits that a result adds to the stream (R191). -/
opaque jobBits : Nat → Nat

/-- A sample of a result before the seam filter (R162), by component, x and y in the picture. -/
opaque jobSample : Nat → Nat → Nat → Nat → Nat

/-- A sample after the seam filter (R163): of the results, by tile column, of the row above, the row and the row below, whether filtering
crosses the boundary above, the one below and those of tile columns, component, x and y. -/
opaque finalSample : List (List Nat) → List Bool → Nat → Nat → Nat → Nat

/-- A luma value after the forward and inverse mapping of LMCS (R217), of a result. -/
opaque lmcsTrip : Nat → Nat → Nat

/-- A byte of the motion field of a result. -/
opaque motionByte : Nat → Nat → BitVec 8

/-- The NAL unit header of a filler data NAL unit (R198), by HEVC and byte. -/
opaque fillerHeader : Bool → Nat → Nat

/-- A byte of a coded slice without its start code (R169), of the results of its jobs. -/
opaque sliceByte : List Nat → Nat → BitVec 8

/-- The best vector that rung 0 finds for a 16 × 16 block (x, y) and a reference index, in 1/16 luma, and the SATD of its prediction
error (R226). -/
opaque foundMotion : JobInput → Nat → Nat → Nat → (Int × Int) × Nat

/-- A byte of the public keys derived from DEVICE_SEED (R453): key 0 is D_S, key 1 is D_A; uncompressed, 97 bytes. -/
opaque publicKey : Nat → Nat → BitVec 8

/-- The bytes that extend measurement M0, M1 or M2 (R467), by its number and what it records; the spec does not lay them out. -/
opaque measured : Nat → List Nat → List (BitVec 8)

end Sys2Proof.Config
end

