-- ==== Sys2Proof/Machine/RegTable.lean ====
section
/-!
DEFINITION. The register inventory of Azloth: the page types of R34 and, for every page type, the registers that the
owning chapter's tables give it (offset, access code of every bit under R36, reset value), and a name for every
register and field, written PAGE_REGISTER_FIELD after R10. Written from the register tables of the spec's chapters.
-/

namespace Sys2Proof.Machine

/-- The page types of R34, in its order; `rcEntry` is the per-channel rate-control entry that the ENC RC page shows
through RC_INDEX (R184), which has no page of its own in BAR0. -/
inductive PageType where
  | sys | sec | pwr | pwrDom | clk | evt | mbx | ingest | lease | compRaster | compLayer | compScaler | stillPool
  | colour | enc | tsk | ladder | encRc | dec | scan | tileMap | cal | tile | wide | tileLane | net | netGlobal
  | sched | schedTable | fabPort | fab | mate | aud | cvu | rcEntry
  deriving DecidableEq, Repr

/-- A page: its type and its instance number. -/
structure Page where
  ty : PageType
  inst : Nat
  deriving DecidableEq, Repr

/-- A bit field `[hi:lo]` of the register at offset `off` of a page (R9, R10). -/
structure Field where
  off : Nat
  hi : Nat
  lo : Nat
  deriving DecidableEq, Repr

/-- The access codes of one register, one mask per code of R36; a bit in no mask is RO, RL or RQ. `count` registers
of one kind stand at consecutive words. -/
structure RegDesc where
  off : Nat
  count : Nat
  rw : Nat
  rwi : Nat
  pv : Nat
  wa : Nat
  reset : Nat
  deriving DecidableEq, Repr

/-- One row of R34: type code, number of pages, first page offset, block registers per page. -/
structure PageInfo where
  ty : PageType
  code : Nat
  count : Nat
  first : Nat
  blockRegs : Nat
  deriving DecidableEq, Repr

/-- R34: the page inventory of BAR0, in ascending order of first page offset. -/
def pageTable : List PageInfo :=
  [⟨.sys, 0x1, 1, 0x0, 96⟩,
   ⟨.sec, 0x2, 4, 0x10000, 32⟩,
   ⟨.pwr, 0x3, 1, 0x20000, 32⟩,
   ⟨.pwrDom, 0x4, 1, 0x21000, 144⟩,
   ⟨.clk, 0x5, 1, 0x22000, 32⟩,
   ⟨.evt, 0x6, 1, 0x30000, 152⟩,
   ⟨.mbx, 0x7, 1, 0x40000, 48⟩,
   ⟨.ingest, 0x10, 64, 0x100000, 8⟩,
   ⟨.lease, 0x11, 1, 0x140000, 16⟩,
   ⟨.compRaster, 0x20, 32, 0x200000, 8⟩,
   ⟨.compLayer, 0x21, 128, 0x220000, 8⟩,
   ⟨.compScaler, 0x22, 48, 0x2A0000, 4⟩,
   ⟨.stillPool, 0x23, 1, 0x2E0000, 16⟩,
   ⟨.colour, 0x30, 32, 0x300000, 6⟩,
   ⟨.enc, 0x40, 128, 0x400000, 8⟩,
   ⟨.tsk, 0x41, 1, 0x480000, 64⟩,
   ⟨.ladder, 0x42, 16, 0x4C0000, 8⟩] ++
  [⟨.encRc, 0x43, 1, 0x4D0000, 32⟩,
   ⟨.dec, 0x50, 64, 0x500000, 6⟩,
   ⟨.scan, 0x60, 32, 0x600000, 8⟩,
   ⟨.tileMap, 0x61, 2, 0x680000, 8⟩,
   ⟨.cal, 0x62, 2, 0x690000, 8⟩,
   ⟨.tile, 0x70, 2, 0x700000, 16⟩,
   ⟨.wide, 0x80, 128, 0x800000, 8⟩,
   ⟨.tileLane, 0x84, 896, 0x880000, 3⟩,
   ⟨.net, 0xC0, 64, 0xC00000, 6⟩,
   ⟨.netGlobal, 0xC1, 2, 0xC80000, 32⟩,
   ⟨.sched, 0xD0, 80, 0xD00000, 4⟩,
   ⟨.schedTable, 0xD1, 2, 0xD80000, 16⟩,
   ⟨.fabPort, 0xE0, 16, 0xE00000, 8⟩,
   ⟨.fab, 0xE1, 1, 0xE10000, 32⟩,
   ⟨.mate, 0xF0, 1, 0xF00000, 32⟩,
   ⟨.aud, 0x100, 16, 0x1000000, 8⟩,
   ⟨.cvu, 0x110, 16, 0x1100000, 12⟩]

/-- R40: the common header of every page. PAGE_CTL.ENABLE is RW where the page is buffered and RWI elsewhere (R526). -/
def headerRegs (buffered : Bool) : List RegDesc :=
  [⟨0x000, 1, 0, 0, 0, 0, 0⟩, ⟨0x004, 1, 0, 0, 0, 0, 0⟩,
   (if buffered then ⟨0x008, 1, 0x1, 0x1F00, 0xFFFFE0FE, 0, 0⟩ else ⟨0x008, 1, 0, 0x1F01, 0xFFFFE0FE, 0, 0⟩),
   ⟨0x00C, 1, 0, 0, 0, 0, 0⟩, ⟨0x010, 1, 0, 0, 0, 0x8000, 0⟩, ⟨0x014, 1, 0, 0, 0, 0, 0⟩, ⟨0x018, 1, 0, 0, 0, 0, 0⟩,
   ⟨0x01C, 1, 0, 0, 0, 0, 0⟩, ⟨0x020, 1, 0, 0xFFFFFFFF, 0, 0, 0⟩, ⟨0x024, 1, 0, 0, 0, 0, 0⟩, ⟨0x028, 1, 0, 0, 0, 0, 0⟩,
   ⟨0x02C, 5, 0, 0, 0, 0, 0⟩]

/-! Offsets and fields of the common header (R40-R42). -/
namespace Reg
def PAGE_CTL_ENABLE : Field := ⟨0x008, 0, 0⟩
def PAGE_CTL_COMMIT_GROUP : Field := ⟨0x008, 12, 8⟩
def PAGE_STATUS : Field := ⟨0x00C, 31, 0⟩
def PAGE_STATUS_COND : Field := ⟨0x00C, 30, 0⟩
def EVT_ENABLE : Field := ⟨0x020, 31, 0⟩
end Reg

/-- The block registers of a sys page (01_architecture.md R27, 01_architecture.md R29, 03_frame_commits.md R55, 03_frame_commits.md R74, 11_scanout.md R255, 21_power_reset_boot.md R489). -/
def sysRegs : List RegDesc :=
  [⟨0x100, 1, 0xF, 0x0, 0xFFFFFFF0, 0x0, 0x9⟩, ⟨0x104, 1, 0x0, 0x0, 0x0, 0x0, 0x0⟩,
   ⟨0x108, 1, 0x0, 0x0, 0x0, 0x0, 0x0⟩, ⟨0x10C, 1, 0x0, 0x0, 0x0, 0x0, 0x0⟩,
   ⟨0x110, 1, 0x0, 0x0, 0x0, 0x0, 0x0⟩, ⟨0x114, 1, 0x0, 0x0, 0x0, 0x0, 0x0⟩,
   ⟨0x118, 1, 0x0, 0x0, 0x0, 0x0, 0x0⟩, ⟨0x180, 1, 0x0, 0x0, 0x0, 0x0, 0xB1009640⟩,
   ⟨0x184, 1, 0x0, 0x0, 0x0, 0x0, 0x2470⟩, ⟨0x188, 1, 0x0, 0x0, 0x0, 0x0, 0x100⟩,
   ⟨0x040, 1, 0x0, 0xFFFFFFFF, 0x0, 0x0, 0x0⟩, ⟨0x044, 1, 0x0, 0x1F03, 0xFFFFE0FC, 0x0, 0x0⟩,
   ⟨0x048, 1, 0x0, 0xFFFFFFFF, 0x0, 0x0, 0x0⟩, ⟨0x04C, 1, 0x0, 0xFFFF, 0xFFFF0000, 0x0, 0x0⟩,
   ⟨0x050, 1, 0x0, 0x0, 0xFFFFFFFC, 0x3, 0x0⟩, ⟨0x054, 1, 0x0, 0x0, 0x0, 0x0, 0x0⟩,
   ⟨0x058, 1, 0x0, 0x0, 0x0, 0x0, 0x0⟩, ⟨0x05C, 1, 0x0, 0x0, 0x0, 0x0, 0x0⟩,
   ⟨0x060, 4, 0x0, 0x0, 0x0, 0x0, 0x0⟩, ⟨0x070, 1, 0x0, 0x0, 0x0, 0x0, 0x0⟩,
   ⟨0x074, 1, 0x0, 0x0, 0x0, 0x0, 0x0⟩, ⟨0x078, 1, 0x0, 0x0, 0x0, 0x0, 0x0⟩,
   ⟨0x080, 1, 0x0, 0x0, 0x0, 0x0, 0x0⟩, ⟨0x084, 1, 0x0, 0x0, 0x0, 0x0, 0x0⟩,
   ⟨0x088, 1, 0x0, 0x0, 0x0, 0x0, 0x0⟩, ⟨0x0C0, 1, 0x0, 0xFFFFF000, 0xFFF, 0x0, 0x0⟩,
   ⟨0x0C4, 1, 0x0, 0x1F, 0xFFFFFFE0, 0x0, 0x0⟩, ⟨0x0C8, 1, 0x0, 0xFFFFFFFF, 0x0, 0x0, 0x0⟩,
   ⟨0x0CC, 1, 0x0, 0xFFFF, 0xFFFF0000, 0x0, 0x0⟩, ⟨0x0D0, 1, 0x0, 0x0, 0xFFFFFFFC, 0x3, 0x0⟩] ++
  [⟨0x0D4, 1, 0x0, 0x0, 0x0, 0x0, 0x0⟩, ⟨0x0D8, 1, 0x0, 0x3, 0xFFFFFFFC, 0x0, 0x0⟩,
   ⟨0x120, 1, 0x0, 0x7FF77, 0xFFF80088, 0x0, 0xA900⟩, ⟨0x124, 1, 0x0, 0xFFFFFF, 0xFF000000, 0x0, 0x0⟩,
   ⟨0x128, 1, 0x0, 0x0, 0x0, 0x0, 0x0⟩, ⟨0x12C, 1, 0x0, 0x0, 0x0, 0x0, 0x0⟩,
   ⟨0x130, 1, 0x0, 0x0, 0x0, 0x0, 0x0⟩, ⟨0x134, 1, 0x0, 0x0, 0x0, 0x0, 0x0⟩,
   ⟨0x138, 1, 0x0, 0x0, 0x0, 0x0, 0x0⟩, ⟨0x13C, 1, 0x0, 0x0, 0x0, 0x0, 0x0⟩,
   ⟨0x140, 1, 0x0, 0x0, 0xFFFFFFFE, 0x1, 0x0⟩, ⟨0x144, 1, 0x0, 0x0, 0x0, 0x0, 0x10000⟩,
   ⟨0x148, 1, 0x0, 0x0, 0x0, 0x0, 0x0⟩]

/-- The block registers of a evt page (02_register_model.md R51). -/
def evtRegs : List RegDesc :=
  [⟨0x040, 16, 0x0, 0x0, 0x0, 0x0, 0x0⟩, ⟨0x080, 128, 0x0, 0xFFFFFFFF, 0x0, 0x0, 0x0⟩,
   ⟨0x280, 1, 0x0, 0x0, 0x0, 0x0, 0x0⟩, ⟨0x284, 1, 0x0, 0x0, 0x0, 0x0, 0x0⟩,
   ⟨0x288, 1, 0x0, 0x0, 0x0, 0xFFFFFFFF, 0x0⟩, ⟨0x28C, 1, 0x0, 0x0, 0x0, 0xFFFFFFFF, 0x0⟩,
   ⟨0x290, 1, 0x0, 0x0, 0x0, 0x0, 0x0⟩, ⟨0x294, 1, 0x0, 0x3, 0xFFFFFFFC, 0x0, 0x0⟩,
   ⟨0x298, 1, 0x0, 0xFFF, 0xFFFFF000, 0x0, 0x0⟩, ⟨0x29C, 1, 0x0, 0x0, 0x0, 0x0, 0x0⟩]

/-- The block registers of a ingest page (04_ingest_buffers.md R78). -/
def ingestRegs : List RegDesc :=
  [⟨0x040, 1, 0xFF07, 0x0, 0xFFFF00F8, 0x0, 0x0⟩, ⟨0x044, 1, 0xF0FF3F, 0x0, 0xFF0F00C0, 0x0, 0x0⟩,
   ⟨0x048, 1, 0xFFFFFFFF, 0x0, 0x0, 0x0, 0x0⟩, ⟨0x04C, 1, 0x1FF01FF, 0x0, 0xFE00FE00, 0x0, 0x0⟩,
   ⟨0x050, 1, 0x1FFFFF, 0x0, 0xFFE00000, 0x0, 0x0⟩, ⟨0x054, 1, 0x1F, 0x0, 0xFFFFFFE0, 0x0, 0x0⟩,
   ⟨0x058, 1, 0x0, 0x0, 0x0, 0x0, 0x0⟩, ⟨0x05C, 1, 0x0, 0x0, 0x0, 0x0, 0x0⟩]

/-- The block registers of a lease page (04_ingest_buffers.md R96). -/
def leaseRegs : List RegDesc :=
  [⟨0x040, 1, 0x0, 0xFFF, 0xFFFFF000, 0x0, 0x0⟩, ⟨0x044, 1, 0x0, 0x0, 0x0, 0x0, 0x0⟩,
   ⟨0x048, 1, 0x0, 0x0, 0x0, 0x0, 0x0⟩, ⟨0x04C, 1, 0x0, 0x0, 0x0, 0x0, 0x0⟩,
   ⟨0x050, 1, 0x0, 0x0, 0x0, 0x0, 0x0⟩, ⟨0x054, 1, 0x0, 0x0, 0x0, 0x0, 0x0⟩,
   ⟨0x058, 1, 0x0, 0x0, 0x0, 0x0, 0x0⟩, ⟨0x05C, 1, 0x0, 0x0, 0x0, 0x0, 0x0⟩,
   ⟨0x060, 1, 0x0, 0x0, 0x0, 0x0, 0x0⟩, ⟨0x064, 1, 0x0, 0x0, 0x0, 0x0, 0x0⟩,
   ⟨0x068, 1, 0x0, 0x0, 0x0, 0x0, 0x0⟩, ⟨0x06C, 1, 0x0, 0x0, 0x0, 0x0, 0x0⟩,
   ⟨0x070, 1, 0x0, 0x0, 0x0, 0x0, 0x0⟩, ⟨0x074, 1, 0x0, 0x0, 0x0, 0x0, 0x0⟩,
   ⟨0x078, 1, 0x0, 0xFFFFFFFF, 0x0, 0x0, 0x0⟩, ⟨0x07C, 1, 0x0, 0xFFFF, 0xFFFF0000, 0x0, 0x0⟩]

/-- The block registers of a compRaster page (05_composition.md R98). -/
def compRasterRegs : List RegDesc :=
  [⟨0x040, 1, 0xFFF0FFF, 0x0, 0xF000F000, 0x0, 0x0⟩, ⟨0x044, 1, 0xFFF, 0x0, 0xFFFFF000, 0x0, 0x0⟩,
   ⟨0x048, 1, 0x1, 0x0, 0xFFFFFFFE, 0x0, 0x1⟩, ⟨0x04C, 4, 0x0, 0x0, 0x0, 0x0, 0x0⟩,
   ⟨0x05C, 1, 0x0, 0x0, 0x0, 0x0, 0x0⟩]

/-- The block registers of a compLayer page (05_composition.md R99). -/
def compLayerRegs : List RegDesc :=
  [⟨0x040, 1, 0xFFFFFF, 0x0, 0xFF000000, 0x0, 0x0⟩, ⟨0x044, 1, 0x1FFFFFF, 0x0, 0xFE000000, 0x0, 0x0⟩,
   ⟨0x048, 1, 0xFFFFFFFF, 0x0, 0x0, 0x0, 0x0⟩, ⟨0x04C, 1, 0xFFFFFFFF, 0x0, 0x0, 0x0, 0x0⟩,
   ⟨0x050, 1, 0xFFFFFFFF, 0x0, 0x0, 0x0, 0x0⟩, ⟨0x054, 1, 0xFFFFFFFF, 0x0, 0x0, 0x0, 0x0⟩,
   ⟨0x058, 1, 0xFFFFFFFF, 0x0, 0x0, 0x0, 0x0⟩, ⟨0x05C, 1, 0xFFFFF, 0x0, 0xFFF00000, 0x0, 0x400⟩]

/-- The block registers of a compScaler page (05_composition.md R109). -/
def compScalerRegs : List RegDesc :=
  [⟨0x040, 1, 0x7, 0x0, 0xFFFFFFF8, 0x0, 0x0⟩, ⟨0x044, 1, 0x0, 0x7FF, 0xFFFFF800, 0x0, 0x0⟩,
   ⟨0x048, 1, 0x0, 0xFFF, 0xFFFFF000, 0x0, 0x0⟩, ⟨0x04C, 1, 0x0, 0x0, 0x0, 0x0, 0xFFFF⟩]

/-- The block registers of a stillPool page (05_composition.md R129). -/
def stillPoolRegs : List RegDesc :=
  [⟨0x040, 1, 0x1FF, 0x0, 0xFFFFFE00, 0x0, 0x108⟩, ⟨0x044, 1, 0x0, 0x0, 0x0, 0x0, 0x0⟩,
   ⟨0x048, 1, 0x0, 0x0, 0x0, 0x0, 0x0⟩, ⟨0x04C, 1, 0x0, 0x0, 0x0, 0x0, 0x0⟩,
   ⟨0x050, 1, 0x0, 0x0, 0x0, 0x0, 0x0⟩, ⟨0x054, 1, 0x0, 0x0, 0x0, 0x0, 0x0⟩,
   ⟨0x058, 1, 0x0, 0x0, 0x0, 0x0, 0x0⟩, ⟨0x05C, 1, 0x0, 0x0, 0x0, 0x0, 0x0⟩,
   ⟨0x060, 1, 0x0, 0x3F, 0xFFFFFFC0, 0x0, 0x0⟩, ⟨0x064, 1, 0x0, 0x0, 0x0, 0x0, 0x0⟩,
   ⟨0x068, 4, 0x0, 0x0, 0x0, 0x0, 0x0⟩, ⟨0x078, 1, 0x0, 0x0, 0x0, 0x0, 0x0⟩,
   ⟨0x07C, 1, 0x0, 0x0, 0x0, 0x0, 0x0⟩]

/-- The block registers of a colour page (06_colour_tone.md R134). -/
def colourRegs : List RegDesc :=
  [⟨0x040, 1, 0x3FF, 0x0, 0xFFFFFC00, 0x0, 0x0⟩, ⟨0x044, 1, 0x7FFF, 0x0, 0xFFFF8000, 0x0, 0x1000⟩,
   ⟨0x048, 1, 0x7FF7F, 0x0, 0xFFF80080, 0x0, 0x0⟩, ⟨0x04C, 1, 0x0, 0x0, 0x0, 0x0, 0x0⟩,
   ⟨0x050, 1, 0x0, 0x1FFFFF, 0xFFE00000, 0x0, 0x0⟩, ⟨0x054, 1, 0x0, 0xFFFFFFFF, 0x0, 0x0, 0x0⟩]

/-- The block registers of a enc page (07_encoder_pipeline.md R150). -/
def encRegs : List RegDesc :=
  [⟨0x040, 1, 0xFFFFFFF, 0x0, 0xF0000000, 0x0, 0x0⟩, ⟨0x044, 1, 0xFFFFFFFF, 0x0, 0x0, 0x0, 0x0⟩,
   ⟨0x048, 1, 0xFFFFFFFF, 0x0, 0x0, 0x0, 0x0⟩, ⟨0x04C, 1, 0x1FFF, 0x0, 0xFFFFE000, 0x0, 0x4⟩,
   ⟨0x050, 1, 0x3FF3F, 0x0, 0xFFFC00C0, 0x0, 0x7812⟩, ⟨0x054, 1, 0xF7F7, 0x0, 0xFFFF0808, 0x0, 0x742⟩,
   ⟨0x058, 1, 0x1FFFFF, 0x0, 0xFFE00000, 0x0, 0x0⟩, ⟨0x05C, 1, 0x0, 0x0, 0x0, 0x0, 0x0⟩]

/-- The block registers of a tsk page (07_encoder_pipeline.md R172). -/
def tskRegs : List RegDesc :=
  [⟨0x040, 1, 0x0, 0xFFFF, 0xFFFF0000, 0x0, 0x640⟩, ⟨0x044, 1, 0x0, 0xF, 0xFFFFFEF0, 0x100, 0x8⟩,
   ⟨0x048, 3, 0x0, 0x0, 0x0, 0x0, 0xFFFFFFFF⟩, ⟨0x054, 3, 0x0, 0x0, 0x0, 0x0, 0x0⟩,
   ⟨0x060, 1, 0x0, 0x0, 0x0, 0x0, 0xFFFF⟩, ⟨0x064, 1, 0x0, 0x0, 0x0, 0x0, 0x0⟩,
   ⟨0x068, 4, 0x0, 0x0, 0x0, 0x0, 0x0⟩, ⟨0x078, 1, 0x0, 0x0, 0x0, 0x0, 0x0⟩,
   ⟨0x07C, 1, 0x0, 0x0, 0x0, 0x0, 0x0⟩, ⟨0x080, 1, 0x0, 0x0, 0x0, 0x0, 0x0⟩,
   ⟨0x084, 1, 0x0, 0x0, 0x0, 0x0, 0x0⟩, ⟨0x088, 1, 0x0, 0x3FF, 0xFFFFFC00, 0x0, 0x0⟩,
   ⟨0x08C, 13, 0x0, 0x0, 0x0, 0x0, 0x0⟩, ⟨0x0C0, 32, 0x0, 0x0, 0x0, 0x0, 0x0⟩]

/-- The block registers of a ladder page (07_encoder_pipeline.md R177). -/
def ladderRegs : List RegDesc :=
  [⟨0x040, 1, 0xF7, 0x0, 0xFFFFFF08, 0x0, 0x21⟩, ⟨0x044, 1, 0x7F7F7F7F, 0x0, 0x80808080, 0x0, 0x0⟩,
   ⟨0x048, 1, 0x7F7F7F7F, 0x0, 0x80808080, 0x0, 0x0⟩, ⟨0x04C, 1, 0x0, 0x0, 0x0, 0x0, 0x0⟩,
   ⟨0x050, 1, 0x0, 0x0, 0x0, 0x0, 0x0⟩, ⟨0x054, 1, 0x0, 0x0, 0x0, 0x0, 0x0⟩,
   ⟨0x058, 1, 0x0, 0x0, 0x0, 0x0, 0x0⟩, ⟨0x05C, 1, 0x0, 0x0, 0x0, 0x0, 0x0⟩]

/-- The block registers of a encRc page (08_rate_control.md R184). -/
def encRcRegs : List RegDesc :=
  [⟨0x040, 1, 0x0, 0x7F, 0xFFFFFF80, 0x0, 0x0⟩]

/-- The rate-control entry of one channel, shown at 0x044-0x0BC of the ENC RC page by RC_INDEX (08_rate_control.md R184). -/
def rcEntryRegs : List RegDesc :=
  [⟨0x044, 1, 0x3FFFF7, 0x0, 0xFFC00008, 0x0, 0x20FC00⟩, ⟨0x048, 1, 0xFFFFFFFF, 0x0, 0x0, 0x0, 0x0⟩,
   ⟨0x04C, 1, 0xFFFFFFFF, 0x0, 0x0, 0x0, 0x0⟩, ⟨0x050, 1, 0xFFFFFFFF, 0x0, 0x0, 0x0, 0x0⟩,
   ⟨0x054, 1, 0xFFFFFF, 0x0, 0xFF000000, 0x0, 0x0⟩, ⟨0x058, 1, 0xFFFFF, 0x0, 0xFFF00000, 0x0, 0x0⟩,
   ⟨0x05C, 1, 0xFFFFFFFF, 0x0, 0x0, 0x0, 0x0⟩, ⟨0x060, 1, 0xFFF, 0x0, 0xFFFFF000, 0x0, 0x803⟩,
   ⟨0x064, 1, 0x0, 0x0, 0x0, 0x0, 0x0⟩, ⟨0x068, 1, 0x0, 0x0, 0x0, 0x0, 0x0⟩,
   ⟨0x06C, 1, 0x0, 0x0, 0x0, 0x0, 0x0⟩, ⟨0x070, 1, 0x0, 0x0, 0x0, 0x0, 0x0⟩,
   ⟨0x074, 1, 0x0, 0x0, 0x0, 0x0, 0x0⟩, ⟨0x078, 1, 0x0, 0x0, 0x0, 0x0, 0x0⟩,
   ⟨0x07C, 1, 0x0, 0x0, 0x0, 0x0, 0x0⟩, ⟨0x080, 1, 0x0, 0x0, 0x0, 0x0, 0x0⟩,
   ⟨0x084, 1, 0x0, 0x0, 0x0, 0x0, 0x7FFFFFFF⟩, ⟨0x088, 4, 0x0, 0x0, 0x0, 0x0, 0x0⟩,
   ⟨0x098, 4, 0x0, 0x0, 0x0, 0x0, 0x0⟩, ⟨0x0A8, 1, 0x0, 0x0, 0xFFFFFFFE, 0x1, 0x0⟩,
   ⟨0x0AC, 1, 0x0, 0x0, 0x0, 0x0, 0x0⟩, ⟨0x0B0, 1, 0x0, 0x0, 0x0, 0x0, 0x0⟩,
   ⟨0x0B4, 1, 0x0, 0x0, 0x0, 0x0, 0x0⟩, ⟨0x0B8, 1, 0x0, 0x0, 0x0, 0x0, 0x0⟩,
   ⟨0x0BC, 1, 0x0, 0x0, 0x0, 0x0, 0x0⟩]

/-- The block registers of a dec page (10_decoder.md R235). -/
def decRegs : List RegDesc :=
  [⟨0x040, 1, 0x7FFFFFF7, 0x0, 0x80000008, 0x0, 0x900000⟩, ⟨0x044, 1, 0xFFFFFFFF, 0x0, 0x0, 0x0, 0x0⟩,
   ⟨0x048, 1, 0xFFFFF, 0x0, 0xFFF00000, 0x0, 0x0⟩, ⟨0x04C, 1, 0x1FFFFF, 0x0, 0xFFE00000, 0x0, 0x0⟩,
   ⟨0x050, 1, 0xFFFFFFFF, 0x0, 0x0, 0x0, 0x0⟩, ⟨0x054, 1, 0x0, 0x0, 0x0, 0x0, 0x0⟩]

/-- The block registers of a scan page (11_scanout.md R249). -/
def scanRegs : List RegDesc :=
  [⟨0x040, 1, 0x3FFF, 0x0, 0xFFFFC000, 0x0, 0x80⟩, ⟨0x044, 1, 0xFFFF, 0x0, 0xFFFF0000, 0x0, 0x0⟩,
   ⟨0x048, 1, 0xFFFFFFFF, 0x0, 0x0, 0x0, 0x0⟩, ⟨0x04C, 1, 0xFFFFFF, 0x0, 0xFF000000, 0x0, 0x0⟩,
   ⟨0x050, 1, 0x3FFF1FFF, 0x0, 0xC000E000, 0x0, 0x0⟩, ⟨0x054, 1, 0xFF, 0x0, 0xFFFFFF00, 0x0, 0x8⟩,
   ⟨0x058, 1, 0x0, 0x0, 0x0, 0x0, 0x0⟩, ⟨0x05C, 1, 0x0, 0x0, 0x0, 0x0, 0x0⟩]

/-- The block registers of a tileMap page (11_scanout.md R260). -/
def tileMapRegs : List RegDesc :=
  [⟨0x040, 1, 0x0, 0xF1FFF, 0xFFF0E000, 0x0, 0x0⟩, ⟨0x044, 1, 0x0, 0xFFFFFFFF, 0x0, 0x0, 0x0⟩,
   ⟨0x048, 1, 0x0, 0x0, 0x0, 0x0, 0x0⟩, ⟨0x04C, 1, 0x0, 0x0, 0x0, 0x0, 0x0⟩,
   ⟨0x050, 1, 0x0, 0x0, 0x0, 0x0, 0x0⟩, ⟨0x054, 1, 0x0, 0x0, 0x0, 0x0, 0x0⟩,
   ⟨0x058, 1, 0x0, 0x0, 0x0, 0x0, 0x0⟩, ⟨0x05C, 1, 0x0, 0x0, 0x0, 0x0, 0x0⟩]

/-- The block registers of a cal page (11_scanout.md R265). -/
def calRegs : List RegDesc :=
  [⟨0x040, 1, 0x0, 0x7FFFFF, 0xFF800000, 0x0, 0x0⟩, ⟨0x044, 1, 0x0, 0xFFFFFFFF, 0x0, 0x0, 0x0⟩,
   ⟨0x048, 1, 0x0, 0x1FFFFF, 0xFFE00000, 0x0, 0x0⟩, ⟨0x04C, 1, 0x0, 0xFFFFF, 0xFFF00000, 0x0, 0x0⟩,
   ⟨0x050, 1, 0x0, 0xFFFFF, 0xFFF00000, 0x0, 0x0⟩, ⟨0x054, 1, 0x0, 0x0, 0xFFFFFFFC, 0x3, 0x0⟩,
   ⟨0x058, 1, 0x0, 0x0, 0x0, 0x0, 0x0⟩, ⟨0x05C, 1, 0x0, 0x0, 0x0, 0x0, 0x0⟩]

/-- The block registers of a tile page (12_tile_link.md R301). -/
def tileRegs : List RegDesc :=
  [⟨0x040, 1, 0x1FFFFFF, 0x0, 0xFE000000, 0x0, 0x644E20⟩, ⟨0x044, 1, 0xFF, 0x0, 0xFFFFFF00, 0x0, 0x2⟩,
   ⟨0x048, 1, 0x0, 0x1FFF, 0xFFFFE000, 0x0, 0x0⟩, ⟨0x04C, 1, 0x0, 0x0, 0x0, 0x0, 0x0⟩,
   ⟨0x050, 1, 0x0, 0x0, 0x0, 0x0, 0x0⟩, ⟨0x054, 1, 0x0, 0x0, 0x0, 0x0, 0x0⟩,
   ⟨0x058, 1, 0x0, 0x0, 0x0, 0x0, 0x0⟩, ⟨0x05C, 1, 0x0, 0xFF, 0xFFFFFF00, 0x0, 0xA⟩,
   ⟨0x060, 1, 0x0, 0x0, 0x0, 0x0, 0x0⟩, ⟨0x064, 1, 0x0, 0x0, 0x0, 0x0, 0x0⟩,
   ⟨0x068, 1, 0x0, 0x0, 0x0, 0x0, 0x0⟩, ⟨0x06C, 1, 0x0, 0x0, 0x0, 0x0, 0x0⟩,
   ⟨0x070, 1, 0x0, 0x0, 0x0, 0x0, 0x0⟩, ⟨0x074, 1, 0x0, 0x0, 0x0, 0x0, 0x0⟩,
   ⟨0x078, 1, 0x0, 0x0, 0xFFFFFFFE, 0x1, 0x0⟩, ⟨0x07C, 1, 0x0, 0x0, 0x0, 0x0, 0x0⟩]

/-- The block registers of a wide page (13_serial_lanes.md R306). -/
def wideRegs : List RegDesc :=
  [⟨0x040, 1, 0x71F, 0x0, 0xFFFFF8E0, 0x0, 0x400⟩, ⟨0x044, 1, 0xF1F1F, 0x0, 0xFFF0E0E0, 0x0, 0x0⟩,
   ⟨0x048, 1, 0x0, 0x1F, 0xFFFFFCE0, 0x300, 0x0⟩, ⟨0x04C, 1, 0x0, 0x0, 0x0, 0x0, 0x0⟩,
   ⟨0x050, 1, 0x0, 0x0, 0x0, 0x0, 0x0⟩, ⟨0x054, 1, 0x0, 0x0, 0x0, 0x0, 0x0⟩,
   ⟨0x058, 1, 0x0, 0x0, 0x0, 0x0, 0x0⟩, ⟨0x05C, 1, 0x0, 0x0, 0x0, 0x0, 0x0⟩]

/-- The block registers of a tileLane page (13_serial_lanes.md R307). -/
def tileLaneRegs : List RegDesc :=
  [⟨0x040, 1, 0xF7, 0x0, 0xFFFFFF08, 0x0, 0x1⟩, ⟨0x044, 1, 0x0, 0x1F, 0xFFFFFCE0, 0x300, 0x0⟩,
   ⟨0x048, 1, 0x0, 0x0, 0x0, 0x0, 0x0⟩]

/-- The block registers of a net page (14_network_transport.md R321). -/
def netRegs : List RegDesc :=
  [⟨0x040, 1, 0x3FFFFF, 0x0, 0xFFC00000, 0x0, 0x5EE00⟩, ⟨0x044, 1, 0x0, 0x0, 0x0, 0x0, 0x0⟩,
   ⟨0x048, 1, 0x0, 0x0, 0x0, 0x0, 0x0⟩, ⟨0x04C, 1, 0x0, 0x0, 0x0, 0x0, 0x0⟩,
   ⟨0x050, 1, 0x0, 0x0, 0x0, 0x0, 0x0⟩, ⟨0x054, 1, 0x0, 0x0, 0x0, 0x0, 0x0⟩]

/-- The block registers of a netGlobal page (14_network_transport.md R323). -/
def netGlobalRegs : List RegDesc :=
  [⟨0x040, 1, 0x0, 0x77FF, 0xFFFF8800, 0x0, 0x0⟩, ⟨0x044, 1, 0x0, 0x0, 0xFFFFFFFC, 0x3, 0x0⟩,
   ⟨0x048, 12, 0x0, 0xFFFFFFFF, 0x0, 0x0, 0x0⟩, ⟨0x078, 1, 0x0, 0x3FFF, 0xFFFFC000, 0x0, 0x40⟩,
   ⟨0x07C, 1, 0x0, 0x1FFF, 0xFFFFE000, 0x0, 0x7F0⟩, ⟨0x080, 1, 0x0, 0xFFFFFFFF, 0x0, 0x0, 0x3DDE7F80⟩,
   ⟨0x084, 1, 0x0, 0x0, 0x0, 0x0, 0x0⟩, ⟨0x088, 1, 0x0, 0x0, 0x0, 0x0, 0x0⟩,
   ⟨0x08C, 1, 0x0, 0x0, 0x0, 0x0, 0x0⟩, ⟨0x090, 1, 0x0, 0x0, 0x0, 0x0, 0x0⟩,
   ⟨0x094, 1, 0x0, 0x0, 0x0, 0x0, 0x0⟩, ⟨0x098, 1, 0x0, 0x0, 0x0, 0x0, 0x0⟩,
   ⟨0x09C, 1, 0x0, 0x0, 0x0, 0x0, 0x0⟩, ⟨0x0A0, 1, 0x0, 0x0, 0x0, 0x0, 0x0⟩,
   ⟨0x0A4, 1, 0x0, 0x0, 0x0, 0x0, 0x0⟩, ⟨0x0A8, 1, 0x0, 0x0, 0x0, 0x0, 0x0⟩,
   ⟨0x0AC, 1, 0x0, 0x0, 0x0, 0x0, 0x0⟩, ⟨0x0B0, 1, 0x0, 0x0, 0x0, 0x0, 0x0⟩,
   ⟨0x0B4, 1, 0x0, 0x0, 0x0, 0x0, 0x0⟩, ⟨0x0B8, 1, 0x0, 0x0, 0x0, 0x0, 0x0⟩,
   ⟨0x0BC, 1, 0x0, 0x0, 0x0, 0x0, 0x0⟩]

/-- The block registers of a sched page (15_traffic_scheduler.md R343). -/
def schedRegs : List RegDesc :=
  [⟨0x040, 1, 0x7, 0x0, 0xFFFFFFF8, 0x0, 0x0⟩, ⟨0x044, 1, 0x0, 0x0, 0x0, 0x0, 0xFF⟩,
   ⟨0x048, 1, 0x0, 0x0, 0x0, 0x0, 0x0⟩, ⟨0x04C, 1, 0x0, 0x0, 0x0, 0x0, 0x0⟩]

/-- The block registers of a schedTable page (15_traffic_scheduler.md R344). -/
def schedTableRegs : List RegDesc :=
  [⟨0x040, 1, 0x0, 0x77FFF, 0xFFF88000, 0x0, 0x0⟩, ⟨0x044, 1, 0x0, 0x0, 0xFFFFFFF8, 0x7, 0x0⟩,
   ⟨0x048, 8, 0x0, 0xFFFFFFFF, 0x0, 0x0, 0x0⟩, ⟨0x068, 1, 0x0, 0x0, 0x0, 0x0, 0x0⟩,
   ⟨0x06C, 1, 0x0, 0x0, 0x0, 0x0, 0x0⟩, ⟨0x070, 1, 0x0, 0x0, 0x0, 0x0, 0x0⟩,
   ⟨0x074, 1, 0x0, 0x0, 0x0, 0x0, 0x0⟩, ⟨0x078, 1, 0x0, 0x0, 0x0, 0x0, 0x0⟩,
   ⟨0x07C, 1, 0x0, 0x0, 0xFFFFFFFE, 0x1, 0x0⟩]

/-- The block registers of a fabPort page (16_fabric.md R366). -/
def fabPortRegs : List RegDesc :=
  [⟨0x040, 1, 0xFF, 0x0, 0xFFFFFF00, 0x0, 0x80⟩, ⟨0x044, 1, 0x0, 0x0, 0x0, 0x0, 0x0⟩,
   ⟨0x048, 1, 0x0, 0x0, 0x0, 0x0, 0x0⟩, ⟨0x04C, 1, 0x0, 0x0, 0x0, 0x0, 0x0⟩,
   ⟨0x050, 1, 0x0, 0x0, 0x0, 0x0, 0x0⟩, ⟨0x054, 1, 0x0, 0x0, 0x0, 0x0, 0x0⟩,
   ⟨0x058, 1, 0x0, 0x0, 0x0, 0x0, 0x0⟩, ⟨0x05C, 1, 0x0, 0x0, 0x0, 0x0, 0x0⟩]

/-- The block registers of a fab page (16_fabric.md R390). -/
def fabRegs : List RegDesc :=
  [⟨0x040, 1, 0x0, 0xFFFF0003, 0xFFFC, 0x0, 0x80800003⟩, ⟨0x044, 1, 0x0, 0x0, 0x0, 0x0, 0x0⟩,
   ⟨0x048, 1, 0x0, 0x0, 0x0, 0x0, 0x1⟩, ⟨0x04C, 1, 0x0, 0x0, 0x0, 0x0, 0x0⟩,
   ⟨0x050, 1, 0x0, 0x0, 0x0, 0x0, 0x0⟩, ⟨0x054, 1, 0x0, 0x0, 0x0, 0x0, 0x0⟩,
   ⟨0x058, 1, 0x0, 0x0, 0x0, 0x0, 0x0⟩, ⟨0x05C, 1, 0x0, 0x0, 0x0, 0x0, 0x0⟩,
   ⟨0x060, 1, 0x0, 0x0, 0x0, 0x0, 0x0⟩, ⟨0x064, 1, 0x0, 0x0, 0xFFFFFFF8, 0x7, 0x0⟩,
   ⟨0x068, 1, 0x0, 0x0, 0x0, 0x0, 0x0⟩, ⟨0x06C, 1, 0x0, 0x7FFF, 0xFFFF8000, 0x0, 0x0⟩,
   ⟨0x070, 1, 0x0, 0x0, 0xFFFFFFFC, 0x3, 0x0⟩, ⟨0x074, 4, 0x0, 0xFFFFFFFF, 0x0, 0x0, 0x0⟩,
   ⟨0x084, 1, 0x0, 0x1FFF, 0xFFFFE000, 0x0, 0x0⟩, ⟨0x088, 1, 0x0, 0x3FFFFFF, 0xFC000000, 0x0, 0x0⟩,
   ⟨0x08C, 1, 0x0, 0xFFFFFFFF, 0x0, 0x0, 0x0⟩, ⟨0x090, 1, 0x0, 0x0, 0x0, 0x0, 0x0⟩,
   ⟨0x094, 1, 0x0, 0x0, 0xFFFFFFFC, 0x3, 0x0⟩, ⟨0x098, 1, 0x0, 0x0, 0x0, 0x0, 0x0⟩,
   ⟨0x09C, 1, 0x0, 0x0, 0x0, 0x0, 0x0⟩, ⟨0x0A0, 1, 0x0, 0xFFFF, 0xFFFF0000, 0x0, 0x64⟩,
   ⟨0x0A4, 1, 0x0, 0x0, 0x0, 0x0, 0x0⟩, ⟨0x0A8, 1, 0x0, 0x0, 0x0, 0x0, 0x0⟩,
   ⟨0x0AC, 1, 0x0, 0x0, 0x0, 0x0, 0x0⟩, ⟨0x0B0, 1, 0x0, 0x0, 0x0, 0x0, 0x0⟩,
   ⟨0x0B4, 1, 0x0, 0x0, 0x0, 0x0, 0x0⟩, ⟨0x0B8, 1, 0x0, 0x0, 0x0, 0x0, 0x0⟩,
   ⟨0x0BC, 1, 0x0, 0x0, 0x0, 0x0, 0x0⟩]

/-- The block registers of a mate page (17_redundancy.md R420). -/
def mateRegs : List RegDesc :=
  [⟨0x040, 1, 0x1F, 0x0, 0xFFFFFFE0, 0x0, 0x1B⟩, ⟨0x044, 1, 0xFFF, 0x0, 0xFFFFF000, 0x0, 0x0⟩,
   ⟨0x048, 1, 0xFFFF, 0x0, 0xFFFF0000, 0x0, 0x14⟩, ⟨0x04C, 1, 0xFFFF, 0x0, 0xFFFF0000, 0x0, 0x32⟩,
   ⟨0x050, 1, 0xFFFFFF, 0x0, 0xFF000000, 0x0, 0x1C20⟩, ⟨0x054, 1, 0xFFFFFF, 0x0, 0xFF000000, 0x0, 0x1C20⟩,
   ⟨0x058, 1, 0xFFFFFF, 0x0, 0xFF000000, 0x0, 0x4B0⟩, ⟨0x05C, 1, 0x0, 0x1, 0xFFFFF8FE, 0x700, 0x0⟩,
   ⟨0x060, 1, 0x0, 0x0, 0x0, 0x0, 0x0⟩, ⟨0x064, 1, 0x0, 0x0, 0x0, 0x0, 0x0⟩,
   ⟨0x068, 1, 0x0, 0x0, 0x0, 0x0, 0x0⟩, ⟨0x06C, 1, 0x0, 0x0, 0x0, 0x0, 0x0⟩,
   ⟨0x070, 1, 0x0, 0x0, 0x0, 0x0, 0x0⟩, ⟨0x074, 1, 0x0, 0x0, 0x0, 0x0, 0x0⟩,
   ⟨0x078, 1, 0x0, 0x0, 0x0, 0x0, 0x0⟩, ⟨0x07C, 1, 0x0, 0x0, 0x0, 0x0, 0x0⟩,
   ⟨0x080, 1, 0x0, 0x0, 0x0, 0x0, 0x0⟩, ⟨0x084, 1, 0x0, 0x0, 0x0, 0x0, 0x0⟩,
   ⟨0x088, 1, 0x0, 0x0, 0x0, 0x0, 0x0⟩, ⟨0x08C, 1, 0x0, 0x0, 0x0, 0x0, 0x0⟩,
   ⟨0x090, 1, 0x0, 0x0, 0x0, 0x0, 0x0⟩, ⟨0x094, 1, 0x0, 0x0, 0x0, 0x0, 0x0⟩,
   ⟨0x098, 1, 0x0, 0x0, 0x0, 0x0, 0x0⟩, ⟨0x09C, 1, 0x0, 0x0, 0x0, 0x0, 0x0⟩,
   ⟨0x0A0, 8, 0x0, 0x0, 0x0, 0x0, 0x0⟩]

/-- The block registers of a aud page (18_audio.md R425). -/
def audRegs : List RegDesc :=
  [⟨0x040, 1, 0x3FFFFFF, 0x0, 0xFC000000, 0x0, 0xC407⟩, ⟨0x044, 1, 0xFFFF07FF, 0x0, 0xF800, 0x0, 0x10080100⟩,
   ⟨0x048, 1, 0xFFFFFF, 0x0, 0xFF000000, 0x0, 0x0⟩, ⟨0x04C, 1, 0xFFFFFFFF, 0x0, 0x0, 0x0, 0x0⟩,
   ⟨0x050, 1, 0xFFFFFFFF, 0x0, 0x0, 0x0, 0x0⟩, ⟨0x054, 1, 0x1FF1FFF, 0x0, 0xFE00E000, 0x0, 0x300000⟩,
   ⟨0x058, 1, 0x81FFFFFF, 0x0, 0x7E000000, 0x0, 0x0⟩, ⟨0x05C, 1, 0x0, 0x0, 0x0, 0x0, 0x0⟩]

/-- The block registers of a cvu page (19_check_values.md R438). -/
def cvuRegs : List RegDesc :=
  [⟨0x040, 1, 0x0, 0xFFFF, 0xFFFF0000, 0x0, 0x0⟩, ⟨0x044, 1, 0x0, 0xFFFF1FFF, 0xE000, 0x0, 0x10000⟩,
   ⟨0x048, 1, 0x0, 0xF, 0xFFFFFFF0, 0x0, 0x0⟩, ⟨0x04C, 1, 0x0, 0xFFFFFFFF, 0x0, 0x0, 0x0⟩,
   ⟨0x050, 1, 0x0, 0xFFFFFFFF, 0x0, 0x0, 0x0⟩, ⟨0x054, 1, 0x0, 0x0, 0xFFFFFFFC, 0x3, 0x0⟩,
   ⟨0x058, 1, 0x0, 0x0, 0x0, 0x0, 0x0⟩, ⟨0x05C, 1, 0x0, 0x0, 0x0, 0x0, 0x0⟩,
   ⟨0x060, 1, 0x0, 0x0, 0x0, 0x0, 0x0⟩, ⟨0x064, 1, 0x0, 0x0, 0x0, 0x0, 0x0⟩,
   ⟨0x068, 1, 0x0, 0x0, 0x0, 0x0, 0x0⟩, ⟨0x06C, 1, 0x0, 0x0, 0x0, 0x0, 0x0⟩]

/-- The block registers of a sec0 page (20_security.md R474). -/
def sec0Regs : List RegDesc :=
  [⟨0x040, 1, 0x0, 0x0, 0x0, 0x0, 0x4⟩, ⟨0x044, 1, 0x0, 0x0, 0x0, 0x0, 0x0⟩,
   ⟨0x048, 12, 0x0, 0x0, 0x0, 0x0, 0x0⟩, ⟨0x078, 1, 0x0, 0x0, 0x0, 0x0, 0x0⟩,
   ⟨0x07C, 1, 0x0, 0x0, 0x0, 0x0, 0x0⟩, ⟨0x080, 1, 0x0, 0x0, 0x0, 0x0, 0x0⟩,
   ⟨0x084, 1, 0x0, 0x7, 0xFFFFFFF8, 0x0, 0x0⟩, ⟨0x088, 12, 0x0, 0x0, 0x0, 0x0, 0x0⟩,
   ⟨0x0B8, 1, 0x0, 0x0, 0x0, 0x0, 0x0⟩, ⟨0x0BC, 1, 0x0, 0x0, 0x0, 0x0, 0x0⟩]

/-- The block registers of a sec1 page (20_security.md R474). -/
def sec1Regs : List RegDesc :=
  [⟨0x040, 1, 0x0, 0xFF, 0xFFFFFF00, 0x0, 0x0⟩, ⟨0x044, 1, 0x0, 0xFFFFFFFF, 0x0, 0x0, 0x0⟩,
   ⟨0x048, 1, 0x0, 0x1F, 0xFFFFFFE0, 0x0, 0x0⟩, ⟨0x04C, 1, 0x0, 0x1FF, 0xFFFFFE00, 0x0, 0x0⟩,
   ⟨0x050, 1, 0x0, 0x0, 0xFFFFFFFC, 0x3, 0x0⟩, ⟨0x054, 1, 0x0, 0x0, 0x0, 0x0, 0x0⟩,
   ⟨0x058, 1, 0x0, 0x0, 0x0, 0x0, 0x0⟩, ⟨0x05C, 1, 0x0, 0x0, 0x0, 0x0, 0x0⟩,
   ⟨0x060, 1, 0x0, 0x0, 0xFFFFFFFE, 0x1, 0x0⟩, ⟨0x064, 1, 0x0, 0x0, 0x0, 0x0, 0x0⟩,
   ⟨0x068, 8, 0x0, 0x0, 0x0, 0x0, 0x0⟩, ⟨0x088, 8, 0x0, 0x0, 0x0, 0x0, 0x0⟩,
   ⟨0x0A8, 1, 0x0, 0x0, 0x0, 0x0, 0x0⟩, ⟨0x0AC, 1, 0x0, 0x0, 0x0, 0x0, 0x0⟩,
   ⟨0x0B0, 1, 0x0, 0x0, 0x0, 0x0, 0x0⟩, ⟨0x0B4, 1, 0x0, 0x0, 0x0, 0x0, 0x0⟩,
   ⟨0x0B8, 1, 0x0, 0x0, 0x0, 0x0, 0x0⟩, ⟨0x0BC, 1, 0x0, 0x0, 0x0, 0x0, 0x0⟩]

/-- The block registers of a sec2 page (20_security.md R474). -/
def sec2Regs : List RegDesc :=
  [⟨0x040, 1, 0x0, 0x3F, 0xFFFFFFC0, 0x0, 0x0⟩, ⟨0x044, 1, 0x0, 0x0, 0x0, 0x0, 0x0⟩,
   ⟨0x048, 1, 0x0, 0x0, 0x0, 0x0, 0x0⟩, ⟨0x04C, 1, 0x0, 0x0, 0x0, 0x0, 0x0⟩,
   ⟨0x050, 1, 0x0, 0x0, 0x0, 0x0, 0x0⟩, ⟨0x054, 1, 0x0, 0x0, 0x0, 0x0, 0x0⟩,
   ⟨0x058, 1, 0x0, 0x0, 0x0, 0x0, 0x0⟩, ⟨0x05C, 1, 0x0, 0x0, 0x0, 0x0, 0x0⟩,
   ⟨0x060, 1, 0x0, 0x0, 0x0, 0x0, 0x0⟩, ⟨0x064, 4, 0x0, 0x0, 0x0, 0x0, 0x0⟩,
   ⟨0x074, 4, 0x0, 0x0, 0x0, 0x0, 0x0⟩, ⟨0x084, 2, 0x0, 0x0, 0x0, 0x0, 0x0⟩,
   ⟨0x08C, 2, 0x0, 0x0, 0x0, 0x0, 0x0⟩, ⟨0x094, 1, 0x0, 0x0, 0x0, 0x0, 0x0⟩,
   ⟨0x098, 1, 0x0, 0x0, 0x0, 0x0, 0x0⟩, ⟨0x09C, 8, 0x0, 0x0, 0x0, 0x0, 0x0⟩,
   ⟨0x0BC, 1, 0x0, 0x0, 0x0, 0x0, 0x0⟩]

/-- The block registers of a sec3 page (20_security.md R474). -/
def sec3Regs : List RegDesc :=
  [⟨0x040, 1, 0x0, 0x0, 0x0, 0x0, 0x0⟩, ⟨0x044, 1, 0x0, 0x0, 0xFFFFFFFC, 0x3, 0x0⟩,
   ⟨0x048, 12, 0x0, 0x0, 0x0, 0x0, 0x0⟩, ⟨0x078, 1, 0x0, 0xFFFFFFFF, 0x0, 0x0, 0x0⟩,
   ⟨0x07C, 1, 0x0, 0xFFFFFFFF, 0x0, 0x0, 0x0⟩, ⟨0x080, 1, 0x0, 0x0, 0xFFFFFFFC, 0x3, 0x0⟩,
   ⟨0x084, 1, 0x0, 0x0, 0x0, 0x0, 0x0⟩, ⟨0x088, 1, 0x0, 0x0, 0x0, 0x0, 0x0⟩,
   ⟨0x08C, 1, 0x0, 0xFFFFFFFF, 0x0, 0x0, 0x0⟩, ⟨0x090, 1, 0x0, 0xFFFFFFFF, 0x0, 0x0, 0x0⟩,
   ⟨0x094, 1, 0x0, 0xFFFFFFFF, 0x0, 0x0, 0x0⟩, ⟨0x098, 1, 0x0, 0x0, 0xFFFFFFFC, 0x3, 0x0⟩,
   ⟨0x09C, 1, 0x0, 0x0, 0x0, 0x0, 0x0⟩, ⟨0x0A0, 1, 0x0, 0x0, 0x0, 0x0, 0x0⟩,
   ⟨0x0A4, 1, 0x0, 0x0, 0x0, 0x0, 0x0⟩, ⟨0x0A8, 1, 0x0, 0x0, 0x0, 0x0, 0x0⟩,
   ⟨0x0AC, 1, 0x0, 0x0, 0x0, 0x0, 0x0⟩, ⟨0x0B0, 1, 0x0, 0x0, 0x0, 0x0, 0x0⟩,
   ⟨0x0B4, 1, 0x0, 0x0, 0x0, 0x0, 0x0⟩, ⟨0x0B8, 1, 0x0, 0x0, 0x0, 0x0, 0x0⟩,
   ⟨0x0BC, 1, 0x0, 0x0, 0x0, 0x0, 0x0⟩]

/-- The block registers of a pwrDom page (21_power_reset_boot.md R481). -/
def pwrDomRegs : List RegDesc :=
  (List.range 24).flatMap fun d =>
    [⟨0x040 + 0x18 * d, 1, 0x0, 0x3, 0xFFFFFFFC, 0x0, 0x3⟩,
     ⟨0x044 + 0x18 * d, 1, 0x0, 0x0, 0x0, 0x0, 0x0⟩,
     ⟨0x048 + 0x18 * d, 1, 0x0, 0x0, 0x0, 0x0, 0x0⟩,
     ⟨0x04C + 0x18 * d, 1, 0x0, 0x0, 0x0, 0x0, 0x0⟩,
     ⟨0x050 + 0x18 * d, 1, 0x0, 0x0, 0x0, 0x0, 0x0⟩,
     ⟨0x054 + 0x18 * d, 1, 0x0, 0x0, 0x0, 0x0, 0x0⟩]

/-- The block registers of a pwr page (21_power_reset_boot.md R482). -/
def pwrRegs : List RegDesc :=
  [⟨0x040, 1, 0x0, 0x0, 0x0, 0x0, 0x0⟩, ⟨0x044, 1, 0x0, 0x0, 0xFFFFFFF8, 0x7, 0x0⟩,
   ⟨0x048, 1, 0x0, 0x1FFFF, 0xFFFE0000, 0x0, 0x11388⟩, ⟨0x04C, 1, 0x0, 0x0, 0x0, 0x0, 0x0⟩,
   ⟨0x050, 1, 0x0, 0x0, 0x0, 0x0, 0x0⟩, ⟨0x054, 1, 0x0, 0x0, 0x0, 0x0, 0x0⟩,
   ⟨0x058, 1, 0x0, 0x0, 0x0, 0x0, 0x0⟩, ⟨0x05C, 1, 0x0, 0x0, 0x0, 0x0, 0x0⟩,
   ⟨0x060, 1, 0x0, 0xFFFF, 0xFFFF0000, 0x0, 0x7B0⟩, ⟨0x064, 1, 0x0, 0x3FF, 0xFFFFFC00, 0x0, 0x7⟩,
   ⟨0x068, 1, 0x0, 0x0, 0x0, 0x0, 0x0⟩, ⟨0x06C, 1, 0x0, 0x0, 0x0, 0x0, 0x0⟩,
   ⟨0x070, 1, 0x0, 0x0, 0x0, 0x0, 0x0⟩, ⟨0x074, 1, 0x0, 0x0, 0x0, 0x0, 0x0⟩,
   ⟨0x078, 12, 0x0, 0x0, 0x0, 0x0, 0x0⟩, ⟨0x0A8, 1, 0x0, 0x0, 0x0, 0x0, 0x0⟩,
   ⟨0x0AC, 1, 0x0, 0x0, 0x0, 0x0, 0x0⟩, ⟨0x0B0, 1, 0x0, 0x0, 0x0, 0x0, 0x0⟩,
   ⟨0x0B4, 1, 0x0, 0x0, 0x0, 0x0, 0x0⟩, ⟨0x0B8, 1, 0x0, 0x0, 0x0, 0x0, 0x0⟩,
   ⟨0x0BC, 1, 0x0, 0x0, 0xFFFFFFFE, 0x1, 0x0⟩]

/-- The block registers of a clk page (21_power_reset_boot.md R483). -/
def clkRegs : List RegDesc :=
  [⟨0x040, 1, 0x0, 0x0, 0x0, 0x0, 0x0⟩, ⟨0x044, 1, 0x0, 0x0, 0x0, 0x0, 0x0⟩,
   ⟨0x048, 1, 0x0, 0x0, 0x0, 0x0, 0x0⟩, ⟨0x04C, 1, 0x0, 0x0, 0x0, 0x0, 0x0⟩,
   ⟨0x050, 1, 0x0, 0x0, 0x0, 0x0, 0x0⟩, ⟨0x054, 1, 0x0, 0x0, 0x0, 0x0, 0x0⟩,
   ⟨0x058, 1, 0x0, 0x0, 0x0, 0x0, 0x0⟩, ⟨0x05C, 1, 0x0, 0x0, 0x0, 0x0, 0x0⟩,
   ⟨0x060, 21, 0x0, 0x0, 0x0, 0x0, 0x0⟩, ⟨0x0B4, 1, 0x0, 0x0, 0x0, 0x0, 0x0⟩,
   ⟨0x0B8, 1, 0x0, 0x0, 0x0, 0x0, 0x0⟩, ⟨0x0BC, 1, 0x0, 0x0, 0xFFFFFFFE, 0x1, 0x0⟩]

/-- The block registers of a mbx page (21_power_reset_boot.md R493). -/
def mbxRegs : List RegDesc :=
  [⟨0x040, 16, 0x0, 0xFFFFFFFF, 0x0, 0x0, 0x0⟩, ⟨0x080, 16, 0x0, 0x0, 0x0, 0x0, 0x0⟩,
   ⟨0x0C0, 1, 0x0, 0xFFFF, 0xFFFF0000, 0x0, 0x0⟩, ⟨0x0C4, 1, 0x0, 0x0, 0xFFFFFFFC, 0x3, 0x0⟩,
   ⟨0x0C8, 1, 0x0, 0x0, 0x0, 0x0, 0x0⟩, ⟨0x0CC, 1, 0x0, 0x0, 0x0, 0x0, 0x0⟩,
   ⟨0x0D0, 1, 0x0, 0x0, 0x0, 0x0, 0x0⟩, ⟨0x0D4, 1, 0x0, 0x0, 0x0, 0x0, 0x0⟩,
   ⟨0x0D8, 1, 0x0, 0x0, 0x0, 0x0, 0x0⟩, ⟨0x0DC, 1, 0x0, 0x0, 0x0, 0x0, 0x0⟩,
   ⟨0x0E0, 1, 0x0, 0x0, 0x0, 0x0, 0x0⟩, ⟨0x0E4, 1, 0x0, 0x0, 0x0, 0x0, 0x0⟩,
   ⟨0x0E8, 1, 0x0, 0x0, 0x0, 0x0, 0x0⟩, ⟨0x0EC, 1, 0x0, 0x0, 0x0, 0x0, 0x0⟩,
   ⟨0x0F0, 1, 0x0, 0x0, 0x0, 0x0, 0x0⟩, ⟨0x0F4, 1, 0x0, 0x0, 0x0, 0x0, 0x0⟩,
   ⟨0x0F8, 1, 0x0, 0x0, 0x0, 0x0, 0x0⟩, ⟨0x0FC, 1, 0x0, 0x0, 0x0, 0x0, 0x0⟩]

/-- The block registers of a page. The four SEC pages differ (R474); the ENC RC page shows the entry that RC_INDEX
selects (R184). -/
def blockRegs (p : Page) : List RegDesc :=
  match p.ty with
  | .sys => sysRegs
  | .sec => if p.inst = 0 then sec0Regs else if p.inst = 1 then sec1Regs else if p.inst = 2 then sec2Regs else sec3Regs
  | .pwr => pwrRegs
  | .pwrDom => pwrDomRegs
  | .clk => clkRegs
  | .evt => evtRegs
  | .mbx => mbxRegs
  | .ingest => ingestRegs
  | .lease => leaseRegs
  | .compRaster => compRasterRegs
  | .compLayer => compLayerRegs
  | .compScaler => compScalerRegs
  | .stillPool => stillPoolRegs
  | .colour => colourRegs
  | .enc => encRegs
  | .tsk => tskRegs
  | .ladder => ladderRegs
  | .encRc => encRcRegs ++ rcEntryRegs
  | .dec => decRegs
  | .scan => scanRegs
  | .tileMap => tileMapRegs
  | .cal => calRegs
  | .tile => tileRegs
  | .wide => wideRegs
  | .tileLane => tileLaneRegs
  | .net => netRegs
  | .netGlobal => netGlobalRegs
  | .sched => schedRegs
  | .schedTable => schedTableRegs
  | .fabPort => fabPortRegs
  | .fab => fabRegs
  | .mate => mateRegs
  | .aud => audRegs
  | .cvu => cvuRegs
  | .rcEntry => rcEntryRegs

namespace Reg

/-! SYS -/
def SYS_BEAT_RATE : Field := ⟨0x100, 31, 0⟩
def SYS_FRAME_NO_LO : Field := ⟨0x104, 31, 0⟩
def SYS_FRAME_NO_HI : Field := ⟨0x108, 31, 0⟩
def SYS_FRAME_NO_HI_FRAME_NO : Field := ⟨0x108, 15, 0⟩
def SYS_SYSTIME_NS_LO : Field := ⟨0x10C, 31, 0⟩
def SYS_SYSTIME_NS_HI : Field := ⟨0x110, 31, 0⟩
def SYS_SYSTIME_FRAC : Field := ⟨0x114, 31, 0⟩
def SYS_TIME_SRC : Field := ⟨0x118, 31, 0⟩
def SYS_TIME_SRC_SOURCE : Field := ⟨0x118, 1, 0⟩
def SYS_TIME_SRC_LOCKED : Field := ⟨0x118, 8, 8⟩
def SYS_DEV_ID : Field := ⟨0x180, 31, 0⟩
def SYS_DEV_ID_PART : Field := ⟨0x180, 15, 0⟩
def SYS_DEV_ID_ORDER : Field := ⟨0x180, 19, 16⟩
def SYS_DEV_ID_STEPPING : Field := ⟨0x180, 31, 24⟩
def SYS_DEV_PLACE : Field := ⟨0x184, 31, 0⟩
def SYS_DEV_PLACE_TSK_CHIPLET : Field := ⟨0x184, 1, 0⟩
def SYS_DEV_PLACE_PCIE_IO : Field := ⟨0x184, 2, 2⟩
def SYS_DEV_PLACE_FABRIC_IO : Field := ⟨0x184, 4, 4⟩
def SYS_DEV_PLACE_MOORING_IO : Field := ⟨0x184, 5, 5⟩
def SYS_DEV_PLACE_AUDIO_CVU_IO : Field := ⟨0x184, 6, 6⟩
def SYS_DEV_PLACE_COMPUTE : Field := ⟨0x184, 11, 8⟩
def SYS_DEV_PLACE_LANE_IO : Field := ⟨0x184, 15, 12⟩
def SYS_ROM_VERSION : Field := ⟨0x188, 31, 0⟩
def SYS_ROM_VERSION_MINOR : Field := ⟨0x188, 7, 0⟩
def SYS_ROM_VERSION_MAJOR : Field := ⟨0x188, 15, 8⟩
def SYS_COMMIT_MASK : Field := ⟨0x040, 31, 0⟩
def SYS_COMMIT_TARGET : Field := ⟨0x044, 31, 0⟩
def SYS_COMMIT_TARGET_KIND : Field := ⟨0x044, 1, 0⟩
def SYS_COMMIT_TARGET_RASTER : Field := ⟨0x044, 12, 8⟩
def SYS_COMMIT_FRAME_LO : Field := ⟨0x048, 31, 0⟩
def SYS_COMMIT_FRAME_HI : Field := ⟨0x04C, 31, 0⟩
def SYS_COMMIT_ARM : Field := ⟨0x050, 31, 0⟩
def SYS_COMMIT_ARM_ARM : Field := ⟨0x050, 0, 0⟩
def SYS_COMMIT_ARM_CANCEL : Field := ⟨0x050, 1, 1⟩
def SYS_COMMIT_STATUS : Field := ⟨0x054, 31, 0⟩
def SYS_COMMIT_STATUS_VALIDATING : Field := ⟨0x054, 0, 0⟩
def SYS_COMMIT_STATUS_ARM_RESULT : Field := ⟨0x054, 2, 1⟩
def SYS_COMMIT_STATUS_REASON : Field := ⟨0x054, 15, 8⟩
def SYS_COMMIT_STATUS_GROUP : Field := ⟨0x054, 20, 16⟩
def SYS_GROUP_ARMED : Field := ⟨0x058, 31, 0⟩
def SYS_GROUP_LATE : Field := ⟨0x05C, 31, 0⟩
def SYS_GROUP_RESULT (k : Nat) : Field := ⟨0x060 + 4 * k, 31, 0⟩
def SYS_COMMIT_SEQ : Field := ⟨0x070, 31, 0⟩
def SYS_APPLY_FRAME_LO : Field := ⟨0x074, 31, 0⟩
def SYS_APPLY_FRAME_HI : Field := ⟨0x078, 31, 0⟩
def SYS_APPLY_FRAME_HI_FRAME_NO : Field := ⟨0x078, 15, 0⟩
def SYS_FAB_COMMIT_STATE : Field := ⟨0x080, 31, 0⟩
def SYS_FAB_COMMIT_STATE_STATE : Field := ⟨0x080, 2, 0⟩
def SYS_FAB_COMMIT_STATE_TXN : Field := ⟨0x080, 23, 8⟩
def SYS_FAB_COMMIT_INFO : Field := ⟨0x084, 31, 0⟩
def SYS_FAB_COMMIT_INFO_VOTES_MISSING : Field := ⟨0x084, 12, 0⟩
def SYS_FAB_COMMIT_INFO_FIRST_NO_VALID : Field := ⟨0x084, 13, 13⟩
def SYS_FAB_COMMIT_INFO_FIRST_NO : Field := ⟨0x084, 25, 14⟩
def SYS_FAB_COMMIT_INFO_ABORT_REASON : Field := ⟨0x084, 31, 26⟩
def SYS_CONFIG_EPOCH : Field := ⟨0x088, 31, 0⟩
def SYS_SNAP_BASE_LO : Field := ⟨0x0C0, 31, 0⟩
def SYS_SNAP_BASE_LO_BAR2 : Field := ⟨0x0C0, 31, 12⟩
def SYS_SNAP_BASE_HI : Field := ⟨0x0C4, 31, 0⟩
def SYS_SNAP_FRAME_LO : Field := ⟨0x0C8, 31, 0⟩
def SYS_SNAP_FRAME_HI : Field := ⟨0x0CC, 31, 0⟩
def SYS_SNAP_OP_CTL : Field := ⟨0x0D0, 31, 0⟩
def SYS_SNAP_OP_CTL_START : Field := ⟨0x0D0, 0, 0⟩
def SYS_SNAP_OP_CTL_ABORT : Field := ⟨0x0D0, 1, 1⟩
def SYS_SNAP_OP_STATUS : Field := ⟨0x0D4, 31, 0⟩
def SYS_SNAP_OP_STATUS_STATE : Field := ⟨0x0D4, 2, 0⟩
def SYS_SNAP_OP_STATUS_PROGRESS : Field := ⟨0x0D4, 31, 8⟩
def SYS_SNAP_MODE : Field := ⟨0x0D8, 31, 0⟩
def SYS_REF_CFG : Field := ⟨0x120, 31, 0⟩
def SYS_REF_CFG_TIME_SEL : Field := ⟨0x120, 1, 0⟩
def SYS_REF_CFG_RATE_FOLLOW : Field := ⟨0x120, 2, 2⟩
def SYS_REF_CFG_REF_KIND : Field := ⟨0x120, 5, 4⟩
def SYS_REF_CFG_PULSE_EDGE : Field := ⟨0x120, 6, 6⟩
def SYS_REF_CFG_REF_RATE : Field := ⟨0x120, 11, 8⟩
def SYS_REF_CFG_GLITCH_WINDOW : Field := ⟨0x120, 18, 12⟩
def SYS_REF_DELAY : Field := ⟨0x124, 31, 0⟩
def SYS_REF_STATE : Field := ⟨0x128, 31, 0⟩
def SYS_REF_STATE_STATE : Field := ⟨0x128, 2, 0⟩
def SYS_REF_STATE_RATE_NOW : Field := ⟨0x128, 11, 8⟩
def SYS_REF_STATE_REF_DIV_M1 : Field := ⟨0x128, 14, 12⟩
def SYS_REF_PERIOD : Field := ⟨0x12C, 31, 0⟩
def SYS_REF_OFFSET : Field := ⟨0x130, 31, 0⟩
def SYS_REF_PHASE_ERR : Field := ⟨0x134, 31, 0⟩
def SYS_GLITCH_COUNT : Field := ⟨0x138, 31, 0⟩
def SYS_LOSS_COUNT : Field := ⟨0x13C, 31, 0⟩
def SYS_RESET_CTL : Field := ⟨0x140, 31, 0⟩
def SYS_RESET_CTL_DEVICE : Field := ⟨0x140, 0, 0⟩
def SYS_RESET_CAUSE : Field := ⟨0x144, 31, 0⟩
def SYS_LINK_RESETS : Field := ⟨0x148, 31, 0⟩
/-! EVT -/
def EVT_SOURCE_LEVEL (k : Nat) : Field := ⟨0x040 + 4 * k, 31, 0⟩
def EVT_ROUTE (k : Nat) : Field := ⟨0x080 + 4 * k, 31, 0⟩
def EVT_VECTOR_LEVEL_LO : Field := ⟨0x280, 31, 0⟩
def EVT_VECTOR_LEVEL_HI : Field := ⟨0x284, 31, 0⟩
def EVT_VECTOR_ACK_LO : Field := ⟨0x288, 31, 0⟩
def EVT_VECTOR_ACK_HI : Field := ⟨0x28C, 31, 0⟩
def EVT_PIN_LEVEL : Field := ⟨0x290, 31, 0⟩
def EVT_EVT_CTL : Field := ⟨0x294, 31, 0⟩
def EVT_EVT_CTL_PINS_ENABLE : Field := ⟨0x294, 0, 0⟩
def EVT_EVT_CTL_FAB_ENABLE : Field := ⟨0x294, 1, 1⟩
def EVT_FAB_EVT_DEST : Field := ⟨0x298, 31, 0⟩
def EVT_FAB_EVT_LOST : Field := ⟨0x29C, 31, 0⟩
/-! INGEST -/
def INGEST_STREAM_CFG : Field := ⟨0x040, 31, 0⟩
def INGEST_STREAM_CFG_KIND : Field := ⟨0x040, 1, 0⟩
def INGEST_STREAM_CFG_DUAL_PATH : Field := ⟨0x040, 2, 2⟩
def INGEST_STREAM_CFG_DEC_STREAM : Field := ⟨0x040, 13, 8⟩
def INGEST_STREAM_CFG_TRANSPORT : Field := ⟨0x040, 15, 14⟩
def INGEST_FORMAT : Field := ⟨0x044, 31, 0⟩
def INGEST_FORMAT_SAMPLING : Field := ⟨0x044, 2, 0⟩
def INGEST_FORMAT_DEPTH : Field := ⟨0x044, 5, 3⟩
def INGEST_FORMAT_COLORIMETRY : Field := ⟨0x044, 10, 8⟩
def INGEST_FORMAT_TCS : Field := ⟨0x044, 13, 11⟩
def INGEST_FORMAT_RANGE : Field := ⟨0x044, 15, 14⟩
def INGEST_FORMAT_RATE : Field := ⟨0x044, 23, 20⟩
def INGEST_GEOMETRY : Field := ⟨0x048, 31, 0⟩
def INGEST_GEOMETRY_WIDTH : Field := ⟨0x048, 15, 0⟩
def INGEST_GEOMETRY_HEIGHT : Field := ⟨0x048, 31, 16⟩
def INGEST_FLOWS : Field := ⟨0x04C, 31, 0⟩
def INGEST_FLOWS_FLOW_A : Field := ⟨0x04C, 8, 0⟩
def INGEST_FLOWS_FLOW_B : Field := ⟨0x04C, 24, 16⟩
def INGEST_RING_BASE : Field := ⟨0x050, 31, 0⟩
def INGEST_RING_CFG : Field := ⟨0x054, 31, 0⟩
def INGEST_RING_CFG_SURFACES : Field := ⟨0x054, 4, 0⟩
def INGEST_NEWEST : Field := ⟨0x058, 31, 0⟩
def INGEST_NEWEST_NEWEST_SLOT : Field := ⟨0x058, 3, 0⟩
def INGEST_NEWEST_VALID : Field := ⟨0x058, 4, 4⟩
def INGEST_NEWEST_FILL_SLOT : Field := ⟨0x058, 11, 8⟩
def INGEST_NEWEST_FILLING : Field := ⟨0x058, 12, 12⟩
def INGEST_PROGRESS : Field := ⟨0x05C, 31, 0⟩
def INGEST_PROGRESS_LINES_DONE : Field := ⟨0x05C, 15, 0⟩
def INGEST_PROGRESS_PUBLISHED : Field := ⟨0x05C, 31, 16⟩
/-! LEASE -/
def LEASE_TBL_INDEX : Field := ⟨0x040, 31, 0⟩
def LEASE_TBL_BASE : Field := ⟨0x044, 31, 0⟩
def LEASE_TBL_SIZE : Field := ⟨0x048, 31, 0⟩
def LEASE_TBL_STATE : Field := ⟨0x04C, 31, 0⟩
def LEASE_TBL_STATE_FILLING : Field := ⟨0x04C, 0, 0⟩
def LEASE_TBL_STATE_LEASED : Field := ⟨0x04C, 1, 1⟩
def LEASE_TBL_STATE_SCAN_HELD : Field := ⟨0x04C, 2, 2⟩
def LEASE_TBL_STATE_RETIRED : Field := ⟨0x04C, 3, 3⟩
def LEASE_TBL_STATE_OWNER : Field := ⟨0x04C, 7, 4⟩
def LEASE_TBL_LAST_FRAME : Field := ⟨0x050, 31, 0⟩
def LEASE_ENTRIES_USED : Field := ⟨0x054, 31, 0⟩
def LEASE_RELEASED_FRAME_LO : Field := ⟨0x058, 31, 0⟩
def LEASE_RELEASED_FRAME_HI : Field := ⟨0x05C, 31, 0⟩
def LEASE_RELEASED_FRAME_HI_RELEASED_FRAME : Field := ⟨0x05C, 15, 0⟩
def LEASE_VIOL_TOTAL : Field := ⟨0x060, 31, 0⟩
def LEASE_VIOL_HOST : Field := ⟨0x064, 31, 0⟩
def LEASE_VIOL_ENGINE : Field := ⟨0x068, 31, 0⟩
def LEASE_NO_SURFACE_TOTAL : Field := ⟨0x06C, 31, 0⟩
def LEASE_INCOMPLETE_TOTAL : Field := ⟨0x070, 31, 0⟩
def LEASE_LEASED_SIZE : Field := ⟨0x074, 31, 0⟩
def LEASE_RELEASE_WATCH_LO : Field := ⟨0x078, 31, 0⟩
def LEASE_RELEASE_WATCH_HI : Field := ⟨0x07C, 31, 0⟩
/-! CRASTER -/
def CRASTER_BACKGROUND_LO : Field := ⟨0x040, 31, 0⟩
def CRASTER_BACKGROUND_LO_BG_R : Field := ⟨0x040, 11, 0⟩
def CRASTER_BACKGROUND_LO_BG_G : Field := ⟨0x040, 27, 16⟩
def CRASTER_BACKGROUND_HI : Field := ⟨0x044, 31, 0⟩
def CRASTER_BACKGROUND_HI_BG_B : Field := ⟨0x044, 11, 0⟩
def CRASTER_COMP_CTL : Field := ⟨0x048, 31, 0⟩
def CRASTER_COMP_CTL_SAFE_HOLD : Field := ⟨0x048, 0, 0⟩
def CRASTER_LAYER_SET (k : Nat) : Field := ⟨0x04C + 4 * k, 31, 0⟩
def CRASTER_COMP_STATE : Field := ⟨0x05C, 31, 0⟩
def CRASTER_COMP_STATE_SAFE_ACTIVE : Field := ⟨0x05C, 0, 0⟩
def CRASTER_COMP_STATE_SAFE_CAUSE : Field := ⟨0x05C, 3, 1⟩
def CRASTER_COMP_STATE_CHIPLET : Field := ⟨0x05C, 5, 4⟩
def CRASTER_COMP_STATE_TWO_PIPES : Field := ⟨0x05C, 6, 6⟩
def CRASTER_COMP_STATE_LAYER_COUNT : Field := ⟨0x05C, 13, 8⟩
/-! LAYER -/
def LAYER_LAYER_CFG : Field := ⟨0x040, 31, 0⟩
def LAYER_LAYER_CFG_Z : Field := ⟨0x040, 4, 0⟩
def LAYER_LAYER_CFG_RASTER : Field := ⟨0x040, 9, 5⟩
def LAYER_LAYER_CFG_SOURCE : Field := ⟨0x040, 11, 10⟩
def LAYER_LAYER_CFG_STREAM : Field := ⟨0x040, 17, 12⟩
def LAYER_LAYER_CFG_LINE_FOLLOW : Field := ⟨0x040, 18, 18⟩
def LAYER_LAYER_CFG_STILL_ELIGIBLE : Field := ⟨0x040, 19, 19⟩
def LAYER_LAYER_CFG_NOT_READY_POLICY : Field := ⟨0x040, 21, 20⟩
def LAYER_LAYER_CFG_CONCEALED_POLICY : Field := ⟨0x040, 23, 22⟩
def LAYER_HOST_SURFACE : Field := ⟨0x044, 31, 0⟩
def LAYER_HOST_SURFACE_BASE : Field := ⟨0x044, 20, 0⟩
def LAYER_HOST_SURFACE_FORMAT : Field := ⟨0x044, 24, 21⟩
def LAYER_HOST_GEOMETRY : Field := ⟨0x048, 31, 0⟩
def LAYER_HOST_GEOMETRY_WIDTH : Field := ⟨0x048, 15, 0⟩
def LAYER_HOST_GEOMETRY_HEIGHT : Field := ⟨0x048, 31, 16⟩
def LAYER_SRC_ORIGIN : Field := ⟨0x04C, 31, 0⟩
def LAYER_SRC_SIZE : Field := ⟨0x050, 31, 0⟩
def LAYER_DST_POS : Field := ⟨0x054, 31, 0⟩
def LAYER_DST_SIZE : Field := ⟨0x058, 31, 0⟩
def LAYER_BLEND : Field := ⟨0x05C, 31, 0⟩
def LAYER_BLEND_GLOBAL_ALPHA : Field := ⟨0x05C, 10, 0⟩
def LAYER_BLEND_ALPHA_MODE : Field := ⟨0x05C, 12, 11⟩
def LAYER_BLEND_SCALE_EN : Field := ⟨0x05C, 13, 13⟩
def LAYER_BLEND_SCALER : Field := ⟨0x05C, 19, 14⟩
/-! SCALER -/
def SCALER_SCALER_CFG : Field := ⟨0x040, 31, 0⟩
def SCALER_SCALER_CFG_V_TAPS : Field := ⟨0x040, 1, 0⟩
def SCALER_SCALER_CFG_BANK : Field := ⟨0x040, 2, 2⟩
def SCALER_COEF_INDEX : Field := ⟨0x044, 31, 0⟩
def SCALER_COEF_INDEX_INDEX : Field := ⟨0x044, 9, 0⟩
def SCALER_COEF_INDEX_COEF_BANK : Field := ⟨0x044, 10, 10⟩
def SCALER_COEF_DATA : Field := ⟨0x048, 31, 0⟩
def SCALER_SCALER_STATE : Field := ⟨0x04C, 31, 0⟩
def SCALER_SCALER_STATE_BANK0_VALID : Field := ⟨0x04C, 3, 0⟩
def SCALER_SCALER_STATE_BANK1_VALID : Field := ⟨0x04C, 7, 4⟩
def SCALER_SCALER_STATE_USER : Field := ⟨0x04C, 15, 8⟩
def SCALER_SCALER_STATE_LATCHED_BANK : Field := ⟨0x04C, 16, 16⟩
/-! POOL -/
def POOL_POOL_CFG : Field := ⟨0x040, 31, 0⟩
def POOL_POOL_CFG_STILL_BEATS : Field := ⟨0x040, 7, 0⟩
def POOL_POOL_CFG_SPILL_ENABLE : Field := ⟨0x040, 8, 8⟩
def POOL_RUNS_FORMED : Field := ⟨0x044, 31, 0⟩
def POOL_POOL_USED : Field := ⟨0x048, 31, 0⟩
def POOL_SPILL_USED : Field := ⟨0x04C, 31, 0⟩
def POOL_FORMED_TOTAL : Field := ⟨0x050, 31, 0⟩
def POOL_INVALIDATED_TOTAL : Field := ⟨0x054, 31, 0⟩
def POOL_NOT_FORMED_TOTAL : Field := ⟨0x058, 31, 0⟩
def POOL_FLAT_LINES : Field := ⟨0x05C, 31, 0⟩
def POOL_RUN_INDEX : Field := ⟨0x060, 31, 0⟩
def POOL_RUN_INFO : Field := ⟨0x064, 31, 0⟩
def POOL_RUN_LAYERS (k : Nat) : Field := ⟨0x068 + 4 * k, 31, 0⟩
def POOL_RUN_SIZE : Field := ⟨0x078, 31, 0⟩
def POOL_RUN_SIZE_SPILLED : Field := ⟨0x078, 31, 31⟩
def POOL_RUN_AGE : Field := ⟨0x07C, 31, 0⟩
/-! COLOUR -/
def COLOUR_INPUT_CFG : Field := ⟨0x040, 31, 0⟩
def COLOUR_INPUT_CFG_COLORIMETRY : Field := ⟨0x040, 2, 0⟩
def COLOUR_INPUT_CFG_TCS : Field := ⟨0x040, 5, 3⟩
def COLOUR_INPUT_CFG_RANGE : Field := ⟨0x040, 7, 6⟩
def COLOUR_INPUT_CFG_WORK_PEAK : Field := ⟨0x040, 9, 8⟩
def COLOUR_WALL_CFG : Field := ⟨0x044, 31, 0⟩
def COLOUR_WALL_CFG_WALL_GAIN : Field := ⟨0x044, 12, 0⟩
def COLOUR_WALL_CFG_LUT3D_EN : Field := ⟨0x044, 13, 13⟩
def COLOUR_WALL_CFG_WALL_BANK : Field := ⟨0x044, 14, 14⟩
def COLOUR_BCAST_CFG : Field := ⟨0x048, 31, 0⟩
def COLOUR_BCAST_CFG_OUT_TCS : Field := ⟨0x048, 1, 0⟩
def COLOUR_BCAST_CFG_DYN_EN : Field := ⟨0x048, 2, 2⟩
def COLOUR_BCAST_CFG_CURVES_M1 : Field := ⟨0x048, 5, 3⟩
def COLOUR_BCAST_CFG_BCAST_BANK : Field := ⟨0x048, 6, 6⟩
def COLOUR_BCAST_CFG_TONE_PCT : Field := ⟨0x048, 15, 8⟩
def COLOUR_BCAST_CFG_HYST : Field := ⟨0x048, 18, 16⟩
def COLOUR_TONE_STATE : Field := ⟨0x04C, 31, 0⟩
def COLOUR_TONE_STATE_CURVE_IN_USE : Field := ⟨0x04C, 2, 0⟩
def COLOUR_TONE_STATE_KEY_BIN : Field := ⟨0x04C, 13, 8⟩
def COLOUR_TONE_STATE_STATS_FRAME : Field := ⟨0x04C, 31, 16⟩
def COLOUR_LUT_INDEX : Field := ⟨0x050, 31, 0⟩
def COLOUR_LUT_INDEX_INDEX : Field := ⟨0x050, 16, 0⟩
def COLOUR_LUT_INDEX_TABLE : Field := ⟨0x050, 19, 17⟩
def COLOUR_LUT_INDEX_LUT_BANK : Field := ⟨0x050, 20, 20⟩
def COLOUR_LUT_DATA : Field := ⟨0x054, 31, 0⟩
/-! ENC -/
def ENC_CH_CFG : Field := ⟨0x040, 31, 0⟩
def ENC_CH_CFG_CODEC : Field := ⟨0x040, 0, 0⟩
def ENC_CH_CFG_PROFILE : Field := ⟨0x040, 2, 1⟩
def ENC_CH_CFG_TIER : Field := ⟨0x040, 3, 3⟩
def ENC_CH_CFG_LEVEL_IDC : Field := ⟨0x040, 11, 4⟩
def ENC_CH_CFG_CHROMA : Field := ⟨0x040, 13, 12⟩
def ENC_CH_CFG_CTU128 : Field := ⟨0x040, 14, 14⟩
def ENC_CH_CFG_LATENCY : Field := ⟨0x040, 15, 15⟩
def ENC_CH_CFG_RASTER : Field := ⟨0x040, 20, 16⟩
def ENC_CH_CFG_DIVISOR_M1 : Field := ⟨0x040, 23, 21⟩
def ENC_CH_CFG_EFFORT : Field := ⟨0x040, 25, 24⟩
def ENC_CH_CFG_SCALE_LOG2 : Field := ⟨0x040, 27, 26⟩
def ENC_SRC_ORIGIN : Field := ⟨0x044, 31, 0⟩
def ENC_SRC_SIZE : Field := ⟨0x048, 31, 0⟩
def ENC_SLICE_CFG : Field := ⟨0x04C, 31, 0⟩
def ENC_SLICE_CFG_SLICE_ROWS : Field := ⟨0x04C, 7, 0⟩
def ENC_SLICE_CFG_TILE_COLS_M1 : Field := ⟨0x04C, 11, 8⟩
def ENC_SLICE_CFG_SUBPIC : Field := ⟨0x04C, 12, 12⟩
def ENC_GOP_CFG : Field := ⟨0x050, 31, 0⟩
def ENC_GOP_CFG_REF_MODE : Field := ⟨0x050, 0, 0⟩
def ENC_GOP_CFG_MAX_REFS : Field := ⟨0x050, 3, 1⟩
def ENC_GOP_CFG_REFRESH : Field := ⟨0x050, 4, 4⟩
def ENC_GOP_CFG_REFRESH_REQ : Field := ⟨0x050, 5, 5⟩
def ENC_GOP_CFG_PERIOD : Field := ⟨0x050, 17, 8⟩
def ENC_CODING_CFG : Field := ⟨0x054, 31, 0⟩
def ENC_CODING_CFG_SEARCH_ROWS : Field := ⟨0x054, 2, 0⟩
def ENC_CODING_CFG_H_RANGE : Field := ⟨0x054, 7, 4⟩
def ENC_CODING_CFG_HINT_SKIP : Field := ⟨0x054, 8, 8⟩
def ENC_CODING_CFG_HINT_MOTION : Field := ⟨0x054, 9, 9⟩
def ENC_CODING_CFG_HINT_EDGE : Field := ⟨0x054, 10, 10⟩
def ENC_CODING_CFG_EDGE_QP_DELTA : Field := ⟨0x054, 15, 12⟩
def ENC_WORK_BASE : Field := ⟨0x058, 31, 0⟩
def ENC_CH_STATE : Field := ⟨0x05C, 31, 0⟩
def ENC_CH_STATE_STATE : Field := ⟨0x05C, 2, 0⟩
def ENC_CH_STATE_LADDER : Field := ⟨0x05C, 3, 3⟩
def ENC_CH_STATE_PICTURES : Field := ⟨0x05C, 31, 16⟩
/-! TSK -/
def TSK_TSK_CFG : Field := ⟨0x040, 31, 0⟩
def TSK_TSK_CFG_AFFINITY_WAIT : Field := ⟨0x040, 15, 0⟩
def TSK_HIST_CFG : Field := ⟨0x044, 31, 0⟩
def TSK_HIST_CFG_HIST_SHIFT : Field := ⟨0x044, 3, 0⟩
def TSK_HIST_CFG_HIST_CLEAR : Field := ⟨0x044, 8, 8⟩
def TSK_ENGINE_AVAIL (k : Nat) : Field := ⟨0x048 + 4 * k, 31, 0⟩
def TSK_ENGINE_BUSY (k : Nat) : Field := ⟨0x054 + 4 * k, 31, 0⟩
def TSK_ENTROPY_STATE : Field := ⟨0x060, 31, 0⟩
def TSK_JOB_COUNTS : Field := ⟨0x064, 31, 0⟩
def TSK_HELD (k : Nat) : Field := ⟨0x068 + 4 * k, 31, 0⟩
def TSK_HELD_TOTAL : Field := ⟨0x078, 31, 0⟩
def TSK_AFF_PREFERRED : Field := ⟨0x07C, 31, 0⟩
def TSK_AFF_CHIPLET : Field := ⟨0x080, 31, 0⟩
def TSK_AFF_ANY : Field := ⟨0x084, 31, 0⟩
def TSK_OBS_INDEX : Field := ⟨0x088, 31, 0⟩
def TSK_OBS_INDEX_INDEX : Field := ⟨0x088, 7, 0⟩
def TSK_OBS_INDEX_KIND : Field := ⟨0x088, 9, 8⟩
def TSK_OBS_DATA (k : Nat) : Field := ⟨0x08C + 4 * k, 31, 0⟩
def TSK_WINDOW_DEPTH (k : Nat) : Field := ⟨0x0C0 + 4 * k, 31, 0⟩
/-! LADDER -/
def LADDER_LADDER_CFG : Field := ⟨0x040, 31, 0⟩
def LADDER_LADDER_CFG_RUNGS_M1 : Field := ⟨0x040, 2, 0⟩
def LADDER_LADDER_CFG_REFINE : Field := ⟨0x040, 7, 4⟩
def LADDER_RUNGS_LO : Field := ⟨0x044, 31, 0⟩
def LADDER_RUNGS_HI : Field := ⟨0x048, 31, 0⟩
def LADDER_LADDER_STATE : Field := ⟨0x04C, 31, 0⟩
def LADDER_LADDER_STATE_RUNNING : Field := ⟨0x04C, 0, 0⟩
def LADDER_LADDER_STATE_ADMITTED : Field := ⟨0x04C, 1, 1⟩
def LADDER_ROWS_ANALYSED : Field := ⟨0x050, 31, 0⟩
def LADDER_ROWS_REUSED : Field := ⟨0x054, 31, 0⟩
def LADDER_ANALYSIS_WAIT : Field := ⟨0x058, 31, 0⟩
def LADDER_DEMAND : Field := ⟨0x05C, 31, 0⟩
/-! RC -/
def RC_RC_INDEX : Field := ⟨0x040, 31, 0⟩
def RC_RC_INDEX_CHANNEL : Field := ⟨0x040, 6, 0⟩
def RC_RC_CFG : Field := ⟨0x044, 31, 0⟩
def RC_RC_CFG_MODE : Field := ⟨0x044, 1, 0⟩
def RC_RC_CFG_DU_MODE : Field := ⟨0x044, 2, 2⟩
def RC_RC_CFG_QP_MIN : Field := ⟨0x044, 9, 4⟩
def RC_RC_CFG_QP_MAX : Field := ⟨0x044, 15, 10⟩
def RC_RC_CFG_QP_INIT : Field := ⟨0x044, 21, 16⟩
def RC_BIT_RATE : Field := ⟨0x048, 31, 0⟩
def RC_MAX_RATE : Field := ⟨0x04C, 31, 0⟩
def RC_CPB_SIZE : Field := ⟨0x050, 31, 0⟩
def RC_INIT_DELAY : Field := ⟨0x054, 31, 0⟩
def RC_REMOVAL_OFFSET : Field := ⟨0x058, 31, 0⟩
def RC_DU_CAP : Field := ⟨0x05C, 31, 0⟩
def RC_RC_TUNE : Field := ⟨0x060, 31, 0⟩
def RC_RC_TUNE_ROW_SWING : Field := ⟨0x060, 3, 0⟩
def RC_RC_TUNE_TARGET_FULL : Field := ⟨0x060, 11, 4⟩
def RC_RC_STATE : Field := ⟨0x064, 31, 0⟩
def RC_RC_STATE_LAST_QP : Field := ⟨0x064, 5, 0⟩
def RC_RC_STATE_FLOOR_LAST : Field := ⟨0x064, 6, 6⟩
def RC_RC_STATE_FIRST_FLOOR_ROW : Field := ⟨0x064, 15, 8⟩
def RC_RC_STATE_FLOOR_ROWS_LAST : Field := ⟨0x064, 31, 16⟩
def RC_FULLNESS : Field := ⟨0x068, 31, 0⟩
def RC_LAST_PIC_BITS : Field := ⟨0x06C, 31, 0⟩
def RC_LAST_FILLER : Field := ⟨0x070, 31, 0⟩
def RC_FLOOR_PICS : Field := ⟨0x074, 31, 0⟩
def RC_FLOOR_ROWS : Field := ⟨0x078, 31, 0⟩
def RC_FILLER_BYTES : Field := ⟨0x07C, 31, 0⟩
def RC_EMIT_LATE_COUNT : Field := ⟨0x080, 31, 0⟩
def RC_MIN_SLACK : Field := ⟨0x084, 31, 0⟩
def RC_LAT_LAST (k : Nat) : Field := ⟨0x088 + 4 * k, 31, 0⟩
def RC_LAT_MAX (k : Nat) : Field := ⟨0x098 + 4 * k, 31, 0⟩
def RC_RC_CTL : Field := ⟨0x0A8, 31, 0⟩
def RC_RC_CTL_CLEAR : Field := ⟨0x0A8, 0, 0⟩
def RC_PLAN_QP : Field := ⟨0x0AC, 31, 0⟩
def RC_PLAN_QP_QP : Field := ⟨0x0AC, 5, 0⟩
def RC_BUDGET_LEFT : Field := ⟨0x0B0, 31, 0⟩
def RC_HRD_INFO : Field := ⟨0x0B4, 31, 0⟩
def RC_FLOOR_COST_ROW : Field := ⟨0x0B8, 31, 0⟩
def RC_FLOOR_COST_DU : Field := ⟨0x0BC, 31, 0⟩
/-! DEC -/
def DEC_DEC_CFG : Field := ⟨0x040, 31, 0⟩
def DEC_DEC_CFG_CODEC : Field := ⟨0x040, 0, 0⟩
def DEC_DEC_CFG_SOURCE : Field := ⟨0x040, 1, 1⟩
def DEC_DEC_CFG_PARTIAL : Field := ⟨0x040, 2, 2⟩
def DEC_DEC_CFG_RATE : Field := ⟨0x040, 7, 4⟩
def DEC_DEC_CFG_CHROMA : Field := ⟨0x040, 9, 8⟩
def DEC_DEC_CFG_COLORIMETRY : Field := ⟨0x040, 12, 10⟩
def DEC_DEC_CFG_TCS : Field := ⟨0x040, 15, 13⟩
def DEC_DEC_CFG_RANGE : Field := ⟨0x040, 17, 16⟩
def DEC_DEC_CFG_SLOTS : Field := ⟨0x040, 22, 18⟩
def DEC_DEC_CFG_REFS : Field := ⟨0x040, 27, 23⟩
def DEC_DEC_CFG_ALIGN : Field := ⟨0x040, 30, 28⟩
def DEC_GEOMETRY : Field := ⟨0x044, 31, 0⟩
def DEC_GEOMETRY_WIDTH : Field := ⟨0x044, 15, 0⟩
def DEC_GEOMETRY_HEIGHT : Field := ⟨0x044, 31, 16⟩
def DEC_FERRY_SRC : Field := ⟨0x048, 31, 0⟩
def DEC_FERRY_SRC_NODE : Field := ⟨0x048, 11, 0⟩
def DEC_FERRY_SRC_FERRY_ID : Field := ⟨0x048, 19, 12⟩
def DEC_RING_BASE : Field := ⟨0x04C, 31, 0⟩
def DEC_REGION : Field := ⟨0x050, 31, 0⟩
def DEC_REGION_X0 : Field := ⟨0x050, 7, 0⟩
def DEC_REGION_Y0 : Field := ⟨0x050, 15, 8⟩
def DEC_REGION_X1 : Field := ⟨0x050, 23, 16⟩
def DEC_REGION_Y1 : Field := ⟨0x050, 31, 24⟩
def DEC_DEC_STATE : Field := ⟨0x054, 31, 0⟩
def DEC_DEC_STATE_NEWEST_SLOT : Field := ⟨0x054, 3, 0⟩
def DEC_DEC_STATE_VALID : Field := ⟨0x054, 4, 4⟩
def DEC_DEC_STATE_NEWEST_CONCEALED : Field := ⟨0x054, 5, 5⟩
def DEC_DEC_STATE_FILL_SLOT : Field := ⟨0x054, 11, 8⟩
def DEC_DEC_STATE_FILLING : Field := ⟨0x054, 12, 12⟩
def DEC_DEC_STATE_PUBLISHED : Field := ⟨0x054, 31, 16⟩
/-! SCAN -/
def SCAN_RG_CFG : Field := ⟨0x040, 31, 0⟩
def SCAN_RG_CFG_DIVISOR_M1 : Field := ⟨0x040, 2, 0⟩
def SCAN_RG_CFG_DIV_FOLLOW : Field := ⟨0x040, 3, 3⟩
def SCAN_RG_CFG_COMMIT_MARGIN : Field := ⟨0x040, 10, 4⟩
def SCAN_RG_CFG_CHECK_BANK : Field := ⟨0x040, 11, 11⟩
def SCAN_RG_CFG_THERM_BANK : Field := ⟨0x040, 12, 12⟩
def SCAN_RG_CFG_THERMAL_EN : Field := ⟨0x040, 13, 13⟩
def SCAN_H_TIMING : Field := ⟨0x044, 31, 0⟩
def SCAN_H_TIMING_H_ACTIVE : Field := ⟨0x044, 15, 0⟩
def SCAN_V_TIMING : Field := ⟨0x048, 31, 0⟩
def SCAN_V_TIMING_V_ACTIVE : Field := ⟨0x048, 15, 0⟩
def SCAN_V_TIMING_V_TOTAL : Field := ⟨0x048, 31, 16⟩
def SCAN_PHASE : Field := ⟨0x04C, 31, 0⟩
def SCAN_PHASE_PHASE_NS : Field := ⟨0x04C, 23, 0⟩
def SCAN_MAP_RANGE : Field := ⟨0x050, 31, 0⟩
def SCAN_MAP_RANGE_MAP_FIRST : Field := ⟨0x050, 12, 0⟩
def SCAN_MAP_RANGE_MAP_COUNT : Field := ⟨0x050, 29, 16⟩
def SCAN_THERMAL_CFG : Field := ⟨0x054, 31, 0⟩
def SCAN_THERMAL_CFG_STALE_FRAMES : Field := ⟨0x054, 7, 0⟩
def SCAN_RG_STATE : Field := ⟨0x058, 31, 0⟩
def SCAN_RG_STATE_EFF_DIV_M1 : Field := ⟨0x058, 2, 0⟩
def SCAN_RG_STATE_LOCK : Field := ⟨0x058, 4, 3⟩
def SCAN_RG_STATE_RUNNING : Field := ⟨0x058, 5, 5⟩
def SCAN_RG_STATE_LEAD_IN : Field := ⟨0x058, 6, 6⟩
def SCAN_RG_STATE_STEP : Field := ⟨0x058, 7, 7⟩
def SCAN_RG_STATE_FRAMES : Field := ⟨0x058, 31, 16⟩
def SCAN_CHECK_STATE : Field := ⟨0x05C, 31, 0⟩
def SCAN_CHECK_STATE_MATCH : Field := ⟨0x05C, 7, 0⟩
def SCAN_CHECK_STATE_MISMATCH : Field := ⟨0x05C, 15, 8⟩
def SCAN_CHECK_STATE_WITHHELD : Field := ⟨0x05C, 23, 16⟩
def SCAN_CHECK_STATE_FRAME : Field := ⟨0x05C, 31, 24⟩
/-! MAP -/
def MAP_TBL_INDEX : Field := ⟨0x040, 31, 0⟩
def MAP_TBL_INDEX_INDEX : Field := ⟨0x040, 12, 0⟩
def MAP_TBL_INDEX_TABLE : Field := ⟨0x040, 17, 16⟩
def MAP_TBL_INDEX_WORD : Field := ⟨0x040, 19, 18⟩
def MAP_TBL_DATA : Field := ⟨0x044, 31, 0⟩
def MAP_ENTRIES_ENABLED : Field := ⟨0x048, 31, 0⟩
def MAP_LANES_USED : Field := ⟨0x04C, 31, 0⟩
def MAP_THERM_REPORTS : Field := ⟨0x050, 31, 0⟩
def MAP_THERM_STALE_TOTAL : Field := ⟨0x054, 31, 0⟩
def MAP_CHECK_TOTAL : Field := ⟨0x058, 31, 0⟩
def MAP_MISMATCH_TOTAL : Field := ⟨0x05C, 31, 0⟩
/-! CAL -/
def CAL_CAL_INDEX : Field := ⟨0x040, 31, 0⟩
def CAL_CAL_INDEX_CELL : Field := ⟨0x040, 19, 0⟩
def CAL_CAL_INDEX_WORD : Field := ⟨0x040, 22, 20⟩
def CAL_CAL_DATA : Field := ⟨0x044, 31, 0⟩
def CAL_LOAD_SRC : Field := ⟨0x048, 31, 0⟩
def CAL_LOAD_FIRST : Field := ⟨0x04C, 31, 0⟩
def CAL_LOAD_COUNT : Field := ⟨0x050, 31, 0⟩
def CAL_OP_CTL : Field := ⟨0x054, 31, 0⟩
def CAL_OP_CTL_START : Field := ⟨0x054, 0, 0⟩
def CAL_OP_CTL_ABORT : Field := ⟨0x054, 1, 1⟩
def CAL_OP_STATUS : Field := ⟨0x058, 31, 0⟩
def CAL_OP_STATUS_STATE : Field := ⟨0x058, 2, 0⟩
def CAL_OP_STATUS_PROGRESS : Field := ⟨0x058, 31, 8⟩
def CAL_STAGE_STATE : Field := ⟨0x05C, 31, 0⟩
/-! TILE -/
def TILE_SHOW_CFG : Field := ⟨0x040, 31, 0⟩
def TILE_SHOW_CFG_SHOW_DELAY_NS : Field := ⟨0x040, 15, 0⟩
def TILE_SHOW_CFG_HOP_NS : Field := ⟨0x040, 24, 16⟩
def TILE_HOLD_CFG : Field := ⟨0x044, 31, 0⟩
def TILE_HOLD_CFG_HOLD_FRAMES : Field := ⟨0x044, 7, 0⟩
def TILE_LANE_INDEX : Field := ⟨0x048, 31, 0⟩
def TILE_LANE_INDEX_LANE : Field := ⟨0x048, 8, 0⟩
def TILE_LANE_INDEX_POS : Field := ⟨0x048, 12, 9⟩
def TILE_LANE_STATE : Field := ⟨0x04C, 31, 0⟩
def TILE_LANE_STATE_FAULT : Field := ⟨0x04C, 2, 0⟩
def TILE_LANE_STATE_RX_LOCK : Field := ⟨0x04C, 3, 3⟩
def TILE_LANE_STATE_CHAIN_LEN : Field := ⟨0x04C, 8, 4⟩
def TILE_LANE_STATE_RX_BAD : Field := ⟨0x04C, 31, 16⟩
def TILE_REPORT_0 : Field := ⟨0x050, 31, 0⟩
def TILE_REPORT_0_TEMP : Field := ⟨0x050, 15, 0⟩
def TILE_REPORT_0_FRAME : Field := ⟨0x050, 23, 16⟩
def TILE_REPORT_0_TX_INVERTED : Field := ⟨0x050, 24, 24⟩
def TILE_REPORT_0_GEOMETRY_ERR : Field := ⟨0x050, 25, 25⟩
def TILE_REPORT_0_OVERTEMP : Field := ⟨0x050, 26, 26⟩
def TILE_REPORT_0_VALID : Field := ⟨0x050, 27, 27⟩
def TILE_REPORT_1 : Field := ⟨0x054, 31, 0⟩
def TILE_REPORT_1_CRC_ERRORS : Field := ⟨0x054, 15, 0⟩
def TILE_REPORT_1_HIGH_EPOCH : Field := ⟨0x054, 31, 16⟩
def TILE_REPORT_2 : Field := ⟨0x058, 31, 0⟩
def TILE_REPORT_2_VENDOR_STATUS : Field := ⟨0x058, 15, 0⟩
def TILE_REPORT_2_AGE : Field := ⟨0x058, 31, 16⟩
def TILE_FAULT_CFG : Field := ⟨0x05C, 31, 0⟩
def TILE_FAULT_CFG_RETRY_INTERVAL : Field := ⟨0x05C, 7, 0⟩
def TILE_FAULT_SUMMARY : Field := ⟨0x060, 31, 0⟩
def TILE_PKT_SENT : Field := ⟨0x064, 31, 0⟩
def TILE_REPORTS_RX : Field := ⟨0x068, 31, 0⟩
def TILE_REPORTS_BAD : Field := ⟨0x06C, 31, 0⟩
def TILE_IDLE_LANES : Field := ⟨0x070, 31, 0⟩
def TILE_EPOCH_TX : Field := ⟨0x074, 31, 0⟩
def TILE_EPOCH_TX_OWN_EPOCH : Field := ⟨0x074, 15, 0⟩
def TILE_LANE_CTL : Field := ⟨0x078, 31, 0⟩
def TILE_LANE_CTL_RETRY : Field := ⟨0x078, 0, 0⟩
def TILE_TEMP_MAX : Field := ⟨0x07C, 31, 0⟩
/-! WL -/
def WL_LANE_CFG : Field := ⟨0x040, 31, 0⟩
def WL_LANE_CFG_RATE : Field := ⟨0x040, 2, 0⟩
def WL_LANE_CFG_TX_INVERT : Field := ⟨0x040, 3, 3⟩
def WL_LANE_CFG_RX_INVERT : Field := ⟨0x040, 4, 4⟩
def WL_LANE_CFG_LOGICAL : Field := ⟨0x040, 10, 8⟩
def WL_TX_EQ : Field := ⟨0x044, 31, 0⟩
def WL_TX_EQ_PRE1 : Field := ⟨0x044, 4, 0⟩
def WL_TX_EQ_POST1 : Field := ⟨0x044, 12, 8⟩
def WL_TX_EQ_PRE2 : Field := ⟨0x044, 19, 16⟩
def WL_LANE_CTL : Field := ⟨0x048, 31, 0⟩
def WL_LANE_CTL_LOOPBACK : Field := ⟨0x048, 1, 0⟩
def WL_LANE_CTL_PRBS_TX : Field := ⟨0x048, 2, 2⟩
def WL_LANE_CTL_PRBS_RX : Field := ⟨0x048, 3, 3⟩
def WL_LANE_CTL_ADAPT_FREEZE : Field := ⟨0x048, 4, 4⟩
def WL_LANE_CTL_ADAPT_RESTART : Field := ⟨0x048, 8, 8⟩
def WL_LANE_CTL_ERR_CLEAR : Field := ⟨0x048, 9, 9⟩
def WL_LANE_STATE : Field := ⟨0x04C, 31, 0⟩
def WL_LANE_STATE_PHASE : Field := ⟨0x04C, 2, 0⟩
def WL_LANE_STATE_LOS : Field := ⟨0x04C, 3, 3⟩
def WL_LANE_STATE_LOL : Field := ⟨0x04C, 4, 4⟩
def WL_LANE_STATE_LOOPBACK_ON : Field := ⟨0x04C, 5, 5⟩
def WL_LANE_STATE_UP_COUNT : Field := ⟨0x04C, 31, 16⟩
def WL_RX_EYE : Field := ⟨0x050, 31, 0⟩
def WL_RX_EYE_EYE_H : Field := ⟨0x050, 7, 0⟩
def WL_RX_EYE_EYE_W : Field := ⟨0x050, 15, 8⟩
def WL_RX_EYE_UPDATES : Field := ⟨0x050, 31, 16⟩
def WL_SYM_ERRORS : Field := ⟨0x054, 31, 0⟩
def WL_PRBS_ERRORS : Field := ⟨0x058, 31, 0⟩
def WL_LOSS_EVENTS : Field := ⟨0x05C, 31, 0⟩
def WL_LOSS_EVENTS_LOS : Field := ⟨0x05C, 15, 0⟩
def WL_LOSS_EVENTS_LOL : Field := ⟨0x05C, 31, 16⟩
/-! TL -/
def TL_LANE_CFG : Field := ⟨0x040, 31, 0⟩
def TL_LANE_CFG_RATE : Field := ⟨0x040, 2, 0⟩
def TL_LANE_CFG_TX_POST : Field := ⟨0x040, 7, 4⟩
def TL_LANE_CTL : Field := ⟨0x044, 31, 0⟩
def TL_LANE_CTL_LOOPBACK : Field := ⟨0x044, 1, 0⟩
def TL_LANE_CTL_PRBS_TX : Field := ⟨0x044, 2, 2⟩
def TL_LANE_CTL_PRBS_RX : Field := ⟨0x044, 3, 3⟩
def TL_LANE_CTL_ADAPT_FREEZE : Field := ⟨0x044, 4, 4⟩
def TL_LANE_CTL_ADAPT_RESTART : Field := ⟨0x044, 8, 8⟩
def TL_LANE_CTL_ERR_CLEAR : Field := ⟨0x044, 9, 9⟩
def TL_LANE_STATE : Field := ⟨0x048, 31, 0⟩
def TL_LANE_STATE_PHASE : Field := ⟨0x048, 2, 0⟩
def TL_LANE_STATE_LOS : Field := ⟨0x048, 3, 3⟩
def TL_LANE_STATE_LOL : Field := ⟨0x048, 4, 4⟩
def TL_LANE_STATE_LOOPBACK_ON : Field := ⟨0x048, 5, 5⟩
def TL_LANE_STATE_RX_INVERTED : Field := ⟨0x048, 6, 6⟩
def TL_LANE_STATE_BLOCK_LOCK : Field := ⟨0x048, 7, 7⟩
def TL_LANE_STATE_EYE_H : Field := ⟨0x048, 15, 8⟩
def TL_LANE_STATE_PRBS_ERRORS : Field := ⟨0x048, 31, 16⟩
/-! NET -/
def NET_PORT_CFG : Field := ⟨0x040, 31, 0⟩
def NET_PORT_CFG_MODE : Field := ⟨0x040, 3, 0⟩
def NET_PORT_CFG_FEC_NONE : Field := ⟨0x040, 4, 4⟩
def NET_PORT_CFG_SPLIT : Field := ⟨0x040, 5, 5⟩
def NET_PORT_CFG_MACSEC : Field := ⟨0x040, 6, 6⟩
def NET_PORT_CFG_PTP : Field := ⟨0x040, 7, 7⟩
def NET_PORT_CFG_MAX_FRAME : Field := ⟨0x040, 21, 8⟩
def NET_PORT_STATE : Field := ⟨0x044, 31, 0⟩
def NET_PORT_STATE_LINK : Field := ⟨0x044, 0, 0⟩
def NET_PORT_STATE_HIGH_SER : Field := ⟨0x044, 1, 1⟩
def NET_PORT_STATE_LOOPED : Field := ⟨0x044, 2, 2⟩
def NET_PORT_STATE_PTP_STATE : Field := ⟨0x044, 7, 4⟩
def NET_PORT_STATE_LINK_UPS : Field := ⟨0x044, 31, 16⟩
def NET_RX_FRAMES : Field := ⟨0x048, 31, 0⟩
def NET_TX_FRAMES : Field := ⟨0x04C, 31, 0⟩
def NET_RX_ERRORS : Field := ⟨0x050, 31, 0⟩
def NET_RX_ERRORS_FCS : Field := ⟨0x050, 15, 0⟩
def NET_FEC_COUNT : Field := ⟨0x054, 31, 0⟩
/-! NETG -/
def NETG_TBL_INDEX : Field := ⟨0x040, 31, 0⟩
def NETG_TBL_INDEX_INDEX : Field := ⟨0x040, 10, 0⟩
def NETG_TBL_INDEX_TABLE : Field := ⟨0x040, 14, 12⟩
def NETG_TBL_CTL : Field := ⟨0x044, 31, 0⟩
def NETG_TBL_CTL_WRITE : Field := ⟨0x044, 0, 0⟩
def NETG_TBL_CTL_READ : Field := ⟨0x044, 1, 1⟩
def NETG_TBL_DATA (k : Nat) : Field := ⟨0x048 + 4 * k, 31, 0⟩
def NETG_NET_CFG : Field := ⟨0x078, 31, 0⟩
def NETG_PTP_CFG : Field := ⟨0x07C, 31, 0⟩
def NETG_PTP_CFG_ROLE : Field := ⟨0x07C, 1, 0⟩
def NETG_PTP_CFG_TWO_STEP : Field := ⟨0x07C, 2, 2⟩
def NETG_PTP_CFG_IPV6 : Field := ⟨0x07C, 3, 3⟩
def NETG_PTP_CFG_DOMAIN : Field := ⟨0x07C, 11, 4⟩
def NETG_PTP_CFG_SLAVE_ONLY : Field := ⟨0x07C, 12, 12⟩
def NETG_PTP_PRIO : Field := ⟨0x080, 31, 0⟩
def NETG_PTP_PRIO_PRIORITY1 : Field := ⟨0x080, 7, 0⟩
def NETG_PTP_PRIO_PRIORITY2 : Field := ⟨0x080, 15, 8⟩
def NETG_PTP_PRIO_LOG_ANNOUNCE : Field := ⟨0x080, 19, 16⟩
def NETG_PTP_PRIO_LOG_SYNC : Field := ⟨0x080, 23, 20⟩
def NETG_PTP_PRIO_LOG_DELAY_REQ : Field := ⟨0x080, 27, 24⟩
def NETG_PTP_PRIO_ANNOUNCE_TIMEOUT : Field := ⟨0x080, 31, 28⟩
def NETG_PTP_STATE : Field := ⟨0x084, 31, 0⟩
def NETG_PTP_STATE_SLAVE : Field := ⟨0x084, 5, 5⟩
def NETG_PTP_OFFSET : Field := ⟨0x088, 31, 0⟩
def NETG_PTP_DELAY : Field := ⟨0x08C, 31, 0⟩
def NETG_GM_ID_LO : Field := ⟨0x090, 31, 0⟩
def NETG_GM_ID_HI : Field := ⟨0x094, 31, 0⟩
def NETG_RX_UNMATCHED : Field := ⟨0x098, 31, 0⟩
def NETG_RX_BAD : Field := ⟨0x09C, 31, 0⟩
def NETG_SRTP_AUTH_FAIL : Field := ⟨0x0A0, 31, 0⟩
def NETG_SRTP_REPLAY : Field := ⟨0x0A4, 31, 0⟩
def NETG_POLICED_DROP : Field := ⟨0x0A8, 31, 0⟩
def NETG_POLICED_MARK : Field := ⟨0x0AC, 31, 0⟩
def NETG_MACSEC_DROP : Field := ⟨0x0B0, 31, 0⟩
def NETG_TX_SUPPRESSED : Field := ⟨0x0B4, 31, 0⟩
def NETG_TX_UNRESOLVED : Field := ⟨0x0B8, 31, 0⟩
def NETG_FW_PKTS : Field := ⟨0x0BC, 31, 0⟩
/-! SCHED -/
def SCHED_SCHED_CFG : Field := ⟨0x040, 31, 0⟩
def SCHED_SCHED_CFG_GATE_EN : Field := ⟨0x040, 0, 0⟩
def SCHED_SCHED_CFG_GUARD_MODE : Field := ⟨0x040, 1, 1⟩
def SCHED_SCHED_CFG_GATE_BANK : Field := ⟨0x040, 2, 2⟩
def SCHED_GATE_STATE : Field := ⟨0x044, 31, 0⟩
def SCHED_GATE_STATE_OPEN : Field := ⟨0x044, 7, 0⟩
def SCHED_GATE_STATE_ENTRY : Field := ⟨0x044, 15, 8⟩
def SCHED_GATE_STATE_BANK : Field := ⟨0x044, 16, 16⟩
def SCHED_GATE_STATE_SWITCH_PENDING : Field := ⟨0x044, 17, 17⟩
def SCHED_QUEUED : Field := ⟨0x048, 31, 0⟩
def SCHED_SENT_KB : Field := ⟨0x04C, 31, 0⟩
/-! SCHT -/
def SCHT_TBL_INDEX : Field := ⟨0x040, 31, 0⟩
def SCHT_TBL_INDEX_INDEX : Field := ⟨0x040, 14, 0⟩
def SCHT_TBL_INDEX_TABLE : Field := ⟨0x040, 18, 16⟩
def SCHT_TBL_CTL : Field := ⟨0x044, 31, 0⟩
def SCHT_TBL_CTL_WRITE : Field := ⟨0x044, 0, 0⟩
def SCHT_TBL_CTL_READ : Field := ⟨0x044, 1, 1⟩
def SCHT_TBL_CTL_READ_ACTIVE : Field := ⟨0x044, 2, 2⟩
def SCHT_TBL_DATA (k : Nat) : Field := ⟨0x048 + 4 * k, 31, 0⟩
def SCHT_STAGE_STATE : Field := ⟨0x068, 31, 0⟩
def SCHT_BUF_USED : Field := ⟨0x06C, 31, 0⟩
def SCHT_BUF_PEAK : Field := ⟨0x070, 31, 0⟩
def SCHT_QUEUE_DROPS : Field := ⟨0x074, 31, 0⟩
def SCHT_OVERSIZE_DROPS : Field := ⟨0x078, 31, 0⟩
def SCHT_SCHED_CTL : Field := ⟨0x07C, 31, 0⟩
def SCHT_SCHED_CTL_PEAK_CLEAR : Field := ⟨0x07C, 0, 0⟩
/-! FPORT -/
def FPORT_FPORT_CFG : Field := ⟨0x040, 31, 0⟩
def FPORT_FPORT_CFG_QUAD : Field := ⟨0x040, 4, 0⟩
def FPORT_FPORT_CFG_WIDTH : Field := ⟨0x040, 6, 5⟩
def FPORT_FPORT_CFG_AUTO_REMAP : Field := ⟨0x040, 7, 7⟩
def FPORT_FPORT_STATE : Field := ⟨0x044, 31, 0⟩
def FPORT_FPORT_STATE_STATE : Field := ⟨0x044, 2, 0⟩
def FPORT_FPORT_STATE_REASON : Field := ⟨0x044, 6, 3⟩
def FPORT_FPORT_STATE_PEER_NODE : Field := ⟨0x044, 19, 8⟩
def FPORT_FPORT_STATE_PEER_PORT : Field := ⟨0x044, 23, 20⟩
def FPORT_PEER_SERIAL_LO : Field := ⟨0x048, 31, 0⟩
def FPORT_PEER_SERIAL_HI : Field := ⟨0x04C, 31, 0⟩
def FPORT_CREDITS_01 : Field := ⟨0x050, 31, 0⟩
def FPORT_CREDITS_23 : Field := ⟨0x054, 31, 0⟩
def FPORT_FRAMES_RX : Field := ⟨0x058, 31, 0⟩
def FPORT_FRAME_ERRORS : Field := ⟨0x05C, 31, 0⟩
def FPORT_FRAME_ERRORS_FCS : Field := ⟨0x05C, 15, 0⟩
/-! FAB -/
def FAB_FAB_CFG : Field := ⟨0x040, 31, 0⟩
def FAB_FAB_CFG_JOIN : Field := ⟨0x040, 0, 0⟩
def FAB_FAB_CFG_COORD_ELIGIBLE : Field := ⟨0x040, 1, 1⟩
def FAB_FAB_CFG_COORD_PRIORITY : Field := ⟨0x040, 23, 16⟩
def FAB_FAB_CFG_TIME_PRIORITY : Field := ⟨0x040, 31, 24⟩
def FAB_NODE_STATE : Field := ⟨0x044, 31, 0⟩
def FAB_NODE_STATE_NODE_ID : Field := ⟨0x044, 11, 0⟩
def FAB_NODE_STATE_COORD : Field := ⟨0x044, 15, 15⟩
def FAB_NODE_STATE_COORD_ID : Field := ⟨0x044, 27, 16⟩
def FAB_MEMBERS : Field := ⟨0x048, 31, 0⟩
def FAB_SERIAL_LO : Field := ⟨0x04C, 31, 0⟩
def FAB_SERIAL_HI : Field := ⟨0x050, 31, 0⟩
def FAB_OWN_EPOCH : Field := ⟨0x054, 31, 0⟩
def FAB_TIME_STATE : Field := ⟨0x058, 31, 0⟩
def FAB_TIME_STATE_FOLLOWING : Field := ⟨0x058, 12, 12⟩
def FAB_TIME_OFFSET : Field := ⟨0x05C, 31, 0⟩
def FAB_TIME_DELAY : Field := ⟨0x060, 31, 0⟩
def FAB_LAND_CTL : Field := ⟨0x064, 31, 0⟩
def FAB_LAND_CTL_LEAVE : Field := ⟨0x064, 0, 0⟩
def FAB_LAND_CTL_RELAND : Field := ⟨0x064, 1, 1⟩
def FAB_LAND_CTL_ACCEPT_OFFER : Field := ⟨0x064, 2, 2⟩
def FAB_ID_OFFER : Field := ⟨0x068, 31, 0⟩
def FAB_ID_OFFER_VALID : Field := ⟨0x068, 12, 12⟩
def FAB_TBL_INDEX : Field := ⟨0x06C, 31, 0⟩
def FAB_TBL_INDEX_INDEX : Field := ⟨0x06C, 11, 0⟩
def FAB_TBL_INDEX_TABLE : Field := ⟨0x06C, 14, 12⟩
def FAB_TBL_CTL : Field := ⟨0x070, 31, 0⟩
def FAB_TBL_CTL_WRITE : Field := ⟨0x070, 0, 0⟩
def FAB_TBL_CTL_READ : Field := ⟨0x070, 1, 1⟩
def FAB_TBL_DATA (k : Nat) : Field := ⟨0x074 + 4 * k, 31, 0⟩
def FAB_RRA_TARGET : Field := ⟨0x084, 31, 0⟩
def FAB_RRA_TARGET_NODE : Field := ⟨0x084, 11, 0⟩
def FAB_RRA_TARGET_WRITE : Field := ⟨0x084, 12, 12⟩
def FAB_RRA_ADDR : Field := ⟨0x088, 31, 0⟩
def FAB_RRA_ADDR_BAR0 : Field := ⟨0x088, 25, 0⟩
def FAB_RRA_WDATA : Field := ⟨0x08C, 31, 0⟩
def FAB_RRA_RDATA : Field := ⟨0x090, 31, 0⟩
def FAB_RRA_OP_CTL : Field := ⟨0x094, 31, 0⟩
def FAB_RRA_OP_CTL_START : Field := ⟨0x094, 0, 0⟩
def FAB_RRA_OP_CTL_ABORT : Field := ⟨0x094, 1, 1⟩
def FAB_RRA_OP_STATUS : Field := ⟨0x098, 31, 0⟩
def FAB_RRA_OP_STATUS_STATE : Field := ⟨0x098, 2, 0⟩
def FAB_RRA_OP_STATUS_PROGRESS : Field := ⟨0x098, 31, 8⟩
def FAB_RRA_RESULT : Field := ⟨0x09C, 31, 0⟩
def FAB_RRA_TIMEOUT : Field := ⟨0x0A0, 31, 0⟩
def FAB_FERRY_TX : Field := ⟨0x0A4, 31, 0⟩
def FAB_FWD_FRAMES : Field := ⟨0x0A8, 31, 0⟩
def FAB_REMOTE_EVT_LOST : Field := ⟨0x0AC, 31, 0⟩
def FAB_DROP_HOPS : Field := ⟨0x0B0, 31, 0⟩
def FAB_DROP_NOROUTE : Field := ⟨0x0B4, 31, 0⟩
def FAB_DROP_TYPE : Field := ⟨0x0B8, 31, 0⟩
def FAB_DROP_AUTH : Field := ⟨0x0BC, 31, 0⟩
/-! MATE -/
def MATE_MATE_CFG : Field := ⟨0x040, 31, 0⟩
def MATE_MATE_CFG_PORT_A : Field := ⟨0x040, 0, 0⟩
def MATE_MATE_CFG_PORT_B : Field := ⟨0x040, 1, 1⟩
def MATE_MATE_CFG_RATE5 : Field := ⟨0x040, 2, 2⟩
def MATE_MATE_CFG_AUTO_TAKEBACK : Field := ⟨0x040, 3, 3⟩
def MATE_MATE_CFG_AUTO_YIELD : Field := ⟨0x040, 4, 4⟩
def MATE_PAIR_ID : Field := ⟨0x044, 31, 0⟩
def MATE_MOOR_TIMEOUT : Field := ⟨0x048, 31, 0⟩
def MATE_REPLAY : Field := ⟨0x04C, 31, 0⟩
def MATE_QUAL_BEATS : Field := ⟨0x050, 31, 0⟩
def MATE_HOLDOFF_BASE : Field := ⟨0x054, 31, 0⟩
def MATE_SUSPEND_MAX : Field := ⟨0x058, 31, 0⟩
def MATE_MATE_CTL : Field := ⟨0x05C, 31, 0⟩
def MATE_MATE_CTL_HEALTH_SRC : Field := ⟨0x05C, 0, 0⟩
def MATE_MATE_CTL_HANDOVER : Field := ⟨0x05C, 8, 8⟩
def MATE_MATE_CTL_REQUALIFY : Field := ⟨0x05C, 9, 9⟩
def MATE_MATE_CTL_FORCE_CLAIM : Field := ⟨0x05C, 10, 10⟩
def MATE_HELM_STATE : Field := ⟨0x060, 31, 0⟩
def MATE_HELM_STATE_ROLE : Field := ⟨0x060, 2, 0⟩
def MATE_HELM_STATE_HELM_IN : Field := ⟨0x060, 4, 3⟩
def MATE_HELM_STATE_SENSE_FAULT : Field := ⟨0x060, 5, 5⟩
def MATE_HELM_STATE_HOME : Field := ⟨0x060, 6, 6⟩
def MATE_HELM_STATE_READY : Field := ⟨0x060, 7, 7⟩
def MATE_HELM_STATE_MOORING : Field := ⟨0x060, 8, 8⟩
def MATE_EPOCH : Field := ⟨0x064, 31, 0⟩
def MATE_MATE_EPOCH : Field := ⟨0x068, 31, 0⟩
def MATE_MATE_SERIAL_LO : Field := ⟨0x06C, 31, 0⟩
def MATE_MATE_SERIAL_HI : Field := ⟨0x070, 31, 0⟩
def MATE_QUAL_PROGRESS : Field := ⟨0x074, 31, 0⟩
def MATE_HOLDOFF_LEFT : Field := ⟨0x078, 31, 0⟩
def MATE_COMPARED : Field := ⟨0x07C, 31, 0⟩
def MATE_MISMATCHES : Field := ⟨0x080, 31, 0⟩
def MATE_DEPARTURES : Field := ⟨0x084, 31, 0⟩
def MATE_MISSING : Field := ⟨0x088, 31, 0⟩
def MATE_ARB_STATE : Field := ⟨0x08C, 31, 0⟩
def MATE_ARB_STATE_RUNNING : Field := ⟨0x08C, 0, 0⟩
def MATE_ARB_ENGINES : Field := ⟨0x090, 31, 0⟩
def MATE_TAKEOVERS : Field := ⟨0x094, 31, 0⟩
def MATE_LAST_TAKEOVER : Field := ⟨0x098, 31, 0⟩
def MATE_SUSPENDED : Field := ⟨0x09C, 31, 0⟩
def MATE_HEALTH (k : Nat) : Field := ⟨0x0A0 + 4 * k, 31, 0⟩
/-! AUD -/
def AUD_PORT_CFG : Field := ⟨0x040, 31, 0⟩
def AUD_PORT_CFG_SLOTS_M1 : Field := ⟨0x040, 4, 0⟩
def AUD_PORT_CFG_SLOT_WIDTH : Field := ⟨0x040, 10, 5⟩
def AUD_PORT_CFG_WORD : Field := ⟨0x040, 15, 11⟩
def AUD_PORT_CFG_OFFSET : Field := ⟨0x040, 21, 16⟩
def AUD_PORT_CFG_SDO_MODE : Field := ⟨0x040, 22, 22⟩
def AUD_PORT_CFG_FSYNC_POL : Field := ⟨0x040, 23, 23⟩
def AUD_PORT_CFG_FSYNC_LONG : Field := ⟨0x040, 24, 24⟩
def AUD_PORT_CFG_BCLK_INV : Field := ⟨0x040, 25, 25⟩
def AUD_CLOCK_CFG : Field := ⟨0x044, 31, 0⟩
def AUD_CLOCK_CFG_FRAME_BCLKS : Field := ⟨0x044, 10, 0⟩
def AUD_CLOCK_CFG_DIV_INT : Field := ⟨0x044, 23, 16⟩
def AUD_CLOCK_CFG_PLAYOUT : Field := ⟨0x044, 31, 24⟩
def AUD_DIV_FRAC : Field := ⟨0x048, 31, 0⟩
def AUD_TX_MASK : Field := ⟨0x04C, 31, 0⟩
def AUD_RX_MASK : Field := ⟨0x050, 31, 0⟩
def AUD_STREAM_CFG : Field := ⟨0x054, 31, 0⟩
def AUD_STREAM_CFG_SRC_STREAM : Field := ⟨0x054, 5, 0⟩
def AUD_STREAM_CFG_TX_EN : Field := ⟨0x054, 6, 6⟩
def AUD_STREAM_CFG_FIRST_CH : Field := ⟨0x054, 12, 7⟩
def AUD_STREAM_CFG_BLOCK : Field := ⟨0x054, 24, 16⟩
def AUD_RX_RING : Field := ⟨0x058, 31, 0⟩
def AUD_RX_RING_BASE : Field := ⟨0x058, 20, 0⟩
def AUD_RX_RING_ENTRIES_LOG2 : Field := ⟨0x058, 24, 21⟩
def AUD_RX_RING_RX_EN : Field := ⟨0x058, 31, 31⟩
def AUD_PORT_STATE : Field := ⟨0x05C, 31, 0⟩
def AUD_PORT_STATE_RX_WRITTEN : Field := ⟨0x05C, 15, 0⟩
def AUD_PORT_STATE_RUNNING : Field := ⟨0x05C, 16, 16⟩
def AUD_PORT_STATE_PLL_LOCK : Field := ⟨0x05C, 17, 17⟩
/-! CVU -/
def CVU_CVU_CFG : Field := ⟨0x040, 31, 0⟩
def CVU_CVU_CFG_MODE : Field := ⟨0x040, 0, 0⟩
def CVU_CVU_CFG_CLASS : Field := ⟨0x040, 1, 1⟩
def CVU_CVU_CFG_SYS_ALG : Field := ⟨0x040, 3, 2⟩
def CVU_CVU_CFG_WIDTH_M1 : Field := ⟨0x040, 9, 4⟩
def CVU_CVU_CFG_REFIN : Field := ⟨0x040, 10, 10⟩
def CVU_CVU_CFG_REFOUT : Field := ⟨0x040, 11, 11⟩
def CVU_CVU_CFG_RESUME : Field := ⟨0x040, 12, 12⟩
def CVU_CVU_CFG_COMPARE_EN : Field := ⟨0x040, 13, 13⟩
def CVU_CVU_CFG_CONTINUOUS : Field := ⟨0x040, 14, 14⟩
def CVU_CVU_CFG_STOP_ON_MISMATCH : Field := ⟨0x040, 15, 15⟩
def CVU_SNOOP_CFG : Field := ⟨0x044, 31, 0⟩
def CVU_SNOOP_CFG_INST : Field := ⟨0x044, 9, 0⟩
def CVU_SNOOP_CFG_KIND : Field := ⟨0x044, 12, 10⟩
def CVU_SNOOP_CFG_FRAMES : Field := ⟨0x044, 31, 16⟩
def CVU_VAL_SEL : Field := ⟨0x048, 31, 0⟩
def CVU_VAL_LO : Field := ⟨0x04C, 31, 0⟩
def CVU_VAL_HI : Field := ⟨0x050, 31, 0⟩
def CVU_OP_CTL : Field := ⟨0x054, 31, 0⟩
def CVU_OP_CTL_START : Field := ⟨0x054, 0, 0⟩
def CVU_OP_CTL_ABORT : Field := ⟨0x054, 1, 1⟩
def CVU_OP_STATUS : Field := ⟨0x058, 31, 0⟩
def CVU_OP_STATUS_STATE : Field := ⟨0x058, 2, 0⟩
def CVU_OP_STATUS_PROGRESS : Field := ⟨0x058, 31, 8⟩
def CVU_CVU_STATE : Field := ⟨0x05C, 31, 0⟩
def CVU_CVU_STATE_LAST_MATCH : Field := ⟨0x05C, 0, 0⟩
def CVU_CVU_STATE_LAST_MISMATCH : Field := ⟨0x05C, 1, 1⟩
def CVU_CVU_STATE_SEALED_FED : Field := ⟨0x05C, 2, 2⟩
def CVU_CVU_STATE_FAIL_CAUSE : Field := ⟨0x05C, 11, 8⟩
def CVU_RESULTS : Field := ⟨0x060, 31, 0⟩
def CVU_MISMATCHES : Field := ⟨0x064, 31, 0⟩
def CVU_LAST_FRAME : Field := ⟨0x068, 31, 0⟩
def CVU_COMPARES : Field := ⟨0x06C, 31, 0⟩
/-! SEC0 -/
def SEC0_SEC_STATE : Field := ⟨0x040, 31, 0⟩
def SEC0_SEC_STATE_ROOT_SET : Field := ⟨0x040, 0, 0⟩
def SEC0_SEC_STATE_ROOT_FAULT : Field := ⟨0x040, 1, 1⟩
def SEC0_SEC_STATE_FACTORY_CLOSED : Field := ⟨0x040, 2, 2⟩
def SEC0_SEC_STATE_CERT_VALID : Field := ⟨0x040, 3, 3⟩
def SEC0_SEC_STATE_POLICY_VALID : Field := ⟨0x040, 4, 4⟩
def SEC0_TOKEN_RESULT : Field := ⟨0x044, 31, 0⟩
def SEC0_ROOT_HASH (k : Nat) : Field := ⟨0x048 + 4 * k, 31, 0⟩
def SEC0_OWNER_SEQ_LO : Field := ⟨0x078, 31, 0⟩
def SEC0_OWNER_SEQ_HI : Field := ⟨0x07C, 31, 0⟩
def SEC0_SVN_MIN : Field := ⟨0x080, 31, 0⟩
def SEC0_SVN_MIN_SVN_MIN : Field := ⟨0x080, 6, 0⟩
def SEC0_MEAS_INDEX : Field := ⟨0x084, 31, 0⟩
def SEC0_MEAS_DATA (k : Nat) : Field := ⟨0x088 + 4 * k, 31, 0⟩
def SEC0_TOKENS_ACCEPTED : Field := ⟨0x0B8, 31, 0⟩
def SEC0_TOKENS_REFUSED : Field := ⟨0x0BC, 31, 0⟩
/-! SEC1 -/
def SEC1_KEY_INDEX : Field := ⟨0x040, 31, 0⟩
def SEC1_KEY_SRC_LO : Field := ⟨0x044, 31, 0⟩
def SEC1_KEY_SRC_HI : Field := ⟨0x048, 31, 0⟩
def SEC1_KEY_LEN : Field := ⟨0x04C, 31, 0⟩
def SEC1_KEY_OP_CTL : Field := ⟨0x050, 31, 0⟩
def SEC1_KEY_OP_CTL_START : Field := ⟨0x050, 0, 0⟩
def SEC1_KEY_OP_CTL_ABORT : Field := ⟨0x050, 1, 1⟩
def SEC1_KEY_OP_STATUS : Field := ⟨0x054, 31, 0⟩
def SEC1_KEY_OP_STATUS_STATE : Field := ⟨0x054, 2, 0⟩
def SEC1_KEY_OP_STATUS_PROGRESS : Field := ⟨0x054, 31, 8⟩
def SEC1_KEY_INFO : Field := ⟨0x058, 31, 0⟩
def SEC1_KEY_INFO_TYPE : Field := ⟨0x058, 1, 0⟩
def SEC1_KEY_INFO_VALID : Field := ⟨0x058, 8, 8⟩
def SEC1_KEY_INFO_IN_USE : Field := ⟨0x058, 9, 9⟩
def SEC1_KEY_FAIL : Field := ⟨0x05C, 31, 0⟩
def SEC1_KEY_CTL : Field := ⟨0x060, 31, 0⟩
def SEC1_KEY_CTL_CLEAR : Field := ⟨0x060, 0, 0⟩
def SEC1_SLOTS_VALID : Field := ⟨0x064, 31, 0⟩
def SEC1_SLOT_VALID (k : Nat) : Field := ⟨0x068 + 4 * k, 31, 0⟩
def SEC1_SLOT_INUSE (k : Nat) : Field := ⟨0x088 + 4 * k, 31, 0⟩
def SEC1_LOADS_TOTAL : Field := ⟨0x0A8, 31, 0⟩
def SEC1_LOAD_FAILS : Field := ⟨0x0AC, 31, 0⟩
def SEC1_CLEARS_TOTAL : Field := ⟨0x0B0, 31, 0⟩
def SEC1_UNWRAP_FAILS : Field := ⟨0x0B4, 31, 0⟩
def SEC1_LAST_LOAD_FRAME : Field := ⟨0x0B8, 31, 0⟩
def SEC1_LAST_LOAD_SLOT : Field := ⟨0x0BC, 31, 0⟩
/-! SEC2 -/
def SEC2_SEAL_INDEX : Field := ⟨0x040, 31, 0⟩
def SEC2_SEAL_BASE : Field := ⟨0x044, 31, 0⟩
def SEC2_SEAL_SIZE : Field := ⟨0x048, 31, 0⟩
def SEC2_SEAL_FLAGS : Field := ⟨0x04C, 31, 0⟩
def SEC2_SEAL_FLAGS_VALID : Field := ⟨0x04C, 0, 0⟩
def SEC2_SEAL_FLAGS_CLEAR_OK : Field := ⟨0x04C, 1, 1⟩
def SEC2_RANGES : Field := ⟨0x050, 31, 0⟩
def SEC2_SEALED_SIZE : Field := ⟨0x054, 31, 0⟩
def SEC2_SEALED_READS : Field := ⟨0x058, 31, 0⟩
def SEC2_SEALED_BLOCKED : Field := ⟨0x05C, 31, 0⟩
def SEC2_SEALED_RASTERS : Field := ⟨0x060, 31, 0⟩
def SEC2_SEALED_LAYERS (k : Nat) : Field := ⟨0x064 + 4 * k, 31, 0⟩
def SEC2_SEALED_WORK (k : Nat) : Field := ⟨0x074 + 4 * k, 31, 0⟩
def SEC2_SEALED_INGEST (k : Nat) : Field := ⟨0x084 + 4 * k, 31, 0⟩
def SEC2_SEALED_DEC (k : Nat) : Field := ⟨0x08C + 4 * k, 31, 0⟩
def SEC2_POLICY_FLAGS : Field := ⟨0x094, 31, 0⟩
def SEC2_SESSION_MAX : Field := ⟨0x098, 31, 0⟩
def SEC2_SVC_KEY_ID (k : Nat) : Field := ⟨0x09C + 4 * k, 31, 0⟩
def SEC2_POLICY_FRAME : Field := ⟨0x0BC, 31, 0⟩
/-! SEC3 -/
def SEC3_DBG_STATE : Field := ⟨0x040, 31, 0⟩
def SEC3_DBG_STATE_DEBUG_DISABLED : Field := ⟨0x040, 2, 2⟩
def SEC3_DBG_STATE_PW_LOCKED : Field := ⟨0x040, 3, 3⟩
def SEC3_DBG_STATE_CHAL_VALID : Field := ⟨0x040, 9, 9⟩
def SEC3_DBG_CTL : Field := ⟨0x044, 31, 0⟩
def SEC3_DBG_CTL_CHALLENGE : Field := ⟨0x044, 0, 0⟩
def SEC3_DBG_CTL_CLOSE : Field := ⟨0x044, 1, 1⟩
def SEC3_CHAL (k : Nat) : Field := ⟨0x048 + 4 * k, 31, 0⟩
def SEC3_RESP_SRC_LO : Field := ⟨0x078, 31, 0⟩
def SEC3_RESP_SRC_HI : Field := ⟨0x07C, 31, 0⟩
def SEC3_RESP_OP_CTL : Field := ⟨0x080, 31, 0⟩
def SEC3_RESP_OP_CTL_START : Field := ⟨0x080, 0, 0⟩
def SEC3_RESP_OP_CTL_ABORT : Field := ⟨0x080, 1, 1⟩
def SEC3_RESP_OP_STATUS : Field := ⟨0x084, 31, 0⟩
def SEC3_RESP_OP_STATUS_STATE : Field := ⟨0x084, 2, 0⟩
def SEC3_RESP_OP_STATUS_PROGRESS : Field := ⟨0x084, 31, 8⟩
def SEC3_RESP_RESULT : Field := ⟨0x088, 31, 0⟩
def SEC3_PW_SRC_LO : Field := ⟨0x08C, 31, 0⟩
def SEC3_PW_SRC_HI : Field := ⟨0x090, 31, 0⟩
def SEC3_PW_LEN : Field := ⟨0x094, 31, 0⟩
def SEC3_PW_OP_CTL : Field := ⟨0x098, 31, 0⟩
def SEC3_PW_OP_CTL_START : Field := ⟨0x098, 0, 0⟩
def SEC3_PW_OP_CTL_ABORT : Field := ⟨0x098, 1, 1⟩
def SEC3_PW_OP_STATUS : Field := ⟨0x09C, 31, 0⟩
def SEC3_PW_OP_STATUS_STATE : Field := ⟨0x09C, 2, 0⟩
def SEC3_PW_OP_STATUS_PROGRESS : Field := ⟨0x09C, 31, 8⟩
def SEC3_PW_RESULT : Field := ⟨0x0A0, 31, 0⟩
def SEC3_PW_DELAY_LEFT : Field := ⟨0x0A4, 31, 0⟩
def SEC3_SESSION_LEFT : Field := ⟨0x0A8, 31, 0⟩
def SEC3_SESSION_KEY_LO : Field := ⟨0x0AC, 31, 0⟩
def SEC3_SESSION_KEY_HI : Field := ⟨0x0B0, 31, 0⟩
def SEC3_SESSIONS_TOTAL : Field := ⟨0x0B4, 31, 0⟩
def SEC3_UNLOCK_FAILS : Field := ⟨0x0B8, 31, 0⟩
def SEC3_CHAL_AGE : Field := ⟨0x0BC, 31, 0⟩
/-! DOM -/
def DOM_DOM_CFG (d : Nat) : Field := ⟨0x040 + 0x18 * d, 31, 0⟩
def DOM_DOM_CFG_DEEPEST (d : Nat) : Field := ⟨0x040 + 0x18 * d, 1, 0⟩
def DOM_DOM_STATE (d : Nat) : Field := ⟨0x044 + 0x18 * d, 31, 0⟩
def DOM_DOM_STATE_STATE (d : Nat) : Field := ⟨0x044 + 0x18 * d, 1, 0⟩
def DOM_DOM_STATE_TRANSIT (d : Nat) : Field := ⟨0x044 + 0x18 * d, 4, 4⟩
def DOM_DOM_STATE_PARKED (d : Nat) : Field := ⟨0x044 + 0x18 * d, 5, 5⟩
def DOM_DOM_HORIZON (d : Nat) : Field := ⟨0x048 + 0x18 * d, 31, 0⟩
def DOM_RES_GATE (d : Nat) : Field := ⟨0x04C + 0x18 * d, 31, 0⟩
def DOM_RES_NAP (d : Nat) : Field := ⟨0x050 + 0x18 * d, 31, 0⟩
def DOM_RES_DARK (d : Nat) : Field := ⟨0x054 + 0x18 * d, 31, 0⟩
/-! PWR -/
def PWR_DEV_STATE : Field := ⟨0x040, 31, 0⟩
def PWR_DEV_CTL : Field := ⟨0x044, 31, 0⟩
def PWR_DEV_CTL_REQ_DIM : Field := ⟨0x044, 0, 0⟩
def PWR_DEV_CTL_REQ_ACTIVE : Field := ⟨0x044, 1, 1⟩
def PWR_DEV_CTL_REQ_DORMANT : Field := ⟨0x044, 2, 2⟩
def PWR_GOV_CFG : Field := ⟨0x048, 31, 0⟩
def PWR_GOV_CFG_GUARD_NS : Field := ⟨0x048, 15, 0⟩
def PWR_GOV_CFG_GOV_EN : Field := ⟨0x048, 16, 16⟩
def PWR_SUPPLY_STATE : Field := ⟨0x04C, 31, 0⟩
def PWR_SUPPLY_STATE_MAIN_OK : Field := ⟨0x04C, 0, 0⟩
def PWR_SUPPLY_STATE_AUX_OK : Field := ⟨0x04C, 1, 1⟩
def PWR_SUPPLY_STATE_MAIN_LOW : Field := ⟨0x04C, 2, 2⟩
def PWR_SUPPLY_STATE_AUX_LOW : Field := ⟨0x04C, 3, 3⟩
def PWR_VIN_MAIN_MV : Field := ⟨0x050, 31, 0⟩
def PWR_VIN_MAIN_MV_VIN_MAIN : Field := ⟨0x050, 15, 0⟩
def PWR_VIN_AUX_MV : Field := ⟨0x054, 31, 0⟩
def PWR_VIN_AUX_MV_VIN_AUX : Field := ⟨0x054, 15, 0⟩
def PWR_INPUT_MW : Field := ⟨0x058, 31, 0⟩
def PWR_JUNCTION_MAX : Field := ⟨0x05C, 31, 0⟩
def PWR_THERM_CFG : Field := ⟨0x060, 31, 0⟩
def PWR_THERM_CFG_THERM_WARN : Field := ⟨0x060, 15, 0⟩
def PWR_WAKE_CFG : Field := ⟨0x064, 31, 0⟩
def PWR_WAKE_CFG_WAKE_PIN : Field := ⟨0x064, 0, 0⟩
def PWR_WAKE_CFG_SMBUS : Field := ⟨0x064, 1, 1⟩
def PWR_WAKE_CFG_LANE_SIGNAL : Field := ⟨0x064, 2, 2⟩
def PWR_WAKE_CFG_WAKE_LANE : Field := ⟨0x064, 9, 3⟩
def PWR_WAKE_CAUSE : Field := ⟨0x068, 31, 0⟩
def PWR_STATE_CHANGES : Field := ⟨0x06C, 31, 0⟩
def PWR_GOV_LATE_COUNT : Field := ⟨0x070, 31, 0⟩
def PWR_GOV_DECISIONS : Field := ⟨0x074, 31, 0⟩
def PWR_DOM_POWER (k : Nat) : Field := ⟨0x078 + 4 * k, 31, 0⟩
def PWR_ENERGY_LO : Field := ⟨0x0A8, 31, 0⟩
def PWR_ENERGY_HI : Field := ⟨0x0AC, 31, 0⟩
def PWR_PEAK_MW : Field := ⟨0x0B0, 31, 0⟩
def PWR_DIM_ENTER_FRAME : Field := ⟨0x0B4, 31, 0⟩
def PWR_DIM_EXIT_FRAME : Field := ⟨0x0B8, 31, 0⟩
def PWR_PWR_CTL : Field := ⟨0x0BC, 31, 0⟩
def PWR_PWR_CTL_PEAK_CLEAR : Field := ⟨0x0BC, 0, 0⟩
/-! CLK -/
def CLK_CLK_STATE : Field := ⟨0x040, 31, 0⟩
def CLK_CLK_STATE_REFCLK_156 : Field := ⟨0x040, 0, 0⟩
def CLK_CLK_STATE_REFCLK_100 : Field := ⟨0x040, 1, 1⟩
def CLK_CLK_STATE_SYS_XO : Field := ⟨0x040, 2, 2⟩
def CLK_CLK_STATE_AUDIO_PLL_LOCK : Field := ⟨0x040, 3, 3⟩
def CLK_ISLAND_LOCK_LO : Field := ⟨0x044, 31, 0⟩
def CLK_ISLAND_LOCK_HI : Field := ⟨0x048, 31, 0⟩
def CLK_LOCK_EVENTS : Field := ⟨0x04C, 31, 0⟩
def CLK_REFCLK_156_PPM : Field := ⟨0x050, 31, 0⟩
def CLK_REFCLK_100_PPM : Field := ⟨0x054, 31, 0⟩
def CLK_SYS_XO_PPM : Field := ⟨0x058, 31, 0⟩
def CLK_AUDIO_PLL_PPM : Field := ⟨0x05C, 31, 0⟩
def CLK_ISLAND_FREQ (k : Nat) : Field := ⟨0x060 + 4 * k, 31, 0⟩
def CLK_ISLAND_GATED_LO : Field := ⟨0x0B4, 31, 0⟩
def CLK_ISLAND_GATED_HI : Field := ⟨0x0B8, 31, 0⟩
def CLK_CLK_CTL : Field := ⟨0x0BC, 31, 0⟩
def CLK_CLK_CTL_LOCK_EVENTS_CLEAR : Field := ⟨0x0BC, 0, 0⟩
/-! MBX -/
def MBX_REQ (k : Nat) : Field := ⟨0x040 + 4 * k, 31, 0⟩
def MBX_RSP (k : Nat) : Field := ⟨0x080 + 4 * k, 31, 0⟩
def MBX_CMD_CODE : Field := ⟨0x0C0, 31, 0⟩
def MBX_CMD_OP_CTL : Field := ⟨0x0C4, 31, 0⟩
def MBX_CMD_OP_CTL_START : Field := ⟨0x0C4, 0, 0⟩
def MBX_CMD_OP_CTL_ABORT : Field := ⟨0x0C4, 1, 1⟩
def MBX_CMD_OP_STATUS : Field := ⟨0x0C8, 31, 0⟩
def MBX_CMD_OP_STATUS_STATE : Field := ⟨0x0C8, 2, 0⟩
def MBX_CMD_OP_STATUS_PROGRESS : Field := ⟨0x0C8, 31, 8⟩
def MBX_CMD_RESULT : Field := ⟨0x0CC, 31, 0⟩
def MBX_CMD_RESULT_UNKNOWN : Field := ⟨0x0CC, 16, 16⟩
def MBX_FW_VERSION : Field := ⟨0x0D0, 31, 0⟩
def MBX_FW_SVN : Field := ⟨0x0D4, 31, 0⟩
def MBX_FW_HEARTBEAT : Field := ⟨0x0D8, 31, 0⟩
def MBX_CMDS_TOTAL : Field := ⟨0x0DC, 31, 0⟩
def MBX_CMDS_ABORTED : Field := ⟨0x0E0, 31, 0⟩
def MBX_BOOT_STATE : Field := ⟨0x0E4, 31, 0⟩
def MBX_BOOT_STATE_FALLBACK : Field := ⟨0x0E4, 1, 1⟩
def MBX_BOOT_STATE_RECOVERY : Field := ⟨0x0E4, 2, 2⟩
def MBX_BOOT_STATE_TEST_ZEROED : Field := ⟨0x0E4, 3, 3⟩
def MBX_SWITCH_SEQ : Field := ⟨0x0E8, 31, 0⟩
def MBX_IMG_STATE : Field := ⟨0x0EC, 31, 0⟩
def MBX_IMG_STATE_STAGED : Field := ⟨0x0EC, 0, 0⟩
def MBX_IMG_STATE_WRITTEN : Field := ⟨0x0EC, 1, 1⟩
def MBX_IMG_STATE_VERIFIED : Field := ⟨0x0EC, 2, 2⟩
def MBX_REPAIR_STATE : Field := ⟨0x0F0, 31, 0⟩
def MBX_MCODE_STATE : Field := ⟨0x0F4, 31, 0⟩
def MBX_RETENTION_FRAME : Field := ⟨0x0F8, 31, 0⟩
def MBX_BOOT_TIME_MS : Field := ⟨0x0FC, 31, 0⟩

end Reg

end Sys2Proof.Machine
end

