-- ==== Sys2Proof/Machine/Operands.lean ====
section
/-!
DEFINITION. The operand forms every meaning shares: sparse tables, bit fields of a register, the pages of BAR0 and
their registers, and the arithmetic of beats and SYSTIME (R24).
-/

namespace Sys2Proof.Machine

/-! Sparse tables: a list of (key, value) pairs with strictly rising keys that lists no key holding its default. -/

/-- The value at key `k`, `d` where none is listed. -/
def tget {α : Type} (d : α) : List (Nat × α) → Nat → α
  | [], _ => d
  | (k', v) :: t, k => if k' = k then v else tget d t k

/-- The listed value at key `k`. -/
def tfind {α : Type} : List (Nat × α) → Nat → Option α
  | [], _ => none
  | (k', v) :: t, k => if k' = k then some v else tfind t k

/-- Insert or replace the pair of key `k`, keys rising. -/
def tins {α : Type} (k : Nat) (v : α) : List (Nat × α) → List (Nat × α)
  | [] => [(k, v)]
  | (k', v') :: t =>
    if k < k' then (k, v) :: (k', v') :: t
    else if k = k' then (k, v) :: t
    else (k', v') :: tins k v t

/-- Remove the pair of key `k`. -/
def tdel {α : Type} (k : Nat) : List (Nat × α) → List (Nat × α)
  | [] => []
  | (k', v') :: t => if k = k' then tdel k t else (k', v') :: tdel k t

/-- Write `v` at key `k` of a table whose default there is `d`, keeping the canonical form. -/
def tput {α : Type} [DecidableEq α] (d : α) (t : List (Nat × α)) (k : Nat) (v : α) : List (Nat × α) :=
  if v = d then tdel k t else tins k v t

/-- Insert into a rising list of numbers without repeats. -/
def sins (k : Nat) : List Nat → List Nat
  | [] => [k]
  | x :: t => if k < x then k :: x :: t else if k = x then x :: t else x :: sins k t

/-- Remove a number from a list. -/
def sdel (k : Nat) (l : List Nat) : List Nat := l.filter (· ≠ k)

/-- Put a number in or out of a set. -/
def sset (k : Nat) (b : Bool) (l : List Nat) : List Nat := if b then sins k l else sdel k l

/-! Bit fields (R9). -/

/-- Bits `[hi:lo]` of a number. -/
def bits (w hi lo : Nat) : Nat := (w >>> lo) % 2 ^ (hi + 1 - lo)

/-- Bit `i` of a number. -/
def bit (w i : Nat) : Bool := w.testBit i

/-- 1 for true. -/
def b2n (b : Bool) : Nat := if b then 1 else 0

/-- The field `[hi:lo]` of a register. -/
def fget (w : Word) (hi lo : Nat) : Nat := bits w.toNat hi lo

/-- The register with its field `[hi:lo]` replaced by the low bits of `v`. -/
def fset (w : Word) (hi lo v : Nat) : Word :=
  BitVec.ofNat 32 (w.toNat - (fget w hi lo <<< lo) + ((v % 2 ^ (hi + 1 - lo)) <<< lo))

/-- The number whose bits are those of `w` outside `mask` and those of `v` inside it. -/
def mergeBits (w v mask : Nat) : Nat := (w &&& (0xFFFFFFFF ^^^ mask)) ||| (v &&& mask)

/-- A number of `n` bits read as two's complement. -/
def sgn (n v : Nat) : Int := if v % 2 ^ n < 2 ^ (n - 1) then (v % 2 ^ n : Nat) else (v % 2 ^ n : Nat) - (2 ^ n : Nat)

/-- An integer as `n` bits of two's complement. -/
def twos (n : Nat) (i : Int) : Nat := (i % (2 ^ n : Nat)).toNat

/-- Clamp an integer to `[lo, hi]`. -/
def clampI (lo hi i : Int) : Int := max lo (min hi i)

/-- Clamp a number to `[lo, hi]`. -/
def clampN (lo hi n : Nat) : Nat := max lo (min hi n)

/-- The integer rounded down and clamped to 32-bit two's complement ("saturating", R255 and others). -/
def sat32 (i : Int) : Nat := twos 32 (clampI (-2147483648) 2147483647 i)

/-- Ceiling division. -/
def cdiv (a b : Nat) : Nat := (a + b - 1) / b

/-- Bytes of a number, least significant first. -/
def leBytes : Nat → Nat → List (BitVec 8)
  | 0, _ => []
  | n + 1, v => BitVec.ofNat 8 v :: leBytes n (v / 256)

/-- The number whose bytes, least significant first, are given. -/
def leNat : List (BitVec 8) → Nat
  | [] => 0
  | b :: t => b.toNat + 256 * leNat t

/-- Bytes of a number, most significant first. -/
def beBytes (n v : Nat) : List (BitVec 8) := (leBytes n v).reverse

/-- The number whose bytes, most significant first, are given. -/
def beNat (l : List (BitVec 8)) : Nat := leNat l.reverse

/-- Indices of the true elements of a list. -/
def trueIdx (l : List Bool) : List Nat := (List.range l.length).filter fun i => l.getD i false

/-! Pages (R34). -/

/-- The row of R34 of a page type. -/
def pageInfo (t : PageType) : PageInfo :=
  (pageTable.find? (fun r => r.ty = t)).getD ⟨t, 0, 128, 0x80000000, 31⟩

/-- Where the registers of a page are kept: its BAR0 offset; the entries of R184 lie above every BAR0 offset. -/
def pageBase (p : Page) : Nat := (pageInfo p.ty).first + p.inst * 0x1000

/-- The page that holds a BAR0 offset, if one does. -/
def pageAt (a : Nat) : Option Page :=
  match pageTable.find? (fun r => r.first ≤ a ∧ a < r.first + r.count * 0x1000) with
  | some r => some ⟨r.ty, (a - r.first) / 0x1000⟩
  | none => none

/-- The page that a register's address belongs to, rate-control entries included. -/
def ownerPage (a : Nat) : Option Page :=
  if 0x80000000 ≤ a then some ⟨.rcEntry, (a - 0x80000000) / 0x1000⟩ else pageAt a

/-- Every page of BAR0, ascending (R76). -/
def allPages : List Page := pageTable.flatMap fun r => (List.range r.count).map fun i => ⟨r.ty, i⟩

/-- The page types that are buffered, that is, hold an RW block field or a staged buffer (R526). -/
def buffered : PageType → Bool
  | .sec | .pwr | .pwrDom | .clk | .evt | .mbx | .lease | .tsk | .tileMap | .netGlobal | .fab | .cvu => false
  | _ => true

/-- The page types that hold an index register of a table port (R526). -/
def tablePort : PageType → Bool
  | .sec | .lease | .compScaler | .stillPool | .colour | .tsk | .encRc | .tileMap | .cal | .tile | .netGlobal
  | .schedTable | .fab | .cvu => true
  | _ => false

/-- The page types that hold an abortable operation with an OP_CTL register (R49). -/
def abortable : PageType → Bool
  | .sys | .sec | .mbx | .cal | .fab | .cvu => true
  | _ => false

/-- The descriptor of the register at offset `off` of a page. -/
def regDesc (p : Page) (off : Nat) : Option RegDesc :=
  (if p.ty = .rcEntry then blockRegs p else headerRegs (buffered p.ty) ++ blockRegs p).find?
    fun d => d.off ≤ off ∧ off < d.off + 4 * d.count

/-- The reset value of the register kept at address `a`. -/
def resetOf (a : Nat) : Word :=
  match ownerPage a with
  | some p =>
    match regDesc p (a % 0x1000) with
    | some d => BitVec.ofNat 32 d.reset
    | none => 0
  | none => 0

/-! Beats (R24). SYSTIME is a number in units of 2^-16 ns. -/

/-- Numerator and denominator of a beat rate code (R24); 0 for a reserved code. -/
def rateND (code : Nat) : Nat × Nat :=
  match code with
  | 0 => (24000, 1001) | 1 => (24, 1) | 2 => (25, 1) | 3 => (30000, 1001) | 4 => (30, 1) | 5 => (48000, 1001)
  | 6 => (48, 1) | 7 => (50, 1) | 8 => (60000, 1001) | 9 => (60, 1) | 10 => (100, 1) | 11 => (120000, 1001)
  | 12 => (120, 1) | 13 => (240, 1) | _ => (0, 0)

/-- B(n) = floor(n × D × 10⁹ × 2¹⁶ / N) at the beat rate of `code` (R24). -/
def beatStart (code n : Nat) : Nat :=
  let nd := rateND code
  n * nd.2 * 1000000000 * 65536 / nd.1

/-- The largest n with B(n) ≤ t (R24). B(n) ≤ t holds exactly while n × D × 10⁹ × 2¹⁶ < (t + 1) × N. -/
def beatAt (code t : Nat) : Nat :=
  let nd := rateND code
  if nd.1 = 0 then 0 else ((t + 1) * nd.1 - 1) / (nd.2 * 1000000000 * 65536)

/-- Units of SYSTIME in `x` ns. -/
def ns (x : Nat) : Nat := x * 65536

/-- Units of SYSTIME in `x` µs. -/
def us (x : Nat) : Nat := x * 65536000

/-- Units of SYSTIME in `x` ms. -/
def ms (x : Nat) : Nat := x * 65536000000

/-- The occurrence page of a role of R6, as its bit in ROLE_RIGHTS (R42). -/
inductive Role where
  | factory | owner | operator | service | peer
  deriving DecidableEq, Repr

/-- The role's bit in ROLE_RIGHTS.READ. -/
def roleBit : Role → Nat
  | .factory => 0 | .owner => 1 | .operator => 2 | .service => 3 | .peer => 4

end Sys2Proof.Machine
end

