-- ==== Sys2Proof/Machine/State.lean ====
section
/-!
DEFINITION. The state of Azloth: everything the spec gives the block, as plain data, and the queue of the commands that
wait. Software-visible registers live in the three sparse register stores; the rest is what no register shows.
-/

namespace Sys2Proof.Machine

/-- Why a command stops the block. No rule of the spec stops the block: an access that cannot be served is answered,
dropped and recorded (R43-R45), and an operation that cannot run ends FAILED (R49). So no constructor is needed, and
none raises one. -/
inductive Fault where
  deriving DecidableEq, Repr

/-- Why a command has no meaning in this model. -/
inductive Refusal where
  /-- Raised by an arm of `exec` for a command whose meaning is not written yet. Safe: the run ends there. -/
  | notModelled (mnemonic : String)
  deriving DecidableEq, Repr

/-- The occurrence queue of a page (R46, R47): queued records oldest first, OCC_LOST and OCC_TOTAL. -/
structure OccQueue where
  recs : List (BitVec 64) := []
  lost : Nat := 0
  total : Nat := 0
  deriving DecidableEq, Repr

/-- The last result of a commit group (R42, R59, R61): LAST_RESULT, the FRAME_NO at which it was decided, and, where it
is REJECTED, the reason of each page that failed (page base, code); other pages of the arm show PARTNER_REJECTED. -/
structure GroupInfo where
  result : Nat := 0
  frame : Nat := 0
  reasons : List (Nat × Nat) := []
  deriving DecidableEq, Repr

/-- One capture of the time registers (R28). -/
structure Capture where
  path : Path
  frame : Nat
  sys : Nat
  src : Word
  deriving DecidableEq, Repr

/-- Event delivery (R50-R54): disarmed vectors, unmasked vectors of the MSI-X table and its other words, the due
levels of the fabric event channel, and what the channel last saw. -/
structure EvtState where
  disarmed : List Nat := []
  unmasked : List Nat := []
  msix : List (Nat × Word) := []
  fabDue : List (Nat × Bool) := []
  fabSeen : List (Nat × Bool) := []
  fabOn : Bool := false
  fabDest : Nat := 0
  fabLost : Nat := 0
  deriving DecidableEq, Repr

/-- Time (R24-R28): SYSTIME in units of 2^-16 ns, FRAME_NO, the beat rate in force, an accepted change of rate that
waits for its boundary (code, targeted FRAME_NO of the old rate), the captures, oldest
read first, how often SYSTIME was stepped, and SYSTIME at the latest capture since then. -/
structure TimeState where
  sys : Nat := 0
  frame : Nat := 0
  rate : Nat := 9
  rateNext : Option (Nat × Nat) := none
  captures : List Capture := []
  steps : Nat := 0
  read : Nat := 0
  deriving DecidableEq, Repr

/-- The target of an arm (R55). -/
inductive Target where
  | now
  | raster (r : Nat)
  | epoch (f : Nat)
  deriving DecidableEq, Repr

/-- One arm (R58): its groups, target, timestamp, the staged values (sparse, unlisted registers staged at their reset
value), the pages that joined one of its groups after it (R42), staged calibration cells and scheduler table entries, the network
tables as they stand at the arm (R348), whether
validation has accepted it, whether it is LATE, the frame of its raster whose latch it waits for, and the transaction of the fabric
commit that the coordinator sent it for. -/
structure Arm where
  groups : Nat
  target : Target
  stamp : Nat
  staged : List (Nat × Word)
  moved : List Nat := []
  cells : List (Nat × List Nat)
  entries : List (Nat × List Nat)
  flows : List (Nat × List Nat) := []
  accepted : Bool
  late : Bool
  due : Nat := 0
  remote : Option Nat
  deriving DecidableEq, Repr

/-- A fabric commit on this device (R69): transaction, STATE as FAB_COMMIT_STATE codes it, target, mask, the coordinator, on the
coordinator the members that have not voted and those that have not acknowledged, and the decision held (COMMIT?, reason, first NO
voter, epoch carried). -/
structure FabTxn where
  txn : Nat
  st : Nat
  target : Nat
  mask : Nat
  coordinator : Nat
  unvoted : List Nat
  unacked : List Nat
  decision : Option (Bool × Nat × Option Nat × Nat)
  deriving DecidableEq, Repr

/-- A running snapshot (R74-R76): capture beat, started by which role bit, base sampled at START, the pages captured
once the capture instant has come, and the pages already written. -/
structure SnapOp where
  beat : Nat
  role : Nat
  base : Nat
  captured : Option (List (Nat × Word) × List Byte)
  deriving DecidableEq, Repr

/-- Commits (03_frame_commits.md): the arms in progress, oldest first, the groups' last results, the fabric commits, the latest first, the fence,
and the beat from whose frames the outputs resume after the fence has cleared (R73). -/
structure CommitState where
  arms : List Arm := []
  groups : List (Nat × GroupInfo) := []
  txns : List FabTxn := []
  nextTxn : Nat := 0
  fenced : Bool := false
  resume : Option Nat := none
  snap : Option SnapOp := none
  deriving DecidableEq, Repr

/-- The reference (R255-R258): SYSTIME of the last edge and of the last accepted edge, the last intervals between edges (at most 8,
oldest first) and those of them since a rate change was last detected, consecutive accepted edges within 100 ns of their boundaries, the
tracked period P, the steering of SYSTIME's rate in units of 0.001 ppm, whether acquisition has taken its one step, and whether REF_CFG
changed while another member's SYSTIME was followed. -/
structure RefState where
  lastEdge : Option Nat := none
  lastAccepted : Option Nat := none
  intervals : List Nat := []
  run : List Nat := []
  inLock : Nat := 0
  period : Nat := 0
  steer : Int := 0
  stepped : Bool := false
  changed : Bool := false
  deriving DecidableEq, Repr

/-- One entry of the lease table (R85, R96): base and size in 64 KiB units, owner (0 host, 1 ingest, 2 decode), stream
number, RETIRED, being filled, the frame leases (raster, frame), the check-value units that hold a scan lease, and the
newest frame that leased it. -/
structure LeaseEntry where
  base : Nat
  size : Nat
  owner : Nat
  stream : Nat
  retired : Bool := false
  filling : Bool := false
  frames : List (Nat × Nat) := []
  scans : List Nat := []
  last : Nat := 0
  deriving DecidableEq, Repr

/-- A ring of surfaces (R84, R92): slot 0's base and the slot size in bytes, the number of slots, the publication order
of the frame each slot holds (unlisted: none), the next order number, the newest published slot, and the slot being
filled. -/
structure Ring where
  base : Nat := 0
  slotBytes : Nat := 0
  slots : Nat := 0
  order : List (Nat × Nat) := []
  nextOrder : Nat := 1
  newest : Option Nat := none
  fill : Option Nat := none
  deriving DecidableEq, Repr

/-- What an INGEST stream keeps beside its page (R81, R82, R91-R95): its ring, the timestamp of the fill, the latest
timestamp that started a fill since the ring started, whether the fill's packets are dropped (R92 step 3), the pixel
runs received (line, first pixel, pixels), whether the marker has come, the newest accepted sequence number and the
accepted ones of the window, the rotation position of an AUDIO or ANC ring with the bytes of the ANC entry, the audio samples
not yet in a record, the 48-sample block of the first record and of the next one with the record sequence number, the bytes of
ANC entries completed and not yet sent on, FORMAT as it stood at each slot's fill (R93), STREAM_CFG and FLOWS as they stood at the
start of the fill in progress, the fills started, the complete lines of abandoned fills that a frame being composed follows (by number of the fill),
the NAL units that a COMPRESSED stream passes on (R94), with the one of which fragments have come. -/
structure IngestStream where
  ring : Ring := {}
  fillTs : Option Nat := none
  lastTs : Option Nat := none
  dropping : Bool := false
  runs : List (Nat × Nat × Nat) := []
  marker : Bool := false
  seqNewest : Option Nat := none
  seqSeen : List Nat := []
  rotation : Nat := 0
  ancBytes : Nat := 0
  samples : List (Nat × List Nat) := []
  audioFirst : Nat := 0
  audioNext : Option Nat := none
  audioSeq : Nat := 0
  ancOut : List Nat := []
  formats : List (Nat × Nat) := []
  begunAs : Nat × Nat := (0, 0)
  fills : Nat := 0
  abandoned : List (Nat × Nat) := []
  coded : List DecNal := []
  fragment : Option DecNal := none
  deriving DecidableEq, Repr

/-- A surface as a layer reads it (R83, R84, R91): host pool offset, size in 64 KiB units, format, picture size, and the
order number of the publication that its ring slot holds (0 for a host surface). -/
structure Surf where
  base : Nat
  units : Nat
  fmt : Nat
  width : Nat
  height : Nat
  pub : Nat
  deriving DecidableEq, Repr

/-- What a layer contributes to a frame (R117-R120): the outcome (0 NORMAL, 1 REPEAT, 2 HIDE, 3 BACKGROUND, 4 SHOW,
5 HOLD_LAST_CLEAN, 6 SUPPRESSED), what it comes to (0 nothing, 1 the surface, 2 the background), the surface and the
previous surface of a line-following layer, the layer page's words 0x040-0x05C and the scaler's SCALER_CFG that it is drawn with (those of the
repeated frame under REPEAT), the same as latched for the frame, the
source's colour (colorimetry, transfer, range) and that of the previous surface, whether it follows a filling surface,
with the number of its fill, the line at which it fell behind, and whether the surface is sealed. -/
structure Shown where
  layer : Nat := 0
  outcome : Nat := 2
  acts : Nat := 0
  surf : Option Surf := none
  prev : Option Surf := none
  geo : List Nat := []
  scaler : Nat := 0
  latched : List Nat × Nat := ([], 0)
  colour : Nat × Nat × Nat := (0, 0, 0)
  prevColour : Nat × Nat × Nat := (0, 0, 0)
  following : Bool := false
  fill : Nat := 0
  fell : Option Nat := none
  isSealed : Bool := false
  deriving DecidableEq, Repr

/-- A composed pixel (R107, R207, R208): working components, the owner (a layer, 255 for the background) and the owning
layer's effective alpha. -/
structure Pix where
  r : Nat
  g : Nat
  b : Nat
  owner : Nat
  alpha : Nat
  deriving DecidableEq, Repr

/-- Statistics of a composed frame (R143, R144): histogram, largest component, pixels, KEY_BIN, FRAME_NO, sealed. -/
structure Stats where
  hist : List (Nat × Nat) := []
  top : Nat := 0
  count : Nat := 0
  key : Nat := 0
  frame : Nat := 0
  isSealed : Bool := false
  deriving DecidableEq, Repr

/-- A composed frame (R30, R98, R122, R131): FRAME_NO, active size, background, the layers' contributions from bottom to
top, the latched words of the COMP raster and COLOUR raster pages, safe colour cause and the line from which it holds,
the tone curve, the composed lines, the statistics so far, whether a COMPOSE_ERROR occurred, whether the frame is
sealed, whether it is the first after raster enable, IDENT_RUN of its complete hint map rows (R206), whether sealed content
in it is not CLEAR_OK (R464), whether the newest picture of a layer's DEC stream carries the CONCEALED mark (R412), and its number
among the raster's own frames (R204). -/
structure Composed where
  frame : Nat
  width : Nat
  height : Nat
  bg : Nat × Nat × Nat
  shown : List Shown
  words : List Nat
  cause : Nat
  safeFrom : Option Nat
  curve : Nat
  lines : List (Nat × List Pix)
  stats : Stats
  errored : Bool
  isSealed : Bool
  first : Bool
  ident : List (Nat × Nat) := []
  blocked : Bool := false
  decLoss : Bool := false
  count : Nat := 0
  deriving DecidableEq, Repr

/-- The timing of a raster frame (R250, R259): FRAME_NO, start instant, frame period, divisor, active size, V_TOTAL, and
for a step frame the new divisor, the new line period's frame period and the instant e. -/
structure FrameTiming where
  frame : Nat
  start : Nat
  period : Nat
  div : Nat
  width : Nat
  vActive : Nat
  vTotal : Nat
  step : Option (Nat × Nat × Nat)
  deriving DecidableEq, Repr

/-- What a raster keeps beside its pages: the frame being scanned out with the next line to start, the timing of the frame
that follows once it is latched, whether the frame in progress is the lead-in frame, whether ENABLE 0 has been latched,
the composed frames, newest first (the one being composed and up to eight before it), the last
completed and the captured statistics, the target tone index of the latest step 2 and the previous index, whether an
error makes the whole next frame safe, firmware self-test frames left and whether the frame latched last is one of them, whether the next frame is the first, whether RATE_MISMATCH is shown, and
SHOW_CFG and HOLD_CFG of its TILE page as latched, the SYSTIME of the application that started it, and the frames composed so far. -/
structure RasterState where
  scan : Option (FrameTiming × Nat) := none
  next : Option FrameTiming := none
  leadIn : Bool := false
  stopping : Bool := false
  composed : List Composed := []
  stats : Option Stats := none
  captured : Option Stats := none
  tone : Option Nat := none
  curve : Nat := 0
  errNext : Bool := false
  selfTest : Nat := 0
  selfNext : Bool := false
  first : Bool := true
  mismatch : Bool := false
  tileCfg : List Nat := []
  startedAt : Nat := 0
  made : Nat := 0
  deriving DecidableEq, Repr

/-- What a layer keeps from frame to frame (R119, R120, R121): its contribution to the previous frame (raster, FRAME_NO),
the newest clean picture read since it was enabled with its colour, whether the newest picture was concealed, and the newest picture
of a DEC stream that it has read (R232); and for the still pool (R125, R127) the words latched for it, whether an invalidating change touched it
at the latest latch, and its frames in a row without one and with outcome NORMAL. -/
structure LayerState where
  prev : Option (Nat × Nat × Shown) := none
  clean : Option (Surf × (Nat × Nat × Nat)) := none
  concealed : Bool := false
  read : Option Surf := none
  words : List Nat := []
  touched : Bool := false
  quiet : Nat := 0
  deriving DecidableEq, Repr

/-- A run of the still pool (R125-R129): raster, members from bottom to top, whether formed (else building), 32 KiB blocks,
spilled, chiplet quarter, and frames since it was formed. -/
structure StillRun where
  raster : Nat
  members : List Nat
  formed : Bool
  blocks : Nat
  spilled : Bool
  quarter : Nat
  age : Nat
  deriving DecidableEq, Repr

/-- Composition and colour (05_composition.md, 06_colour_tone.md): rasters, layers, runs by slot, the stable runs that are not formed
(raster, members; their RUN_NOT_FORMED is recorded), the
scaler coefficients by (scaler × 2 + bank) × 1,024 + index and the colour tables by ((raster × 2 + bank) × 8 + TABLE) ×
2^17 + index, both sparse against their reset contents. -/
structure ComposeState where
  rasters : List (Nat × RasterState) := []
  layers : List (Nat × LayerState) := []
  runs : List (Nat × StillRun) := []
  unformed : List (Nat × List Nat) := []
  coef : List (Nat × Nat) := []
  lut : List (Nat × Nat) := []
  deriving DecidableEq, Repr

/-- The coded hint of a coded 64 × 64 block (R211): STATIC_SRC, EDGE, DOMINANT, DOM_KIND, DOM_COVER, MOTION_VALID,
MOTION_EXACT and MV in coded luma units. -/
structure CodedHint where
  isStatic : Bool := false
  edge : Bool := false
  dom : Nat := 255
  kind : Nat := 0
  cover : Nat := 0
  mvValid : Bool := false
  mvExact : Bool := false
  mvx : Int := 0
  mvy : Int := 0
  deriving DecidableEq, Repr

/-- One buffer of a channel's raster hint map (R204): FRAME_NO of its frame, and the 8-byte entries by block row × 1,024 + block column. -/
structure HintMap where
  frame : Nat
  words : List (Nat × Nat)
  deriving DecidableEq, Repr

/-- A motion analysis entry (R226): vector in 1/16 rung-0 luma, SATD saturating at 65,535, STATIC. -/
structure MotionEntry where
  mvx : Int
  mvy : Int
  cost : Nat
  isStatic : Bool
  deriving DecidableEq, Repr

/-- What a VUI carries (R149): colour_primaries, transfer_characteristics, matrix_coeffs, video_full_range_flag,
chroma_sample_loc_type, num_units_in_tick, time_scale. -/
structure VuiFields where
  primaries : Nat
  transfer : Nat
  matrix : Nat
  fullRange : Nat
  chromaLoc : Nat
  unitsInTick : Nat
  timeScale : Nat
  deriving DecidableEq, Repr

/-- The HRD parameters of a stream (R190): NAL and VCL parameters present, bit_rate_scale with bit_rate_value, cpb_size_scale with
cpb_size_value, cbr_flag, low_delay_hrd_flag, and tick_divisor with decoding units. -/
structure HrdFields where
  nal : Nat
  vcl : Nat
  rateScale : Nat
  rateValue : Nat
  sizeScale : Nat
  sizeValue : Nat
  cbr : Nat
  lowDelay : Nat
  tickDivisor : Option Nat
  deriving DecidableEq, Repr

/-- A NAL unit of an encode channel with the fields that the spec fixes (R149, R157-R161, R190, R197, R198, R222): parameter sets with VUI,
HRD and, with subpictures, subpic_treated_as_pic_flag and loop_filter_across_subpic_enabled_flag; cu_qp_delta_enabled_flag, the subdivision or
depth of its quantisation group, and the chroma QP offset; the ALF APS; SEI messages; the picture header with POC, ph_recovery_poc_cnt of a
GDR picture and whether temporal motion vector prediction is on; a slice by its number, with its picture's type (IDR, GDR, trailing) and, for HEVC,
temporal motion vector prediction; filler bytes. -/
inductive EncNal where
  | aud
  | vps
  | sps (vui : VuiFields) (hrd : HrdFields) (subpic : Option (Nat × Nat))
  | pps (qpDelta group chromaOffset : Nat)
  | aps
  | bufferingPeriod (initialDelay : Nat)
  | pictureTiming (removal : Nat)
  | recoveryPoint (count exact broken : Nat)
  | picHeader (poc : Nat) (recovery : Option Nat) (tmvp : Bool)
  | unitInfo (du increment : Nat)
  | slice (index kind : Nat) (tmvp : Bool)
  | filler (bytes : Nat)
  deriving DecidableEq, Repr

/-- A CTU row of a picture (R155, R162-R169, R191-R196, R216): the instants of its hand-off and release, whether it has
entered the reorder window with its target and planned QP, the tile columns dispatched, those whose motion analysis is
published, the completed jobs (tile column; exact size and exact floor size in bits) with their results (coded, floor), the row's exact
size, whether it is floored, waits for the floor recoder, and is seam-filtered, its coded hints in raster order, its source samples (lines
of each component), how its blocks are coded, in raster order, once it is released, its final reconstruction (lines of each component), and whether its hand-off was counted as held (R168). -/
structure EncRow where
  handed : Option Nat := none
  released : Option Nat := none
  entered : Bool := false
  tau : Nat := 0
  qp : Nat := 0
  sent : List Nat := []
  published : List Nat := []
  finished : List (Nat × (Nat × Nat)) := []
  results : List (Nat × (Nat × Nat)) := []
  size : Nat := 0
  floored : Bool := false
  recoding : Bool := false
  seamed : Bool := false
  hints : List CodedHint := []
  src : List (List Nat) := []
  plans : List Config.BlockPlan := []
  recon : List (List Nat) := []
  held : Bool := false
  deriving DecidableEq, Repr

/-- A slice of a picture (R169, R170): the instant at which its first row was released, the entropy engine and start of its
job, and the instant of its assembly. -/
structure EncSlice where
  ready : Option Nat := none
  engine : Option (Nat × Nat) := none
  assembled : Option Nat := none
  deriving DecidableEq, Repr

/-- A decided decoding unit (R186-R189): S through it with filler, filler bits, and the model's final arrival of its last
bit, as R × T × (instant − t_s) with T the time scale of the channel. -/
structure EncDu where
  total : Nat
  filler : Nat
  arrival : Nat
  deriving DecidableEq, Repr

/-- A coded picture (R153-R161, R186-R198, R213, R224, R229): number, frame, latched words of its ENC page and entry, for a rung the words
0x040-0x048 of its ladder page as latched for the frame (R62), kind
(0 IDR, 1 sweep, 2 other) with the refresh records due at its first hand-off, index within its sweep and the sweep's length, source overrun,
the frame where sealed content in it is not CLEAR_OK, whether its frame is sealed, sequence number of row 0, target, S and arrival before it, rows, first floored
row, decided DUs, slices, slices emitted, whether it met an empty analysis or a hint error, whether every block was
static-coded; its POC, whether it is a B picture, its reference pictures by number (R149, R160), the raster's latched OUT_TCS, whether temporal
motion vector prediction is on (R197), the FRAME_NO of the picture of the latest buffering period, the NAL units emitted, and in a rung 1-7 its SCALE_LOG2 above that of rung 0 with the motion analysis in its source slot by
(reference index × 1,024 + y) × 1,024 + x of the 16 × 16 block of rung 0 (R226). -/
structure EncPicture where
  number : Nat
  frame : Nat
  words : List Nat
  rc : List Nat
  ladder : List Nat := []
  kind : Nat := 2
  notes : List (Nat × Nat) := []
  sweep : Option (Nat × Nat) := none
  overrun : Bool := false
  blocked : Option Nat := none
  isSealed : Bool := false
  sameOrigin : Bool := false
  seq : Nat
  target : Int := 0
  before : Option (Nat × Nat) := none
  rows : List EncRow
  floorFrom : Option Nat := none
  dus : List EncDu := []
  slices : List EncSlice
  emitted : Nat := 0
  noAnalysis : Bool := false
  hintError : Bool := false
  allStatic : Bool := true
  poc : Nat := 0
  isB : Bool := false
  refs : List Nat := []
  tcs : Nat := 0
  tmvp : Bool := true
  period : Nat := 0
  nals : List EncNal := []
  shift : Option Nat := none
  analysis : List (Nat × MotionEntry) := []
  deriving DecidableEq, Repr

/-- What an encode channel keeps beside its pages (R151-R161, R181-R189, R194, R218): its grant (the words of the grant
fields), D, E, job slots and work area units, its ladder and rung, whether ENABLE 1 has been latched, the frame of its
first picture, the number and sequence number that come next, its pictures, oldest first, the latest REFRESH_REQ, the next
sweep picture and the sweep's PERIOD, the pictures since the last IDR with the PERIOD in force, whether a restarted sweep waits for a source, S and the arrival of the last decided DU, its latest planned QP, the rows whose size is known (kind ×
65,536 + row; QP, size) of dropped pictures, the preferred engines by
row × 16 + tile column, the quality records by block (FLOORED, QP_REC), the origin and overrun of the latest picture, the frame of its last picture,
the two buffers of its raster hint map (R204), the frame of its latest buffering period, and the instants at which packets of decoding units of which more
packets wait have left, by FRAME_NO × 65,536 + unit (R200). -/
structure EncChannel where
  grant : Option (List Nat) := none
  d : Nat := 0
  e : Nat := 0
  slots : Nat := 0
  units : Nat := 0
  rung : Option (Nat × Nat) := none
  running : Bool := false
  first : Option Nat := none
  nextPicture : Nat := 0
  nextSeq : Nat := 0
  pictures : List EncPicture := []
  request : Bool := false
  sweep : Option (Nat × Nat) := none
  sinceIdr : Nat × Nat := (0, 0)
  restart : Bool := false
  total : Nat := 0
  arrival : Nat := 0
  lastQp : Option Nat := none
  known : List (Nat × (Nat × Nat)) := []
  preferred : List (Nat × Nat) := []
  quality : List (Nat × (Bool × Nat)) := []
  origin : Nat := 0
  overran : Bool := false
  lastFrame : Nat := 0
  maps : List (Nat × HintMap) := []
  period : Nat := 0
  left : List (Nat × Nat) := []
  deriving DecidableEq, Repr

/-- A pixel job (R165-R171): channel, picture, row, tile column, the instant from which it is eligible, and whether it has
no preferred engine because it is retried. -/
structure PixelJob where
  ch : Nat
  picture : Nat
  row : Nat
  col : Nat
  since : Nat
  retried : Bool := false
  deriving DecidableEq, Repr

/-- Encoding (07_encoder_pipeline.md, 08_rate_control.md, 09_guided_coding.md): channels, eligible jobs, jobs held for analysis alone, jobs on pixel
engines with their starts, entropy jobs on entropy engines (channel, picture, slice, start), withdrawn engines (pixel 0-95,
entropy 128 + engine), engines lent to self-test, parked clusters, admitted ladders with their granted words and demand, the counts of the
OBS registers by kind × 65,536 + index × 16 + word, the instants from which idle engines have been idle, the latest instants at which a pixel job and a
slice waited (R171), and the cycles, plus 1, of the latest dispatch of each kind (R167, R169). -/
structure EncState where
  channels : List (Nat × EncChannel) := []
  waiting : List PixelJob := []
  behind : List PixelJob := []
  pixel : List (Nat × (PixelJob × Nat)) := []
  entropy : List (Nat × (Nat × Nat × Nat × Nat)) := []
  withdrawn : List Nat := []
  lent : List Nat := []
  parked : List Nat := []
  ladders : List (Nat × (List Nat × Nat × Nat)) := []
  obs : List (Nat × Nat) := []
  idle : List (Nat × Nat) := []
  lastJob : Nat := 0
  lastSlice : Nat := 0
  sentPixel : Nat := 0
  sentEntropy : Nat := 0
  deriving DecidableEq, Repr

/-- A picture of a decode stream (R234, R241, R245-R247): number in decoding order, coded video sequence, header, the SPS and the
parameter sets it is decoded with, the ring slot it fills (none: dropped, R92, or never output), the bytes of its slices by first CTU, the CTUs
of its decoded area received and those whose slice failed, the CTUs concealed with the content they are taken from and its bits per sample, whether a
reference was substituted, its content (Config.decodedPicture), whether it is closed, complete, clean, and output by the process of
Annex C. -/
structure DecPicture where
  number : Nat
  epoch : Nat
  head : DecHeader
  sps : DecSps
  params : Nat := 0
  slot : Option Nat := none
  data : List (Nat × List Byte) := []
  got : List Nat := []
  failed : List Nat := []
  concealed : List Nat := []
  source : Option (Nat × Nat) := none
  substituted : Bool := false
  content : Nat := 0
  closed : Bool := false
  complete : Bool := false
  clean : Bool := false
  due : Bool := false
  deriving DecidableEq, Repr

/-- What a DEC stream keeps beside its page (R237-R247): its grant and demand with the pipelines it is placed on, its output
ring, the published slots that carry the CONCEALED mark, the latched grant fields it started with, whether ENABLE 1 has been latched,
whether it has begun, the active SPS and its refusal, the parameter sets, the epoch and number of the next picture, the
access unit of the latest one, the pictures not yet published, oldest first, the
reference pictures, the concealment reference, the pictures (by number) that the reference entries hold, the recovery chain in progress
(last POC, whether received whole), and whether a marked picture was the last published. -/
structure DecStream where
  grant : Option (List Nat) := none
  demand : Nat := 0
  pipes : List Nat := []
  ring : Ring := {}
  marked : List Nat := []
  cfg : List Nat := []
  running : Bool := false
  begun : Bool := false
  sps : Option DecSps := none
  refused : Option Nat := none
  params : Nat := 0
  epoch : Nat := 0
  next : Nat := 0
  lastAu : Option Nat := none
  pictures : List DecPicture := []
  refs : List DecPicture := []
  conceal : Option DecPicture := none
  entries : List (Nat × Nat) := []
  chain : Option (Int × Bool) := none
  wasMarked : Bool := false
  deriving DecidableEq, Repr

/-- A REPORT that Azloth keeps (R289, R290, R301): TEMP as 16 bits, FRAME, flags, CRC_ERRORS, HIGH_EPOCH, VENDOR_STATUS,
the frames since it was kept, and whether no latch has used it yet. -/
structure TileReport where
  temp : Nat
  frame : Nat
  inverted : Bool
  geometry : Bool
  overtemp : Bool
  crcErrors : Nat
  highEpoch : Nat
  vendor : Nat
  age : Nat := 0
  fresh : Bool := true
  deriving DecidableEq, Repr

/-- A packet that is arriving on a tile lane (R281): bytes 1-7 of its START, the bytes of its data blocks, and whether an invalid block came
since its START. -/
structure RxPacket where
  header : List Nat
  data : List Nat := []
  spoilt : Bool := false
  deriving DecidableEq, Repr

/-- A tile lane (R290, R298-R301): kept REPORTs by position, the FRAME of the latest BEAT and the positions that have
answered it, chain length, BEATs in a row at which an entry lay beyond the chain, invalid return packets, the cable
fault causes that hold, whether it waits for a frame start after returning to service, the scrambler of the way out (none before the first
packet: its state is arbitrary), the instant at which the last packet's END has left and that packet's blocks, the descrambler of the way in (the last 58 bits received), and the packet of the return direction that has
started and not ended (R279, R281). -/
structure TileLane where
  reports : List (Nat × TileReport) := []
  beat : Option Nat := none
  answered : List Nat := []
  chain : Nat := 0
  short : Nat := 0
  bad : Nat := 0
  causes : List Nat := []
  rejoin : Bool := false
  scrambler : Option Nat := none
  busy : Nat := 0
  blocks : Nat := 0
  descrambler : Nat := 0
  open' : Option RxPacket := none
  deriving DecidableEq, Repr

/-- A packet of the tile link that waits for the instant at which its START enters framing (R252, R281, R288): the instant, the lane, the
header words H and G without OWN_EPOCH, and the payload bytes. -/
structure Framing where
  start : Nat
  lane : Nat
  h : Nat
  g : Nat
  payload : List Nat
  deriving DecidableEq, Repr

/-- Scan-out (11_scanout.md, 12_tile_link.md): the tile map by chiplet × 8,192 + index, check rectangles by chiplet × 256 +
index, thermal coefficients by chiplet × 4,096 + index, applied gains and temperature by thermal index, check results by
raster × 8 + rectangle with whether the rectangle was sealed, frames a check rectangle's bank was latched since its words were written (raster × 16 + bank ×
8 + rectangle), running check values (raster × 8 + rectangle), frames without a report and the stale ones among the thermal entries, the latest check results by raster as an OWNER reads them,
calibration cells sparse against the identity, the pending cell buffer with the cells written since the arm, running
calibration loads by chiplet (source, first, count), the tile lanes, and the tile link packets
whose START has not entered framing, earliest first. -/
structure ScanState where
  map : List (Nat × List Nat) := []
  rects : List (Nat × List Nat) := []
  thermal : List (Nat × List Nat) := []
  gains : List (Nat × (Nat × Nat × Nat × Nat)) := []
  results : List (Nat × (Nat × Bool)) := []
  rectAge : List (Nat × Nat) := []
  silent : List (Nat × Nat) := []
  stale : List Nat := []
  checks : List (Nat × Nat) := []
  cells : List (Nat × List Nat) := []
  hold : List (Nat × List Nat) := []
  cellPend : List (Nat × List Nat) := []
  touched : List Nat := []
  loads : List (Nat × (Nat × Nat × Nat)) := []
  lanes : List (Nat × TileLane) := []
  framing : List Framing := []
  deriving DecidableEq, Repr

/-- What a serial lane keeps beside its page (R308, R311): equaliser values, background updates so far, and whether the
tile-lane receiver tries inverted polarity. -/
structure LaneState where
  eq : List Int := []
  updates : Nat := 0
  inverted : Bool := false
  deriving DecidableEq, Repr

/-- What ends in a packet (R199-R201): a decoding unit, with its channel, the FRAME_NO of its picture, its index and its model
arrival time as a SYSTIME, numerator and denominator; or a slice, with its channel and the instant at which its first packet was queued. -/
inductive DuMark where
  | unit (ch frame du : Nat) (arrival : Int) (den : Nat)
  | slice (ch queued : Nat)
  deriving DecidableEq, Repr

/-- The Ethernet, IP and UDP headers of a packet (R325, R329, R330, R335): MAC addresses (0 for a next hop that is not resolved), VID
(0 untagged) and PCP, IP version and addresses, DSCP, TTL or hop limit, and ports. IPv4 carries DF 1 and identification 0; the UDP
checksum is computed. -/
structure TxHeader where
  srcMac : Nat := 0
  dstMac : Nat := 0
  vid : Nat := 0
  pcp : Nat := 0
  ipv6 : Bool := false
  src : Nat := 0
  dst : Nat := 0
  dscp : Nat := 0
  ttl : Nat := 0
  sport : Nat := 0
  dport : Nat := 0
  deriving DecidableEq, Repr

/-- A transport stream packet of 188 bytes (R333): PID, continuity counter, whether a PES packet or a table starts in it, the PTS of that
PES packet (DTS is equal to it on VIDEO_PID), the PCR in 27 MHz ticks, and the bytes of the PES packet or table that it carries. -/
structure TsPacket where
  pid : Nat
  cc : Nat := 0
  start : Bool := false
  pts : Option Nat := none
  pcr : Option Nat := none
  bytes : Nat
  deriving DecidableEq, Repr

/-- The form of an RTP payload (R332-R334): a single NAL unit, an aggregation packet of so many, a fragmentation unit with its S, E and P
bits, transport stream packets, one sample row (line and first pixel), the bytes of audio samples, or an ancillary packet. -/
inductive RtpForm where
  | single
  | aggregate (nals : Nat)
  | fragment (start stop last : Bool)
  | ts (packets : List TsPacket)
  | row (line pixel : Nat)
  | samples (bytes : List Nat)
  | ancillary
  deriving DecidableEq, Repr

/-- A formed packet (R330-R337): its flow (global subscriber queue), the FRAME_NO that its content belongs to, the port and copy it leaves on, RTP payload type,
SSRC, sequence number, timestamp, marker, RTP payload bytes, wire length L (R341), release instant (R351), whether it
belongs to a sealed frame, the decoding units and slices that end in it, its headers, the form of its payload, its SRTP packet index, and
once it leaves its SecTAG. -/
structure TxPacket where
  flow : Nat
  frame : Nat := 0
  port : Nat
  copyB : Bool
  kind : Nat
  pt : Nat
  ssrc : Nat
  seq : Nat
  ts : Nat
  marker : Bool
  bytes : Nat
  wire : Nat
  release : Nat
  sealedFrame : Option Nat
  resolved : Bool
  marks : List DuMark
  header : TxHeader := {}
  form : RtpForm := .single
  srtp : Option Nat := none
  tag : Option SecTag := none
  deriving DecidableEq, Repr

/-- A transmit flow's running state (R329, R330, R333, R336): next RTP sequence number, SRTP roll-over counter, whether
FLOW_UNRESOLVED has been recorded, whether the latest packet found no next hop, the last frame whose blocked packet was recorded
(R465), and of a transport stream the pictures since its tables and the continuity counter of each PID. -/
structure TxFlow where
  seq : Option Nat := none
  roc : Nat := 0
  tables : Option Nat := none
  cc : List (Nat × Nat) := []
  unresolvedSeen : Bool := false
  unresolved : Bool := false
  blockedFrame : Option Nat := none
  deriving DecidableEq, Repr

/-- A receive flow's SRTP window (R336): the highest authenticated index and the indices seen within the window. -/
structure RxFlow where
  highest : Option Nat := none
  seen : List Nat := []
  deriving DecidableEq, Repr

/-- A PTP instance of one lane I/O chiplet (R338): consecutive Sync messages within limits, the chosen master, and the
grandmaster. -/
structure PtpState where
  inLimits : Nat := 0
  master : Option Nat := none
  grandmaster : Nat := 0
  deriving DecidableEq, Repr

/-- Network state (14_network_transport.md): the tables' entries by ((chiplet × 8 + TABLE) × 2^15 + INDEX), policer
tokens (units of 1/8,192,000,000 byte, and the SYSTIME they hold at), flows, MACsec packet numbers of transmit SCs by
port and of receive SCs by port × 4 + SC, PTP instances, the chiplet whose slave port was chosen first, the
resolved neighbours (NET port, address, MAC address), the joined groups (NET port, group, source), and the echo requests answered
on a port in a second of SYSTIME (port to second and count). -/
structure NetState where
  tbl : List (Nat × List Nat) := []
  tokens : List (Nat × (Nat × Nat)) := []
  tx : List (Nat × TxFlow) := []
  rx : List (Nat × RxFlow) := []
  pnTx : List (Nat × Nat) := []
  pnRx : List (Nat × Nat) := []
  ptp : List (Nat × PtpState) := []
  ptpFirst : Option Nat := none
  neighbours : List (Nat × Nat × Nat) := []
  joined : List (Nat × Nat × Option Nat) := []
  echoes : List (Nat × (Nat × Nat)) := []
  deriving DecidableEq, Repr

/-- A pair of token buckets (R349): committed and peak tokens in units of 1/156,250 byte, and the egress-scheduler cycle
at which they hold. -/
structure Bucket where
  c : Nat := 0
  p : Nat := 0
  cyc : Nat := 0
  deriving DecidableEq, Repr

/-- One state, A or B, of a subscriber queue (R346, R354): queued packets, its virtual time, its buckets, and the
FRAME_NO of its last QUEUE_DROP record, wire bytes started and packets dropped. -/
structure QueueState where
  pkts : List TxPacket := []
  vt : Nat := 0
  bucket : Bucket := {}
  dropFrame : Option Nat := none
  sent : Nat := 0
  drops : Nat := 0
  deriving DecidableEq, Repr

/-- A service node (R347, R354). -/
structure NodeState where
  vt : Nat := 0
  bucket : Bucket := {}
  sent : Nat := 0
  deriving DecidableEq, Repr

/-- A port of the scheduler (R354, R356, R360): buckets, virtual time per class, whether a list is running, since which
cycle start (SYSTIME ns), the running bank, and a pending start (bank, instant in ns), the instant it
becomes able to start a frame, and the wire bytes started. -/
structure PortSched where
  bucket : Bucket := {}
  vtClass : List (Nat × Nat) := []
  running : Bool := false
  cycleStart : Nat := 0
  bank : Nat := 0
  pendingStart : Option (Nat × Nat) := none
  freeAt : Nat := 0
  sent : Nat := 0
  deriving DecidableEq, Repr

/-- Egress scheduling (15_traffic_scheduler.md): active table entries, the pending buffer and which of its
entries were written since the last arm, by ((chiplet × 8 + TABLE) × 2^15 + INDEX); queue states by global queue × 2 + (0 A, 1 B); nodes by global number; ports by
SCHED port number; per chiplet the frame of the last QUEUE_DROP. -/
structure SchedState where
  tbl : List (Nat × List Nat) := []
  pend : List (Nat × List Nat) := []
  touched : List Nat := []
  queues : List (Nat × QueueState) := []
  nodes : List (Nat × NodeState) := []
  ports : List (Nat × PortSched) := []
  dropFrame : List (Nat × Nat) := []
  deriving DecidableEq, Repr

/-- A frame that waits in a virtual channel of a port (R370, R374): the frame, and for a forwarded one the port on which it
arrived and the number under which it lies in that port's buffer. -/
structure FabQueued where
  frame : FabFrame
  arrival : Option (Nat × Nat)
  deriving DecidableEq, Repr

/-- A fabric port, or a mooring port (16 is A, 17 is B): LINK, STATE, the AUTH messages sent and received in a handshake that
runs, whether AUTH completed with JOIN 0, the peer's serial number, node, coordinator and port as in its latest HELLO, the
last PN sent and accepted, per VC the credits consumed, the peer's count of credits freed, the own count and the count
last sent (R374), the waiting frames, the VCs that show CREDIT_STALL, the number of the latest TIME exchange and the
instant its request left, and the HELLO count. -/
structure FabPort where
  link : Bool := false
  st : Nat := 0
  hs : Option (Nat × Nat) := none
  authed : Bool := false
  peerSerial : Nat := 0
  peerNode : Nat := 0xFFFF
  peerCoord : Nat := 0xFFFF
  peerPort : Nat := 0
  pnTx : Nat := 0
  pnRx : Nat := 0
  used : List Nat := [0, 0, 0, 0]
  peerFreed : List Nat := [0, 0, 0, 0]
  freed : List Nat := [0, 0, 0, 0]
  freedSent : List Nat := [0, 0, 0, 0]
  queue : List FabQueued := []
  stalled : List Nat := []
  exchange : Nat := 0
  asked : Option Nat := none
  hellos : Nat := 0
  deriving DecidableEq, Repr

/-- Another landed member as this device knows it (R375, R379): attributes, links, SEQ of the LINK_STATE held, ownership
epoch. -/
structure FabMember where
  attrs : FabAttrs
  links : List (Nat × Nat) := []
  seq : Option Nat := none
  epoch : Nat := 0
  deriving DecidableEq, Repr

/-- A ferry as a receiver follows it (R387): newest epoch, SEQ of the last frame accepted, whether the emission in progress is
discarded, and the NAL units of that emission received so far. -/
structure FerryRx where
  epoch : Nat
  seq : Option Nat
  gap : Bool
  nals : List DecNal
  deriving DecidableEq, Repr

/-- The Unuarvo fabric (16_fabric.md): ports, other members by node ID, the tables of R391 by index (PLACE words, FERRY,
MCAST, RECT_EXPORT, RECT_SINK; REMOTE_EVT with order numbers), ID to (serial, epoch) as recorded by the coordinator,
whether LEAVE holds the ports, the device's last ID, the ID it requests, the request number and the requests it relays
(own number ↦ port, the asker's number), SEQ counts of LINK_STATE, COORD_SYNC, EVENT and of each ferry sent, ferries received by producer
× 256 + FERRY_ID, buffer numbers, the running remote register access, consecutive exchanges within 10 ns and whether the one
step has been taken, RECT sinks and exports as the frame in progress uses them, whether there is no coordinator, and
whether the parent port was lost. -/
structure FabState where
  ports : List (Nat × FabPort) := []
  members : List (Nat × FabMember) := []
  route : List (Nat × Nat) := []
  place : List (Nat × List Nat) := []
  ferry : List (Nat × Nat) := []
  mcast : List (Nat × (Nat × Nat)) := []
  rectExport : List (Nat × List Nat) := []
  rectSink : List (Nat × List Nat) := []
  remote : List (Nat × (Nat × Nat)) := []
  remoteNext : Nat := 0
  recorded : List (Nat × (Nat × Nat)) := []
  held : Bool := false
  lastId : Option Nat := none
  wanted : Nat := 0xFFFF
  requests : Nat := 0
  relays : List (Nat × (Nat × Nat)) := []
  lsSeq : Nat := 0
  syncSeq : Nat := 0
  eventSeq : Nat := 0
  ferrySeq : List (Nat × Nat) := []
  ferries : List (Nat × FerryRx) := []
  nextStore : Nat := 0
  rra : Option Nat := none
  rraSeq : Nat := 0
  near : Nat := 0
  stepped : Bool := false
  sinks : List (Nat × (Nat × List Nat)) := []
  exports : List (Nat × List Nat) := []
  noCoord : Bool := false
  timeHold : Bool := false
  deriving DecidableEq, Repr

/-- An arbitration that runs (R414, R415): its item, this unit's result and the mate's (fail, engines failed), and the engines
lent for it. -/
structure Arbitration where
  item : MateItem
  own : Option (Bool × List Nat) := none
  mate : Option (Bool × List Nat) := none
  lent : List Nat := []
  deriving DecidableEq, Repr

/-- What self-test has found (R416, R482): frames of the HBM errors corrected in the last 1,024 beats, HBM uncorrectable errors
with the frame of the latest, rows repaired or pending, scrub passes, golden vector runs failed and passed, decode
pipelines withdrawn, and the highest junction temperature in 1/16 °C. -/
structure Health where
  corrected : List Nat := []
  uncorrectable : Nat := 0
  lastUncorrectable : Option Nat := none
  rows : Nat := 0
  passes : Nat := 0
  failed : Nat := 0
  passed : Nat := 0
  pipes : List Nat := []
  junction : Nat := 0
  deriving DecidableEq, Repr

/-- Temperature reports for a latch of a raster (R409): its FRAME_NO, the parts received, the number of the part marked LAST,
and the reports by index (TEMP, AGE). -/
structure ThermalSet where
  frame : Nat
  parts : List Nat
  last : Option Nat
  reports : List (Nat × (Nat × Nat))
  deriving DecidableEq, Repr

/-- Moored pair state (17_redundancy.md): whether the takeover instant of the present claim has passed, whether the unit has
been HOLDER since reset, may enter QUALIFYING, what the mate's latest heartbeat said (role, home, ready, sense fault,
CONFIG_EPOCH), whether equal straps were found, the ports that carry frames (bit 0 A, 1 B), SEQ sent and newest
received, own records that wait and the mate's that came first, suspended channels and rasters by kind × 256 + unit
(matches in a row, since, index of the item), the frame of the latest undeclared mismatch or MISSING item, whether an item of this beat
did not match, the arbitration, the takeback target agreed (frame, acknowledged, due), failed attempts, beats without a holder, the mate's health
report, own health, thermal reports by raster, newest first, the rasters whose latest latch lacked one, and the FERRY and RECT
frames discarded in place of sending with their instants (R404). -/
structure MateState where
  on : Bool := false
  everHolder : Bool := false
  mayQualify : Bool := true
  mateRole : Nat := 0
  mateHome : Bool := false
  mateReady : Bool := false
  mateSense : Bool := false
  mateCritical : Bool := false
  mateConfig : Option Nat := none
  mateSerial : Nat := 0
  conflict : Bool := false
  alive : Nat := 0
  seqTx : Nat := 0
  seqRx : Option Nat := none
  own : List (MateRecord × Nat) := []
  theirs : List (MateRecord × Nat) := []
  suspended : List (Nat × (Nat × Nat × Nat)) := []
  lastBad : Option Nat := none
  beatBad : Bool := false
  arb : Option Arbitration := none
  takeback : Option (Nat × Bool × Bool) := none
  vacant : Nat := 0
  mateHealth : List Nat := []
  health : Health := {}
  thermal : List (Nat × List ThermalSet) := []
  thermalMissing : List Nat := []
  fabShadow : List (Nat × Nat × FabFrame) := []
  deriving DecidableEq, Repr

/-- The block of an audio port in progress (R428-R430): its first frame, the masks in force at its first frame and at the latest
one, the frame within it at which a new mask governs, its GAP, DISCONTINUITY and FORMAT_CHANGED flags, and the captured words of
its frames. -/
structure AudBlock where
  first : Nat
  mask0 : Nat
  mask : Nat
  change : Option Nat := none
  gap : Bool := false
  broken : Bool := false
  format : Bool := false
  words : List (List Nat) := []
  deriving DecidableEq, Repr

/-- BCLK and FSYNC of a TDM frame (R423, R426): the audio PLL cycles after A(s) at which the bit clocks begin, how many of them FSYNC lasts,
whether it is active low, and whether SDO changes on rising edges of BCLK. -/
structure AudWave where
  clocks : List Nat := []
  fsync : Nat := 1
  activeLow : Bool := false
  inverted : Bool := false
  deriving DecidableEq, Repr

/-- What an audio port keeps beside its page (R422-R433): its latest TDM frame, the number of SYSTIME steps it has seen, the words
of PORT_CFG, CLOCK_CFG, DIV_FRAC and the BLOCK in force, the first frame of the unbroken capture, the masks of the latest frame,
the block in progress, the block sequence number, the records that wait for the ring, and the captured words of the latest 48 frames. -/
structure AudPort where
  last : Option Nat := none
  steps : Nat := 0
  fmt : List Nat := []
  since : Option Nat := none
  masks : Option (Nat × Nat) := none
  block : Option AudBlock := none
  seq : Nat := 0
  records : List (List Byte) := []
  recent : List (List Nat) := []
  deriving DecidableEq, Repr

/-- What a check-value unit keeps beside its page (R436-R447): the values of the value port, the held low half, the capture of each
path, and of the current or last operation: the words of CVU_CFG and SNOOP_CFG sampled, the algorithm (w, P, init, refin, refout,
xorout), the scan range, whether an OWNER started it, the frames left in the group, the first frame or publication that may be
fed, and the LINE payload gathered of a snooped lane's frame (frame, sealed, whole, bytes). -/
structure CvuUnit where
  poly : Nat := 0
  init : Nat := 0
  xorout : Nat := 0
  expected : Nat := 0
  running : Nat := 0
  result : Nat := 0
  addr : Nat := 0
  len : Nat := 0
  done : Nat := 0
  held : Nat := 0
  reads : List (Path × Nat) := []
  cfg : Nat := 0
  snoop : Nat := 0
  alg : List Nat := []
  span : Nat × Nat := (0, 0)
  owner : Bool := false
  left : Nat := 0
  next : Nat := 0
  gather : Option (Nat × Bool × Bool × List Nat) := none
  deriving DecidableEq, Repr

/-- The owner policy record in force (R460): flags, SESSION_MAX, PW_HASH, SERVICE_KEY_HASH_0-3, and the rights mask of
each page type in the order of R34. -/
structure Policy where
  flags : Nat
  sessionMax : Nat
  pwHash : Nat
  keyHashes : List Nat
  masks : List Nat
  deriving DecidableEq, Repr

/-- A debug session (R469-R473): DIAG or SERVICE, the hash of its key, the SYSTIME at which it expires. -/
structure Session where
  service : Bool
  keyHash : Nat
  expiry : Nat
  deriving DecidableEq, Repr

/-- The current challenge (R471): its number, its 48 bytes, the SYSTIME of its issue, and whether it is still valid. -/
structure Challenge where
  number : Nat
  bytes : List Byte
  issued : Nat
  valid : Bool
  deriving DecidableEq, Repr

/-- Security state (20_security.md): the policy in force, the debug session, the sealed ranges (index to base, size and CLEAR_OK), the
channels that have coded a sealed picture since admission, the device certificate, the owner root public key, M0-M7, the key slots
that hold a key (slot to type), the wrapped blob that each of them was loaded from, the loads of each slot, the key load sampled at START (slot, offset, length), the current challenge
and the challenges issued, the password failure count and the instant until which no attempt is accepted, DEBUG_DISABLE, and the
FRAME_NO at which a packet was last blocked. -/
structure SecState where
  policy : Option Policy := none
  session : Option Session := none
  ranges : List (Nat × (Nat × Nat × Bool)) := []
  codedSealed : List Nat := []
  cert : Option (List Byte) := none
  rootKey : List Byte := []
  meas : List Nat := []
  slots : List (Nat × Nat) := []
  keys : List (Nat × List Byte) := []
  loads : List (Nat × Nat) := []
  keyOp : Nat × Nat × Nat := (0, 0, 0)
  challenge : Option Challenge := none
  challenges : Nat := 0
  failures : Nat := 0
  waitUntil : Option Nat := none
  debugDisabled : Bool := false
  lastBlocked : Option Nat := none
  deriving DecidableEq, Repr

/-- The firmware mailbox (R494): code and request words of the running command, sampled at START, and the path of the write that set
START (R456). -/
structure MbxState where
  code : Nat := 0
  req : List Nat := []
  by' : Path := .pcie
  deriving DecidableEq, Repr

/-- A domain's slack state (R477-R481): STATE, the SYSTIME from which it is resident, the SYSTIME at which the exit in progress or the
latest one ends with the state it left, the horizon of the latest decision in ns, and the time spent in GATE, NAP and DARK in units of SYSTIME. -/
structure DomSlack where
  st : Nat := 0
  since : Nat := 0
  exitEnd : Nat := 0
  leaving : Nat := 0
  horizon : Nat := 0
  gate : Nat := 0
  nap : Nat := 0
  dark : Nat := 0
  deriving DecidableEq, Repr

/-- A switch record (R490): slot, SEQ, security version and hash of the image. -/
structure SwitchRecord where
  slot : Nat
  seq : Nat
  svn : Nat
  hash : Nat
  deriving DecidableEq, Repr

/-- The retention snapshot (R487): FRAME_NO, the other words of its 64-byte header, and the active values of the block registers in
the order of R76 as OWNER reads them and as the lower roles do, each by position, sparse against 0. -/
structure Retention where
  frame : Nat
  header : List Byte
  owner : List (Nat × Nat)
  lower : List (Nat × Nat)
  deriving DecidableEq, Repr

/-- Power, reset and boot (21_power_reset_boot.md): VIN_MAIN and VIN_AUX present, DOMAIN_00 powered, SYS_XO present for 1 ms, DORMANT,
held by the thermal trip, released from reset, boot complete and the SYSTIME of that, REQ_ACTIVE remembered while entering DIM, the
cause and instant of a requested reset, the domains, slack state entries, islands whose PLL is not locked, the soft remaps and the rows
repaired for good (bank; row, HARD), the
switch records by copy, the security version, hash and length of the staged image, whether a test reset asks for the host pool to be zeroed,
the instants of the latest watchdog resets, the retention snapshot, the output rails that are off (0 3V3, 1 1V8), composition pipelines withdrawn (two per chiplet), the chiplets with
engines left withdrawn by a reload, the SMBus address strap and the offset that the next SMBus read uses. -/
structure PowState where
  main : Bool := true
  aux : Bool := false
  powered : Bool := true
  xo : Bool := true
  dormant : Bool := false
  trip : Bool := false
  up : Bool := true
  booted : Bool := false
  bootedAt : Nat := 0
  wantActive : Bool := false
  due : Option (Nat × Nat) := none
  doms : List (Nat × DomSlack) := []
  entries : Nat := 0
  unlocked : List Nat := []
  remaps : List (Nat × (Nat × Bool)) := []
  hard : List (Nat × Nat) := []
  records : List (Nat × SwitchRecord) := []
  staged : Option (Nat × Nat × Nat) := none
  testZero : Bool := false
  watchdogs : List Nat := []
  retention : Option Retention := none
  railsOff : List Nat := []
  compOut : List Nat := []
  reloaded : List Nat := []
  strap : Nat := 0
  smbusOffset : Nat := 0
  jtag : JtagInstruction := .idcode
  boundary : List Bool := []
  deriving DecidableEq, Repr

/-- What the block sends out of itself. -/
inductive Out where
  /-- The value a register read returned (R36). -/
  | readData (v : Word)
  /-- The bytes a memory read returned. -/
  | memData (bytes : List Byte)
  /-- An MSI-X message of a vector (R52). -/
  | msix (vector : Nat)
  /-- A packet starts on the wire of a NET port at an instant (R354). -/
  | packet (port : Nat) (start : Nat) (p : TxPacket)
  /-- A message firmware sends on a NET port as control traffic or PTP (R327, R338): kind by message name. -/
  | control (port : Nat) (kind : String)
  /-- A request for the MAC address of a next hop (R327). -/
  | resolve (port address : Nat)
  /-- An IGMPv3 or MLDv2 report on a NET port (R327): a group with its source (INCLUDE) or none (EXCLUDE of no source), joined or left. -/
  | membership (port group : Nat) (source : Option Nat) (member : Bool)
  /-- A PTP Announce on a NET port (R338): domain, clockClass and grandmaster, and without an upstream master the port's own
  priority1, priority2 and timeSource. -/
  | announce (port domain clockClass grandmaster : Nat) (own : Option (Nat × Nat × Nat))
  /-- A tile link packet has entered framing on a tile lane (R279-R285): header words H and G, payload bytes, CRC-32C, and its blocks as
  they go onto the wire, scrambled. -/
  | tile (lane : Nat) (h g : Nat) (payload : List Nat) (crc : Nat) (wire : List TileBlock)
  /-- The packet last named on a tile lane is cut off after a number of its blocks, without an END (R300). -/
  | tileCut (lane blocks : Nat)
  /-- A fabric or mooring frame starts on the wire of a port (16 and 17 are the mooring ports) at an instant (R368). -/
  | fabric (port start : Nat) (f : FabFrame)
  /-- A TDM frame starts on an audio port (R423, R426): per slot the driven bits, none where SDO is high-impedance; and its clocks. -/
  | audio (port frame : Nat) (slots : List (Option Nat)) (wave : AudWave)
  /-- RST_N of QSPI flash A (0) or B (1) is driven low for a time in ns (R522). -/
  | flashReset (flash ns : Nat)
  /-- Bits shifted out at TDO, the first one first (R469, R515). -/
  | jtag (tdo : List Bool)
  deriving DecidableEq, Repr

/-- The block. -/
structure State where
  /-- The commands that wait, first in first out. -/
  pending : List Instr
  /-- The current value of every register bit that is not RW, and the active value of every RW bit, by BAR0 offset; sparse against the reset values. -/
  cur : List (Nat × Word)
  /-- The pending value of every RW bit (R36), likewise sparse. -/
  pnd : List (Nat × Word)
  /-- The values that the frame-paced blocks latched (R62), likewise sparse. -/
  lat : List (Nat × Word)
  /-- The pages with SHADOW_STATE.PENDING set (R42), by page base. -/
  dirty : List Nat
  /-- The occurrence queues that are not at reset, by page base (R46). -/
  occ : List (Nat × OccQueue)
  /-- Event delivery (R50-R54). -/
  evt : EvtState
  /-- Time (R24-R28); a COLD reset leaves 60 Hz and SYSTIME 0 (R27). -/
  tm : TimeState
  /-- Commits, fabric commits and snapshots. -/
  cm : CommitState
  /-- Roles, keys, sealed content, debug (20_security.md). -/
  sec : SecState
  /-- What left the block, oldest first (the model's own field). -/
  out : List Out
  /-- The host pool of HBM by BAR2 offset (R17, R18); sparse against 0. -/
  mem : List Host.Cell
  /-- Draws made of Config.freeValue (the model's own field). -/
  freeCount : Nat
  /-- The lease table: entry index 0-4,095 to entry (R85). -/
  leases : List (Nat × LeaseEntry)
  /-- The INGEST streams that are not at rest (R78). -/
  ing : List (Nat × IngestStream)
  /-- The work areas closed to writers (R154, R237): encode channel c at key c, decode stream d at key 128 + d; base and size in 64 KiB units. -/
  areas : List (Nat × (Nat × Nat))
  /-- Ethernet, stream transport and PTP. -/
  net : NetState
  /-- Egress scheduling. -/
  sch : SchedState
  /-- The packets discarded in place of transmission, with their start instants, that the replay window of R404 may need, oldest first. -/
  shadow : List (Nat × TxPacket)
  /-- The moored pair. -/
  mate : MateState
  /-- The reference input and the steering of SYSTIME. -/
  ref : RefState
  /-- Composition, colour and the still pool. -/
  cmp : ComposeState
  /-- The DEC streams that are not at rest. -/
  dec : List (Nat × DecStream)
  /-- Scan-out, calibration and the tile lanes. -/
  scn : ScanState
  /-- Serial lanes: wide lane n at key n, tile lane n at key 128 + n. -/
  serial : List (Nat × LaneState)
  /-- Encoding. -/
  enc : EncState
  /-- The firmware mailbox. -/
  mbx : MbxState
  /-- The Unuarvo fabric and the link layer of the mooring ports. -/
  fab : FabState
  /-- The audio ports that are not at rest. -/
  aud : List (Nat × AudPort)
  /-- The check-value units. -/
  cvu : List (Nat × CvuUnit)
  /-- Power, reset and boot. -/
  pow : PowState
  deriving DecidableEq, Repr

/-- The block right after a COLD reset: every register at the reset value its table states (the stores are empty), and
the hidden state as assumption log 8 lists it. -/
def State.reset : State where
  pending := []
  cur := []
  pnd := []
  lat := []
  dirty := []
  occ := []
  evt := {}
  tm := {}
  cm := {}
  sec := {}
  out := []
  mem := []
  freeCount := 0
  leases := []
  ing := []
  areas := []
  net := {}
  sch := {}
  shadow := []
  mate := {}
  ref := {}
  cmp := {}
  dec := []
  scn := {}
  serial := []
  enc := {}
  mbx := {}
  fab := {}
  aud := []
  cvu := []
  pow := {}

end Sys2Proof.Machine
end

