-- ==== Sys2Proof/Machine/Ops.lean ====
section
/-!
DEFINITION. The operations every meaning shares: reading and writing registers, roles and rights, occurrences, faulted
accesses, the host pool, outputs and free values.
-/

namespace Sys2Proof.Machine

/-- The instance `i` of a page type. -/
abbrev pg (t : PageType) (i : Nat := 0) : Page := ⟨t, i⟩

/-! Registers (R36). `rd` reads the current or active value, `rdP` the pending one, `rdL` the one latched. -/

/-- The word kept for a register: its current value, RW bits active. -/
def State.word (s : State) (p : Page) (off : Nat) : Word := tget (resetOf (pageBase p + off)) s.cur (pageBase p + off)

/-- The pending word of a register. -/
def State.wordP (s : State) (p : Page) (off : Nat) : Word := tget (resetOf (pageBase p + off)) s.pnd (pageBase p + off)

/-- The latched word of a register (R62). -/
def State.wordL (s : State) (p : Page) (off : Nat) : Word := tget (resetOf (pageBase p + off)) s.lat (pageBase p + off)

/-- A field's current or active value. -/
def State.rd (s : State) (p : Page) (f : Field) : Nat := fget (s.word p f.off) f.hi f.lo

/-- A field's pending value. -/
def State.rdP (s : State) (p : Page) (f : Field) : Nat := fget (s.wordP p f.off) f.hi f.lo

/-- A field's latched value. -/
def State.rdL (s : State) (p : Page) (f : Field) : Nat := fget (s.wordL p f.off) f.hi f.lo

/-- Replace a current word. -/
def State.setWord (s : State) (p : Page) (off : Nat) (w : Word) : State :=
  { s with cur := tput (resetOf (pageBase p + off)) s.cur (pageBase p + off) w }

/-- Replace a pending word. -/
def State.setWordP (s : State) (p : Page) (off : Nat) (w : Word) : State :=
  { s with pnd := tput (resetOf (pageBase p + off)) s.pnd (pageBase p + off) w }

/-- Write a field's current value, the field's low bits kept (a wrapping count wraps). -/
def State.wr (s : State) (p : Page) (f : Field) (v : Nat) : State :=
  s.setWord p f.off (fset (s.word p f.off) f.hi f.lo v)

/-- Add to a wrapping count. -/
def State.addTo (s : State) (p : Page) (f : Field) (n : Nat) : State := s.wr p f (s.rd p f + n)

/-- Count one. -/
def State.inc (s : State) (p : Page) (f : Field) : State := s.addTo p f 1

/-- PAGE_CTL.ENABLE in its active value. -/
def State.enabled (s : State) (p : Page) : Bool := s.rd p Reg.PAGE_CTL_ENABLE = 1

/-- PAGE_CTL.ENABLE as latched by a frame-paced page (R62). -/
def State.enabledL (s : State) (p : Page) : Bool := s.rdL p Reg.PAGE_CTL_ENABLE = 1

/-- The commit group of a page (R42); a rate-control entry follows its ENC channel page (R184). -/
def State.groupOf (s : State) (p : Page) : Nat :=
  match p.ty with
  | .rcEntry => s.rd (pg .enc p.inst) Reg.PAGE_CTL_COMMIT_GROUP
  | _ => s.rd p Reg.PAGE_CTL_COMMIT_GROUP

/-- The page takes part in commits (R526, R184). DESIGN CHOICE (log 83): nothing applies the pending ENABLE of the ENC RC page, whose COMMIT_GROUP
reads 0 and has no effect; it stays pending. -/
def committing (p : Page) : Bool := p.ty ≠ .encRc && (p.ty = .rcEntry || buffered p.ty)

/-- The SYS page. -/
abbrev SYS : Page := ⟨.sys, 0⟩

/-- An arm holds a page: its group is one of the arm's, and the page did not join it after the arm (R42, R58). -/
def State.armHolds (s : State) (a : Arm) (p : Page) : Bool :=
  bit a.groups (s.groupOf p) && !a.moved.contains (if p.ty = .rcEntry then pageBase ⟨.enc, p.inst⟩ else pageBase p)

/-- The word that a register has once an arm is applied: RW bits staged, the others current. -/
def State.wordS (s : State) (a : Arm) (p : Page) (off : Nat) : Word :=
  let k := pageBase p + off
  match regDesc p off with
  | some d => BitVec.ofNat 32 (mergeBits (s.word p off).toNat (tget (resetOf k) a.staged k).toNat d.rw)
  | none => s.word p off

/-- A field as an arm stages it. -/
def State.rdS (s : State) (a : Arm) (p : Page) (f : Field) : Nat := fget (s.wordS a p f.off) f.hi f.lo

/-! Outputs and free values. -/

/-- Send something out of the block. -/
def State.emit (s : State) (o : Out) : State := { s with out := s.out ++ [o] }

/-- Send several things out of the block. -/
def State.emits (s : State) (os : List Out) : State := { s with out := s.out ++ os }

/-- The next free value of `n` bits: a value the spec leaves open (assumption log 2). -/
def State.free (s : State) (n : Nat) : Nat := Config.freeValue s.freeCount n % 2 ^ n

/-- The draw counter after one draw. -/
def State.drawn (s : State) : State := { s with freeCount := s.freeCount + 1 }

/-! Occurrences (R46, R47). -/

/-- FRAME_NO in its 48 bits. -/
def State.frameNo (s : State) : Nat := s.tm.frame % 2 ^ 48

/-- The occurrence queue of a page. -/
def State.queue (s : State) (p : Page) : OccQueue := tget {} s.occ (pageBase p)

/-- A page's occurrence queue replaced. -/
def State.setQueue (s : State) (p : Page) (q : OccQueue) : State := { s with occ := tput {} s.occ (pageBase p) q }

/-- A record's 64 bits (R46). -/
def occRecord (code sub detail : Nat) : BitVec 64 :=
  BitVec.ofNat 64 ((code % 256) <<< 56 ||| (sub % 256) <<< 48 ||| detail % 2 ^ 48)

/-- The queue after an arrival: kept where there is room among 64, else dropped and counted in OCC_LOST, which
saturates; OCC_TOTAL counts either way and wraps (R47). -/
def occPush (q : OccQueue) (r : BitVec 64) : OccQueue :=
  if q.recs.length < 64 then { q with recs := q.recs ++ [r], total := (q.total + 1) % 2 ^ 32 }
  else { q with lost := min 0xFFFF (q.lost + 1), total := (q.total + 1) % 2 ^ 32 }

/-- Record an occurrence in a page. -/
def State.occur (s : State) (p : Page) (code sub detail : Nat) : State :=
  s.setQueue p (occPush (s.queue p) (occRecord code sub detail))

/-- Record an occurrence whose detail is FRAME_NO. -/
def State.occurF (s : State) (p : Page) (code sub : Nat) : State := s.occur p code sub s.frameNo

/-- Detail of the fabric's records (R393): a node ID and FRAME_NO[31:0]. -/
def State.nodeDetail (s : State) (node : Nat) : Nat := (node % 4096) <<< 36 ||| s.frameNo % 2 ^ 32

/-! Roles and rights (R43, R450, R451, R460). -/

/-- A SERVICE session is open. -/
def State.serviceOpen (s : State) : Bool := match s.sec.session with | some d => d.service | none => false

/-- A DIAG session is open. -/
def State.diagOpen (s : State) : Bool := match s.sec.session with | some d => !d.service | none => false

/-- The role an access carries (R450); none where its path carries no role now (JTAG with no session). -/
def State.roleOf (s : State) (a : Access) : Option Role :=
  match a.path with
  | .pcie => some (if s.serviceOpen then .service else .operator)
  | .smbus => some .operator
  | .fabric _ => some .peer
  | .token _ _ => some .owner
  | .jtag => if s.serviceOpen then some .service else if s.diagOpen then some .operator else none

/-- ROLE_RIGHTS of a page at reset (R451). -/
def baseRights (p : Page) : Nat :=
  match p.ty with
  | .sec => if p.inst = 0 then 0x0E1E else if p.inst = 1 then 0x060E else if p.inst = 2 then 0x0E0E else 0x0C0E
  | .pwr | .pwrDom | .clk | .mate => 0x0E1E
  | _ => 0x1E1E

/-- The place of a page type in R34, by which an owner policy names its mask. -/
def typeIndex (t : PageType) : Nat := (pageTable.findIdx? (fun r => r.ty = t)).getD 0

/-- ROLE_RIGHTS in force: an owner policy narrows every type but SEC, and OWNER's bits are kept (R451). -/
def State.rights (s : State) (p : Page) : Nat :=
  match s.sec.policy with
  | some pol =>
    if p.ty = .sec then baseRights p
    else baseRights p &&& (pol.masks.getD (typeIndex p.ty) 0xFFFFFFFF ||| 0x0202)
  | none => baseRights p

/-- Policy flag SMBUS_RO (R460). -/
def State.smbusRo (s : State) : Bool := match s.sec.policy with | some pol => bit pol.flags 1 | none => false

/-- The access may read the page. -/
def State.mayRead (s : State) (a : Access) (p : Page) : Bool :=
  match s.roleOf a with
  | some r => bit (s.rights p) (roleBit r)
  | none => false

/-- The access may write the page: the role's WRITE bit, and neither SMBUS_RO nor a DIAG session forbids it (R450). -/
def State.mayWrite (s : State) (a : Access) (p : Page) : Bool :=
  match s.roleOf a with
  | some r =>
    bit (s.rights p) (8 + roleBit r) && !(a.path = .smbus && s.smbusRo) && !(a.path = .jtag && s.diagOpen)
  | none => false

/-- Test access is open, so that a write to a PV bit takes effect (R37): a SERVICE session is open (R469). -/
def State.testOpen (s : State) : Bool := s.serviceOpen

/-! Faulted accesses (R43-R45). -/

/-- The sub-unit that names an access path (R45). -/
def pathUnit : Path → Nat
  | .pcie => 0 | .smbus => 1 | .fabric _ => 2 | .jtag => 3 | .token u _ => u

/-- The requester's node ID in a fault's detail (R45). -/
def pathNode : Path → Nat
  | .fabric n => n
  | .token _ n => n
  | _ => 0

/-- Record a faulted register access in SYS (R45). -/
def State.faulted (s : State) (a : Access) (code : Nat) (isWrite : Bool) (addr : Nat) : State :=
  s.occur SYS code (pathUnit a.path) ((pathNode a.path % 4096) <<< 36 ||| b2n isWrite <<< 26 ||| addr % 2 ^ 26)

/-- The register that an address names, mirror half folded onto the registers: page, offset, whether in the mirror. -/
def regAt (addr : Nat) : Option (Page × Nat × Bool) :=
  match pageAt addr with
  | some p =>
    let off := addr % 0x800
    match regDesc p off with
    | some _ => some (p, off, decide (0x800 ≤ addr % 0x1000))
    | none => none
  | none => none

/-- The fault that a write meets, if any, by the order of R45. A write to a register of RO, RL or RQ bits alone is
ACCESS_RO_WRITE, but for the reserved header registers, which ignore a write in silence (R36). -/
def State.writeFault (s : State) (a : Access) (addr : Nat) : Option Nat :=
  match regAt addr with
  | none => some 0x10
  | some (p, off, mirror) =>
    if !s.mayWrite a p then some 0x11
    else if !a.full then some 0x13
    else
      match regDesc p off with
      | some d =>
        if mirror then some 0x12
        else if d.rw = 0 ∧ d.rwi = 0 ∧ d.pv = 0 ∧ d.wa = 0 ∧ ¬ (0x2C ≤ off ∧ off < 0x40) then some 0x12
        else none
      | none => some 0x10

/-- PAGE_ID, PAGE_CAP and ROLE_RIGHTS are readable by every role (R43). -/
def readableByAll (off : Nat) : Bool := off = 0x000 || off = 0x004 || off = 0x028

/-- The fault that a read meets, if any. -/
def State.readFault (s : State) (a : Access) (addr : Nat) : Option Nat :=
  match regAt addr with
  | none => some 0x10
  | some (p, off, _) => if s.mayRead a p || readableByAll off then none else some 0x11

/-- What a faulted read returns (R43, R44). -/
def faultedReadData (addr : Nat) : Word := if (pageAt addr).isSome then 0 else 0xFFFFFFFF

/-- Where a register's bits are kept: the ENC RC page's entry registers are those of the channel that RC_INDEX selects
(R184). -/
def State.home (s : State) (p : Page) (off : Nat) : Page :=
  if p.ty = .encRc ∧ 0x44 ≤ off then pg .rcEntry (s.rd p Reg.RC_RC_INDEX_CHANNEL) else p

/-- The page whose SHADOW_STATE a register of this home counts in. -/
def shadowPage (p : Page) : Page := if p.ty = .rcEntry then pg .enc p.inst else p

/-- Store a written word by the access code of each of its bits (R36, R37): RW bits become pending, RWI bits take
effect at once, PV bits only while test access is open, the others are ignored. -/
def State.store (s : State) (p : Page) (off : Nat) (v : Word) : State :=
  match regDesc p off with
  | none => s
  | some d =>
    let h := s.home p off
    let now := d.rwi ||| (if s.testOpen then d.pv else 0)
    let s1 := s.setWord h off (BitVec.ofNat 32 (mergeBits (s.word h off).toNat v.toNat now))
    if d.rw = 0 then s1
    else
      let s2 := s1.setWordP h off (BitVec.ofNat 32 (mergeBits (s1.wordP h off).toNat v.toNat d.rw))
      { s2 with dirty := sins (pageBase (shadowPage h)) s2.dirty }

/-- The PV bits of a write to a register that is a window: they take effect while test access is open (R37). -/
def State.storePv (s : State) (p : Page) (off : Nat) (v : Word) : State :=
  match regDesc p off with
  | some d => if s.testOpen then s.setWord p off (BitVec.ofNat 32 (mergeBits (s.word p off).toNat v.toNat d.pv)) else s
  | none => s

/-! The host pool (R17, R18). -/

/-- Bytes of the host pool: 92.5 GiB. -/
def poolSize : Nat := 0x1720000000

/-- One byte of the host pool. -/
def State.byteAt (s : State) (a : Nat) : Byte := tget 0 s.mem a

/-- `n` bytes from `a`. -/
def State.bytesAt (s : State) (a n : Nat) : List Byte := (List.range n).map fun i => s.byteAt (a + i)

/-- Store one byte; a byte beyond the host pool is dropped. -/
def State.putByte (s : State) (a : Nat) (b : Byte) : State :=
  if a < poolSize then { s with mem := tput 0 s.mem a b } else s

/-- Store bytes from `a` upward. -/
def State.putBytes (s : State) (a : Nat) : List Byte → State
  | [] => s
  | b :: t => (s.putByte a b).putBytes (a + 1) t

/-- The sparse memory is in canonical form: addresses strictly rising, no entry holding the 0 that an unlisted address
reads as. -/
def Memory.wf : List Host.Cell → Bool
  | [] => true
  | (_, v) :: [] => v ≠ 0
  | (a, v) :: (b, w) :: t => v ≠ 0 && a < b && Memory.wf ((b, w) :: t)

/-! Instants and outputs. -/

/-- SYSTIME reaches `t` within the beat in progress; an instant outside it leaves SYSTIME as it is (assumption
log 3). -/
def State.advance (s : State) (t : Nat) : State :=
  if s.tm.sys ≤ t ∧ t < beatStart s.tm.rate (s.tm.frame + 1) then { s with tm := { s.tm with sys := t } } else s

/-- The MATE page. -/
abbrev MATE : Page := ⟨.mate, 0⟩

/-- NODE_STATE.STATE of the FAB global page: 0 ALONE, 1 LANDING, 2 LANDED, 3 REFUSED (R390). -/
def State.nodeState (s : State) : Nat := s.rd ⟨.fab, 0⟩ ⟨0x044, 14, 12⟩

/-- The device is fenced (R73): by R71 or R72 until a fabric commit applies, and while it is refused (R378). -/
def State.isFenced (s : State) : Bool := s.cm.fenced || s.nodeState = 3

/-- The device's outputs are withheld: it is fenced (R73), or its MATE page is enabled and it does not hold the helm
with outputs enabled: ROLE is HOLDER, its takeover instant has passed and HELM_IN is not HOLD (R330, R401, R402). -/
def State.muted (s : State) : Bool :=
  s.isFenced || (s.enabled MATE &&
    !(s.mate.on && s.rd MATE Reg.MATE_HELM_STATE_ROLE = 1 && s.rd MATE Reg.MATE_HELM_STATE_HELM_IN ≠ 2))

/-- Outputs of frame `n` are withheld: the device is muted, or its fence has cleared and only frames from a later beat on leave (R73). -/
def State.mutedFor (s : State) (n : Nat) : Bool :=
  s.muted || match s.cm.resume with | some f => n < f | none => false

/-! Abortable operations (R49): OP_STATUS holds STATE in [2:0] and PROGRESS in [31:8]. -/

/-- STATE of an operation whose OP_STATUS is at `off`. -/
def State.opState (s : State) (p : Page) (off : Nat) : Nat := s.rd p ⟨off, 2, 0⟩

/-- Set STATE and PROGRESS. -/
def State.setOp (s : State) (p : Page) (off st progress : Nat) : State :=
  (s.wr p ⟨off, 2, 0⟩ st).wr p ⟨off, 31, 8⟩ progress

/-- An abort of an operation: where it runs it ends ABORTED with its progress kept, else ABORT_LATE is recorded with
the operation's index (R48, R49). -/
def State.opAbort (s : State) (p : Page) (off idx : Nat) : State :=
  if s.opState p off = 1 then s.wr p ⟨off, 2, 0⟩ 3 else s.occurF p 0x01 idx

/-- A start while RUNNING is ignored and records START_BUSY (R49); otherwise `f` starts the operation. -/
def State.opStart (s : State) (p : Page) (off idx : Nat) (f : State → State) : State :=
  if s.opState p off = 1 then s.occurF p 0x02 idx else f s

/-- The device is in DIM or leaving it (R484, R485): pixel, entropy, decode and ingest domains are DARK, tile lane drivers off. -/
def State.isDim (s : State) : Bool :=
  let st := s.rd ⟨.pwr, 0⟩ Reg.PWR_DEV_STATE
  st = 1 || st = 3

/-- Apply `f` for every element, from the first. -/
def State.each {α : Type} (s : State) (l : List α) (f : State → α → State) : State := l.foldl f s

end Sys2Proof.Machine
end

