-- ==== Sys2Proof/Machine/Tables.lean ====
section
/-!
DEFINITION. What the loadable tables hold: scaler coefficients (R110, R112), colour tables (R141), the tile map, check
rectangles, thermal entries and calibration cells (R260-R266, R269), read where nothing has been written at their reset
contents; and the ROM tables of 06_colour_tone.md.
-/

namespace Sys2Proof.Machine

/-! Scaler coefficients. -/

/-- Reset contents of a coefficient: 1,024 at horizontal tap 3 and vertical tap 2 of every phase (R110). -/
def coefReset (i : Nat) : Nat :=
  if i < 512 then (if i % 8 = 3 then 1024 else 0) else if (i - 512) % 6 = 2 then 1024 else 0

/-- Where a coefficient is kept. -/
def coefKey (scaler bank i : Nat) : Nat := (scaler * 2 + bank) * 1024 + i

/-- A coefficient's 12 bits. -/
def State.coefBits (s : State) (scaler bank i : Nat) : Nat := tget (coefReset i) s.cmp.coef (coefKey scaler bank i)

/-- A coefficient as a signed number. -/
def State.coef (s : State) (scaler bank i : Nat) : Int := sgn 12 (s.coefBits scaler bank i)

/-- The taps that a V_TAPS code uses: first and count (R112). -/
def vTaps (code : Nat) : Nat × Nat := match code with | 0 => (0, 6) | 1 => (1, 4) | _ => (2, 2)

/-- Every one of the 64 phases sums to 1,024. -/
def State.phasesSum (s : State) (scaler bank base stride first n : Nat) : Bool :=
  (List.range 64).all fun p =>
    ((List.range n).map fun t => s.coef scaler bank (base + stride * p + first + t)).sum = 1024

/-- H_VALID, V2_VALID, V4_VALID, V6_VALID of a bank (R109, R112). -/
def State.bankValid (s : State) (scaler bank : Nat) : Nat :=
  b2n (s.phasesSum scaler bank 0 8 0 8) ||| b2n (s.phasesSum scaler bank 512 6 2 2) <<< 1
    ||| b2n (s.phasesSum scaler bank 512 6 1 4) <<< 2 ||| b2n (s.phasesSum scaler bank 512 6 0 6) <<< 3

/-- A bank is valid for a V_TAPS code: its horizontal phases and the vertical ones of that tap count; a reserved code
counts as not valid (R112). -/
def State.bankUsable (s : State) (scaler bank taps : Nat) : Bool :=
  taps < 3 && bit (s.bankValid scaler bank) 0 && bit (s.bankValid scaler bank) (3 - taps)

/-! Colour tables. -/

/-- Entries of a colour table (R141); 0 for a reserved one. -/
def lutSize (table : Nat) : Nat :=
  match table with | 0 => 12288 | 1 => 107811 | 2 => 32768 | 3 => 7 | 4 => 68 | _ => 0

/-- Reset contents of a colour table. -/
def lutReset (table i : Nat) : Nat :=
  match table with
  | 0 => i % 4096 * 16 + i % 4096 / 256
  | 1 =>
    let g := i / 3
    let axis := if i % 3 = 0 then g / 1089 else if i % 3 = 1 then g / 33 % 33 else g % 33
    min 65535 (axis * 2048)
  | 2 => i % 4096 * 16 + i % 4096 / 256
  | _ => 0

/-- Where a colour table entry is kept. -/
def lutKey (raster bank table i : Nat) : Nat := ((raster * 2 + bank) * 8 + table) * 131072 + i

/-- An entry of tables 0-3. -/
def State.lut (s : State) (raster bank table i : Nat) : Nat := tget (lutReset table i) s.cmp.lut (lutKey raster bank table i)

/-- Thresholds 0 to n − 1 of a bank are not non-decreasing (R135); `n` thresholds, looking back from the last. -/
def State.threshBad (s : State) (raster bank : Nat) : Nat → Bool
  | 0 => false
  | 1 => false
  | n + 2 => s.lut raster bank 3 (n + 1) < s.lut raster bank 3 n || s.threshBad raster bank (n + 1)

/-! ROM tables of 06_colour_tone.md: the exact real value rounded to the nearest integer, halves up (R133). -/

/-- The largest n below 2^bits with `ok n`, for an `ok` that holds up to some point. -/
def bisect (ok : Nat → Bool) : Nat → Nat → Nat
  | 0, n => n
  | b + 1, n => bisect ok b (if ok (n + 2 ^ b) then n + 2 ^ b else n)

/-- The k-th root of num / den, rounded to the nearest integer, halves up: the largest n with (2n − 1)^k × den ≤ 2^k ×
num. -/
def rootRound (k num den : Nat) : Nat := bisect (fun n => (2 * n - 1) ^ k * den ≤ 2 ^ k * num) 20 0

/-- E_SDR: 65,535 × (100 × V^2.4) / 10,000 with V = i / 4,095. -/
def eSdr (i : Nat) : Nat := rootRound 5 (65535 ^ 5 * i ^ 12) (100 ^ 5 * 4095 ^ 12)

/-- G_HLG: 6,553.6 × (i / 4,095)^0.2. -/
def gHlg (i : Nat) : Nat := rootRound 5 (65536 ^ 5 * i) (10 ^ 5 * 4095)

/-- O_SDR: 65,535 × x^(1/2.4). -/
def oSdr (i : Nat) : Nat := rootRound 12 (65535 ^ 12 * i ^ 5) (4095 ^ 5)

/-- IG: min(65,535, 4,096 × (max(i, 1) / 4,095)^(−1/6)). -/
def igHlg (i : Nat) : Nat := min 65535 (rootRound 6 (4096 ^ 6 * 4095) (max i 1))

/-! The transfer functions of ITU-R BT.2100 that R137 and R140 name. Their constants are those of that Recommendation, which the spec does not
restate (PRESUMED, log 88). Powers, exponentials and logarithms are computed in fixed point with 160 fraction bits, so that each entry is the
exact value rounded under R133. -/

/-- One, in the fixed point of the transfer functions. -/
def fxOne : Nat := 2 ^ 160

/-- The series z + z³/3 + z⁵/5 + …, `n` terms from the one with exponent `k`: `t` is the power and `q` is z². -/
def artanhFrom : Nat → Nat → Nat → Nat → Nat
  | 0, _, _, _ => 0
  | n + 1, k, t, q => t / k + artanhFrom n (k + 2) (t * q / fxOne) q

/-- ln m of a fixed-point m from 1 to 2. -/
def lnUnit (m : Nat) : Nat :=
  let z := (m - fxOne) * fxOne / (m + fxOne)
  2 * artanhFrom 60 1 z (z * z / fxOne)

/-- ln 2. -/
def lnTwo : Nat := lnUnit (2 * fxOne)

/-- −ln v of a fixed-point v from 2^-160 to 1. -/
def lnNeg (v : Nat) : Nat :=
  let k := 160 - Nat.log2 v
  k * lnTwo - lnUnit (v * 2 ^ k)

/-- ln v of a fixed-point v of at least 1. -/
def lnPos (v : Nat) : Nat :=
  let k := Nat.log2 v - 160
  k * lnTwo + lnUnit (v / 2 ^ k)

/-- The series 1 + r + r²/2 + …, `n` terms from term `k` on: `t` is that term. -/
def expFrom : Nat → Nat → Nat → Nat → Nat
  | 0, _, _, _ => 0
  | n + 1, k, t, r => t + expFrom n (k + 1) (t * r / fxOne / (k + 1)) r

/-- e^−y of a fixed-point y. -/
def expNeg (y : Nat) : Nat :=
  let k := y / lnTwo + 1
  expFrom 60 0 fxOne (k * lnTwo - y) / 2 ^ k

/-- v^(p/q) of a fixed-point v from 0 to 1. -/
def powUnit (v p q : Nat) : Nat := if v = 0 then 0 else expNeg (lnNeg (min v fxOne) * p / q)

/-- 65,535 × v, rounded to the nearest integer, halves up. -/
def toEntry (v : Nat) : Nat := (65535 * v + fxOne / 2) / fxOne

/-- E_PQ: 65,535 × EOTF_PQ(V) / 10,000. -/
def ePq (i : Nat) : Nat :=
  let x := powUnit (i * fxOne / 4095) 32 2523
  toEntry (powUnit ((x - 3424 * fxOne / 4096) * fxOne / (2413 * fxOne / 128 - 2392 * x / 128)) 8192 1305)

/-- O_PQ: 65,535 × EOTF_PQ⁻¹(10,000 x). -/
def oPq (i : Nat) : Nat :=
  let y := powUnit (i * fxOne / 4095) 1305 8192
  toEntry (powUnit ((3424 * fxOne / 4096 + 2413 * y / 128) * fxOne / (fxOne + 2392 * y / 128)) 2523 32)

/-- a of OETF_HLG; b is 1 − 4 a and c is 0.5 − a ln 4 a. -/
def hlgA : Nat := 17883277 * fxOne / 10 ^ 8

/-- E_HLG: 65,535 × OETF_HLG⁻¹(V). -/
def eHlg (i : Nat) : Nat :=
  if 2 * i ≤ 4095 then rootRound 1 (65535 * i ^ 2) (3 * 4095 ^ 2)
  else
    let d := (2 * i - 4095) * fxOne / 8190
    let g := 4 * hlgA * fxOne / expNeg (d * fxOne / hlgA)
    toEntry ((g + fxOne - 4 * hlgA) / 12)

/-- O_HLG: 65,535 × OETF_HLG(x). -/
def oHlg (i : Nat) : Nat :=
  if 12 * i ≤ 4095 then rootRound 2 (65535 ^ 2 * 3 * i) 4095
  else
    let w := (12 * i * fxOne / 4095 - (fxOne - 4 * hlgA)) * fxOne / (4 * hlgA)
    toEntry (hlgA * lnPos w / fxOne + fxOne / 2)

/-- An interpolated lookup of a 4,096-entry table with a 16-bit input (R133). -/
def interp (t : Nat → Nat) (v : Nat) : Nat :=
  let i := v / 16
  let f := v % 16
  (t i * (16 - f) + t (min (i + 1) 4095) * f + 8) / 16

/-! Scan-out tables. -/

/-- A tile map entry's word: entry `e` of chiplet `x`. -/
def State.mapEntry (s : State) (x e : Nat) : List Nat := tget [] s.scn.map (x * 8192 + e)
def State.mapWord (s : State) (x e w : Nat) : Nat := (s.mapEntry x e).getD w 0

/-- The fields of a tile map entry (R262). -/
structure TileEntry where
  index : Nat
  x : Nat
  y : Nat
  w : Nat
  h : Nat
  lane : Nat
  chain : Nat
  region : Nat
  depth : Nat
  cellSize : Nat
  therm : Bool
  reserved : Nat
  enabled : Bool
  cellBase : Nat
  thermalIdx : Nat
  deriving DecidableEq, Repr

/-- A tile map entry decoded. -/
def tileEntry (i : Nat) (w : List Nat) : TileEntry :=
  let a := w.getD 0 0
  let b := w.getD 1 0
  let c := w.getD 2 0
  let d := w.getD 3 0
  { index := i, x := bits a 15 0, y := bits a 31 16, w := bits b 15 0, h := bits b 31 16, lane := bits c 9 0,
    chain := bits c 13 10, region := bits c 21 14, depth := bits c 23 22, cellSize := bits c 26 24, therm := bit c 27,
    reserved := bits c 30 28, enabled := bit c 31, cellBase := bits d 19 0, thermalIdx := bits d 31 20 }

/-- Bits per component of a DEPTH code (R262). -/
def depthBits (code : Nat) : Nat := match code with | 0 => 8 | 1 => 10 | 2 => 12 | _ => 16

/-- Cells across an entry: ceil(W / cell size) (R263). -/
def TileEntry.cellsX (e : TileEntry) : Nat := cdiv e.w (2 ^ (e.cellSize + 2))
def TileEntry.cellsY (e : TileEntry) : Nat := cdiv e.h (2 ^ (e.cellSize + 2))

/-- The entry holds cell `c`. -/
def TileEntry.hasCell (e : TileEntry) (c : Nat) : Bool := e.cellBase ≤ c && c < e.cellBase + e.cellsX * e.cellsY

/-- The identity cell: words of twelve signed 16-bit values (R266). -/
def identityCell : List Nat := [0x4000, 0, 0x4000, 0, 0x4000, 0]

/-- An active calibration cell (R265). -/
def State.cell (s : State) (c : Nat) : List Nat := tget identityCell s.scn.cells c

/-- Value `k`, 0-11, of a cell. -/
def cellValue (w : List Nat) (k : Nat) : Int := sgn 16 (w.getD (k / 2) 0 / (if k % 2 = 0 then 1 else 65536))

/-- A thermal entry's word 0 or 1 by bank and global index (R269). -/
def State.thermalWord (s : State) (bank idx w : Nat) : Nat :=
  (tget [] s.scn.thermal (idx / 2048 * 4096 + bank * 2048 + idx % 2048)).getD w 0

/-- Applied gains and temperature of a thermal entry: 65,536 until a latch moves them. -/
def State.gain (s : State) (idx : Nat) : Nat × Nat × Nat × Nat := tget (65536, 65536, 65536, 0) s.scn.gains idx

end Sys2Proof.Machine
end

