-- ==== Sys2Proof/Machine/Flags.lean ====
section
/-!
DEFINITION. The status conditions of every page (PAGE_STATUS), and the path from them to MSI-X messages, interrupt pins
and the fabric event channel (R50-R54).
-/

namespace Sys2Proof.Machine

/-- SEALED_RASTERS (R474): the rasters whose frame being composed is sealed. -/
def State.sealedRasters (s : State) : Nat :=
  ((s.cmp.rasters.filter fun e => match e.2.composed with | c :: _ => c.isSealed | [] => false).map fun e => 2 ^ e.1).sum

/-- RG_STATE.LOCK (R249, R256): FREE without a source, HOLDOVER, LOCKED once the source in use is, else ACQUIRING. -/
def State.lockNow (s : State) : Nat :=
  if s.rd SYS Reg.SYS_TIME_SRC_LOCKED = 1 then 1
  else match s.rd SYS Reg.SYS_TIME_SRC_SOURCE with | 0 => 0 | 3 => 2 | _ => 3

/-- RELEASED_FRAME (R96): FRAME_NO − 1 while no frame lease is held, else one less than the oldest frame that holds
one; 0 in frame 0. -/
def State.releasedFrame (s : State) : Nat :=
  match (s.leases.flatMap fun e => e.2.frames.map (·.2)) with
  | [] => s.frameNo - 1
  | f :: t => t.foldl min f - 1

/-- The domain of an island (R14, R21; assumption log 20). -/
def islandDomain (i : Nat) : Nat :=
  if i < 4 then 7 + i else if i < 8 then 11 else if i < 12 then 14 else if i < 16 then 12 else if i < 20 then 1
  else if i < 24 then 3 + (i - 20) else if i < 29 then 1 else if i < 31 then 13 else if i < 35 then 22 else if i < 37 then 15
  else if i = 37 then 2 else if i = 38 then 0 else 23

/-- A domain's slack state (R477). -/
def State.slack (s : State) (d : Nat) : DomSlack := tget {} s.pow.doms d

/-- The conditions of a page that follow from the rest of the state; the others are kept in the register itself. -/
def State.derivedStatus (s : State) (p : Page) : Nat :=
  match p.ty with
  | .sys =>
    b2n s.isFenced ||| b2n (s.rd SYS Reg.SYS_GROUP_ARMED ≠ 0) <<< 1
      ||| b2n (let t := s.rd SYS Reg.SYS_FAB_COMMIT_STATE_STATE; t = 1 ∨ t = 2 ∨ t = 3) <<< 2
      ||| b2n (s.rd SYS Reg.SYS_SNAP_OP_STATUS_STATE = 1) <<< 3
      ||| b2n (s.rd SYS Reg.SYS_REF_STATE_STATE = 3) <<< 4 ||| b2n (s.rd SYS Reg.SYS_REF_STATE_STATE = 4) <<< 5
      ||| b2n (s.rd SYS Reg.SYS_REF_STATE_STATE = 1) <<< 6
  | .sec =>
    match p.inst with
    | 0 =>
      let st := (s.word p 0x40).toNat
      b2n (!bit st 0) ||| b2n (bit st 1) <<< 1 ||| b2n (!bit st 3) <<< 2
    | 1 => b2n (s.rd p Reg.SEC1_KEY_OP_STATUS_STATE = 4)
    | 2 =>
      b2n (s.sealedRasters ≠ 0) ||| b2n (match s.sec.lastBlocked with | some f => s.tm.frame ≤ f + 1 | none => false) <<< 1
    | _ => b2n s.diagOpen ||| b2n s.serviceOpen <<< 1 ||| b2n (16 ≤ s.sec.failures) <<< 2
  | .compScaler => b2n (!s.bankUsable p.inst (s.rdP p Reg.SCALER_SCALER_CFG_BANK) (s.rdP p Reg.SCALER_SCALER_CFG_V_TAPS))
  | .colour =>
    b2n (s.threshBad p.inst (s.rdP p Reg.COLOUR_BCAST_CFG_BCAST_BANK) (s.rdP p Reg.COLOUR_BCAST_CFG_CURVES_M1)) <<< 2
  | .tile =>
    let ls := s.scn.lanes.filter fun e => e.1 / 448 = p.inst
    b2n (ls.any fun e => !e.2.causes.isEmpty) ||| b2n (ls.any fun e => 2 ≤ e.2.short) <<< 1
      ||| b2n (ls.any fun e => e.2.reports.any fun r => r.2.geometry || r.2.overtemp) <<< 2
  | .wide | .tileLane =>
    let w := (s.word p (if p.ty = .wide then 0x4C else 0x48)).toNat
    bits w 4 3 ||| b2n (s.enabled p && bits w 2 0 ≠ 4) <<< 2 ||| b2n (bit w 5) <<< 4
      ||| b2n (p.ty = .tileLane && bit w 6) <<< 5
  | .scan =>
    b2n (s.lockNow = 0 ∨ s.lockNow = 2)
      ||| b2n (s.rd p Reg.SCAN_RG_CFG_DIV_FOLLOW = 1 ∧ s.rd p Reg.SCAN_RG_STATE_EFF_DIV_M1 ≠ s.rd p Reg.SCAN_RG_CFG_DIVISOR_M1) <<< 2
      ||| b2n (s.rd p Reg.SCAN_CHECK_STATE_MISMATCH ≠ 0) <<< 3 ||| s.rd p Reg.SCAN_RG_STATE_LEAD_IN <<< 5
  | .net =>
    b2n (s.enabled p && s.rd p Reg.NET_PORT_STATE_LINK = 0) ||| s.rd p Reg.NET_PORT_STATE_HIGH_SER <<< 1
  | .sched =>
    b2n (s.rd p Reg.SCHED_SCHED_CFG_GATE_EN = 1 && (tget {} s.sch.ports p.inst).running)
      ||| s.rd p Reg.SCHED_GATE_STATE_SWITCH_PENDING <<< 1
  | .aud =>
    b2n (s.enabled p && s.rd p Reg.AUD_PORT_STATE_PLL_LOCK = 0)
      ||| b2n (s.rd p Reg.AUD_STREAM_CFG_TX_EN = 1 && s.rd ⟨.ingest, s.rd p Reg.AUD_STREAM_CFG_SRC_STREAM⟩ ⟨0xC, 0, 0⟩ = 1) <<< 2
  | .cvu =>
    b2n (s.rd p Reg.CVU_OP_STATUS_STATE = 1) ||| s.rd p Reg.CVU_CVU_STATE_LAST_MISMATCH <<< 1
      ||| b2n (s.rd p Reg.CVU_OP_STATUS_STATE = 4) <<< 2
  | .lease =>
    let w := s.rd p Reg.LEASE_RELEASE_WATCH_LO + s.rd p ⟨0x7C, 15, 0⟩ * 2 ^ 32
    b2n (w ≠ 0 ∧ w ≤ s.releasedFrame)
  | .netGlobal =>
    b2n (s.rd p Reg.NETG_PTP_CFG_ROLE ≠ 0 ∧ s.rd p Reg.NETG_PTP_CFG_SLAVE_ONLY = 1 ∧ s.rd p Reg.NETG_PTP_STATE_SLAVE = 0)
      ||| b2n (s.net.tx.any fun e => e.1 / 2048 = p.inst && e.2.unresolved) <<< 1
  | .schedTable =>
    b2n (s.sch.pend.any fun e => e.1 / 262144 = p.inst)
      ||| b2n (match tfind s.sch.dropFrame p.inst with | some f => s.tm.frame ≤ f + 1 | none => false) <<< 1
  | .pwr =>
    let st := s.rd p Reg.PWR_DEV_STATE
    b2n (st = 1) ||| s.rd p Reg.PWR_SUPPLY_STATE_MAIN_LOW <<< 1 ||| s.rd p Reg.PWR_SUPPLY_STATE_AUX_LOW <<< 2
      ||| b2n (sgn 16 (s.rd p Reg.PWR_THERM_CFG_THERM_WARN) ≤ sgn 16 (s.rd p ⟨0x05C, 15, 0⟩)) <<< 3
      ||| b2n (2 ≤ st) <<< 4
  | .clk => b2n (s.pow.unlocked.any fun i => (s.slack (islandDomain i)).st = 0)
  | .mbx => s.rd p Reg.MBX_BOOT_STATE_RECOVERY <<< 1 ||| s.rd p Reg.MBX_BOOT_STATE_FALLBACK <<< 2
  | .fabPort =>
    let st := s.rd p Reg.FPORT_FPORT_STATE_STATE
    b2n (s.enabled p && st ≠ 3) ||| b2n (st = 4) <<< 1 ||| b2n (st = 5) <<< 2
      ||| b2n (!(tget {} s.fab.ports p.inst).stalled.isEmpty) <<< 3
  | .fab =>
    b2n (s.nodeState = 1 || s.nodeState = 3) ||| b2n s.fab.noCoord <<< 1 ||| b2n (s.nodeState = 3) <<< 2
      ||| b2n s.fab.timeHold <<< 3 ||| b2n (s.fab.remote.any fun e => bit e.2.1 31) <<< 4
  | .mate =>
    let role := s.rd p Reg.MATE_HELM_STATE_ROLE
    let ports := s.rd p Reg.MATE_MATE_CFG % 4
    b2n (role = 1) ||| b2n ((role = 2 ∨ role = 3) ∧ s.rd p Reg.MATE_HELM_STATE_READY = 0) <<< 1
      ||| b2n (s.enabled p && s.mate.alive = 0) <<< 2
      ||| b2n (s.enabled p && ports = 3 && (s.mate.alive = 1 || s.mate.alive = 2)) <<< 3
      ||| b2n (s.enabled p && (s.rd p Reg.MATE_HELM_STATE_HELM_IN = 3 || s.rd p Reg.MATE_HELM_STATE_SENSE_FAULT = 1 ||
        s.mate.mateSense || s.mate.conflict)) <<< 4
      ||| b2n s.mate.arb.isSome <<< 5 ||| b2n (2 ≤ s.mate.vacant) <<< 6 ||| b2n s.mate.mateCritical <<< 7
  | _ => 0

/-- PAGE_STATUS (R40): the conditions, and bit 31 while the occurrence queue holds a record. -/
def State.pageStatus (s : State) (p : Page) : Nat :=
  (s.rd p Reg.PAGE_STATUS_COND ||| s.derivedStatus p) ||| b2n (!(s.queue p).recs.isEmpty) <<< 31

/-- The event source that a page feeds (R50). -/
def sourceOf (p : Page) : Nat :=
  match p.ty with
  | .sys => 0 | .sec => 1 + p.inst | .pwr => 5 | .pwrDom => 6 | .clk => 7 | .evt => 8 | .mbx => 9
  | .ingest => 10 + p.inst / 2 | .lease => 42 | .compRaster => 43 + p.inst | .compLayer => 75 + p.inst
  | .compScaler => 203 + p.inst / 12 | .stillPool => 207 | .colour => 208 + p.inst / 4 | .enc => 216 + p.inst
  | .ladder => 344 + p.inst / 4 | .encRc => 348 | .tsk => 349 | .dec => 350 + p.inst / 2 | .scan => 382 + p.inst
  | .tileMap => 414 + p.inst | .cal => 414 + p.inst | .tile => 416 + p.inst | .wide => 418 + p.inst / 4
  | .tileLane => 450 + p.inst / 28 | .net => 482 + p.inst / 4 | .netGlobal => 498 + p.inst
  | .sched => if p.inst < 32 then 500 else if p.inst < 64 then 501 else 502
  | .schedTable => 503 | .fabPort => 504 | .fab => 505 | .mate => 506 | .aud => 507 + p.inst / 4 | .cvu => 511
  | .rcEntry => 512

/-- The pages whose EVT_ENABLE is not 0. -/
def State.enabledPages (s : State) : List Page :=
  s.cur.filterMap fun e => if e.1 % 0x1000 = 0x20 then pageAt e.1 else none

/-- The event sources at level 1, ascending: a source is 1 exactly while one of its pages has an enabled status bit
(R50). -/
def State.sourcesUp (s : State) : List Nat :=
  (s.enabledPages.filter fun p => s.pageStatus p &&& s.rd p Reg.EVT_ENABLE ≠ 0).foldl
    (fun l p => sins (sourceOf p) l) []

/-- The EVT page. -/
abbrev EVT : Page := ⟨.evt, 0⟩

/-- The route byte of a source (R51). -/
def State.route (s : State) (src : Nat) : Nat :=
  bits (s.word EVT (0x80 + 4 * (src / 4))).toNat (8 * (src % 4) + 7) (8 * (src % 4))

/-- The sources with a route other than 0, ascending. -/
def State.routed (s : State) : List Nat :=
  s.cur.flatMap fun e =>
    if 0x30080 ≤ e.1 ∧ e.1 < 0x30280 then
      ((List.range 4).map fun i => (e.1 - 0x30080) + i).filter fun src => s.route src ≠ 0
    else []

/-- The level of an MSI-X vector: the OR of the sources routed to it (R52). -/
def State.vectorLevel (s : State) (up : List Nat) (v : Nat) : Bool := up.any fun src => s.route src = 0x40 + v

/-- The PCI Express pending bit of a vector: its level is 1 and it is armed (R52). -/
def State.vectorPending (s : State) (up : List Nat) (v : Nat) : Bool := s.vectorLevel up v && !s.evt.disarmed.contains v

/-- The pending bit array at BAR4 offset 0xF_1000: its two 32-bit words (R52). -/
def State.pbaWord (s : State) (k : Nat) : Nat :=
  (((List.range 32).filter fun i => s.vectorPending s.sourcesUp (32 * k + i)).map (2 ^ ·)).sum

/-- The level of interrupt pin IRQ_N_i: 1 is asserted, driven low (R53). Reserved route bits count as 0 (R51). -/
def State.pinLevel (s : State) (i : Nat) : Bool :=
  s.rd EVT Reg.EVT_EVT_CTL_PINS_ENABLE = 1 &&
    s.sourcesUp.any fun src => s.route src / 64 = 2 && s.route src % 4 = i

/-- Bit of EVT_CTL that opens the fabric event channel. -/
def State.fabEnable (s : State) : Bool := s.rd EVT Reg.EVT_EVT_CTL_FAB_ENABLE = 1

/-- Send the message of every vector whose level is 1, that is armed and not masked; sending disarms it (R52). -/
def State.sendVectors (s : State) (up : List Nat) : State :=
  let go := ((up.filter fun src => s.route src / 64 = 1).map fun src => s.route src % 64).foldl (fun l v => sins v l) []
  s.each (go.filter fun v => !(s.evt.disarmed.contains v) && s.evt.unmasked.contains v) fun t v =>
    { t.emit (.msix v) with evt := { t.evt with disarmed := sins v t.evt.disarmed } }

/-- A source's level falls due on the fabric event channel; a pending level it replaces counts in FAB_EVT_LOST
(R54). -/
def fabDueLevel (e : EvtState) (src : Nat) (lvl : Bool) : EvtState :=
  { e with fabDue := tins src lvl e.fabDue,
           fabLost := if (tfind e.fabDue src).isSome then (e.fabLost + 1) % 2 ^ 32 else e.fabLost }

/-- The levels that fall due in this cycle: every routed source where FAB_ENABLE rose or FAB_EVT_DEST changed, else
those newly routed or changed, and level 0 for those routed away; none while FAB_ENABLE is 0, when pending entries are
discarded (R54). -/
def State.fabLevels (s : State) (up : List Nat) : State :=
  if s.fabEnable then
    let now := (s.routed.filter fun src => s.route src / 64 = 3).map fun src => (src, up.contains src)
    let dest := s.rd EVT Reg.EVT_FAB_EVT_DEST % 4096
    let all := !s.evt.fabOn || dest ≠ s.evt.fabDest
    let due := (if all then now else now.filter fun e => tfind s.evt.fabSeen e.1 ≠ some e.2) ++
      (s.evt.fabSeen.filter fun e => s.route e.1 / 64 ≠ 3).map fun e => (e.1, false)
    let e1 := due.foldl (fun e d => fabDueLevel e d.1 d.2) s.evt
    { s with evt := { e1 with fabSeen := now, fabOn := true, fabDest := dest } }
  else { s with evt := { s.evt with fabDue := [], fabSeen := [], fabOn := false,
                                    fabDest := s.rd EVT Reg.EVT_FAB_EVT_DEST % 4096 } }

/-- Bring event delivery up to date after a command: levels are re-evaluated in the same cycle (R51). -/
def settle (s : State) : State :=
  let up := s.sourcesUp
  (s.sendVectors up).fabLevels up

/-- A command took its effect: event delivery follows in the same cycle. -/
def done (s : State) : Host.Outcome State Fault Refusal := .next (settle s)

/-- A command of a domain that reset or loss of power holds has no effect (R488, R500, R510); else `t` is the state after it. -/
def live (s t : State) : Host.Outcome State Fault Refusal := if s.pow.up then done t else done s

end Sys2Proof.Machine
end

