-- ==== Sys2Proof/Machine/Lease.lean ====
section
/-!
DEFINITION. Surfaces, leases and rings (04_ingest_buffers.md R83-R93, R97): formats and sizes, the lease table, the
checked writes into the host pool, and the choice of a ring slot.
-/

namespace Sys2Proof.Machine

/-- The LEASE page. -/
abbrev LEASE : Page := ⟨.lease, 0⟩

/-- Bytes per pixel of a surface format, of the luma plane for YUV420_16 (R83, R84). -/
def formatBytes (fmt : Nat) : Nat :=
  match fmt with
  | 0 => 4 | 1 => 6 | 2 => 6 | 3 => 8 | 4 => 4 | 5 => 2 | _ => 0

/-- Round up to a multiple. -/
def roundUp (a m : Nat) : Nat := cdiv a m * m

/-- Line pitch of a surface (R84). -/
def pitchOf (fmt width : Nat) : Nat := roundUp (width * formatBytes fmt) 256

/-- Size of a surface in bytes, a multiple of 64 KiB (R84). -/
def surfaceBytes (fmt width height : Nat) : Nat :=
  let p := pitchOf fmt width
  roundUp (if fmt = 5 then p * (height + cdiv height 2) else p * height) 65536

/-! The lease table (R85-R88). -/

/-- The entry is leased. -/
def LeaseEntry.leased (e : LeaseEntry) : Bool := !e.frames.isEmpty || !e.scans.isEmpty

/-- The entry is protected (R86). -/
def LeaseEntry.guarded (e : LeaseEntry) : Bool := e.leased || e.filling

/-- The entry covers host pool byte `a`. -/
def LeaseEntry.covers (e : LeaseEntry) (a : Nat) : Bool := e.base * 65536 ≤ a && a < (e.base + e.size) * 65536

/-- The lowest free index of the lease table (assumption log 9). -/
def freeIndex (t : List (Nat × LeaseEntry)) : Nat :=
  ((List.range (t.length + 1)).find? fun i => (tfind t i).isNone).getD 0

/-- The index of the entry of a surface. -/
def State.leaseIndex (s : State) (base size : Nat) : Option Nat :=
  (s.leases.find? fun e => e.2.base = base && e.2.size = size).map (·.1)

/-- The surface's entry, made where it has none or where it was RETIRED and is owned again (R85). -/
def State.leaseEnter (s : State) (base size owner stream : Nat) : State :=
  match s.leaseIndex base size with
  | some i =>
    match tfind s.leases i with
    | some e => { s with leases := tins i { e with retired := false, owner := owner, stream := stream } s.leases }
    | none => s
  | none => { s with leases := tins (freeIndex s.leases) { base := base, size := size, owner := owner, stream := stream }
                                s.leases }

/-- The entry after its reference ended: freed, or RETIRED while a lease holds it (R85). -/
def State.leaseRetire (s : State) (i : Nat) : State :=
  match tfind s.leases i with
  | some e =>
    if e.leased then { s with leases := tins i { e with retired := true, filling := false } s.leases }
    else { s with leases := tdel i s.leases }
  | none => s

/-- Retire or free the entries of a stream's ring (R93). -/
def State.leaseDropRing (s : State) (owner stream : Nat) : State :=
  s.each ((s.leases.filter fun e => e.2.owner = owner && e.2.stream = stream && !e.2.retired).map (·.1)) State.leaseRetire

/-- A frame of a raster takes a lease on a surface, for which a RETIRED entry is made where it has none (R85, R86). -/
def State.leaseTake (s : State) (base size raster frame : Nat) : State :=
  let s1 := if (s.leaseIndex base size).isSome then s
    else { s with leases := tins (freeIndex s.leases)
                              { base := base, size := size, owner := 0, stream := 0, retired := true } s.leases }
  match s1.leaseIndex base size with
  | some i =>
    match tfind s1.leases i with
    | some e =>
      { s1 with leases := tins i { e with frames := if e.frames.contains (raster, frame) then e.frames
                                                    else e.frames ++ [(raster, frame)],
                                          last := max e.last frame } s1.leases }
    | none => s1
  | none => s1

/-- Release every lease of a frame of a raster; a RETIRED entry goes with its last lease (R85, R87). -/
def State.leaseReleaseFrame (s : State) (raster frame : Nat) : State :=
  let t := s.leases.map fun e => (e.1, { e.2 with frames := e.2.frames.filter (· ≠ (raster, frame)) })
  { s with leases := t.filter fun e => !e.2.retired || e.2.leased }

/-- Release every frame lease of a raster (R87). -/
def State.leaseReleaseRaster (s : State) (raster : Nat) : State :=
  let t := s.leases.map fun e => (e.1, { e.2 with frames := e.2.frames.filter fun f => f.1 ≠ raster })
  { s with leases := t.filter fun e => !e.2.retired || e.2.leased }

/-- A check-value unit takes a scan lease on every entry its range overlaps (R86). DESIGN CHOICE (log 85): a surface that gets its entry
while the scan runs is not leased by it. -/
def State.scanTake (s : State) (unit lo len : Nat) : State :=
  { s with leases := s.leases.map fun e =>
      if e.2.base * 65536 < lo + len && lo < (e.2.base + e.2.size) * 65536
      then (e.1, { e.2 with scans := sins unit e.2.scans }) else e }

/-- A check-value unit releases its scan lease. -/
def State.scanRelease (s : State) (unit : Nat) : State :=
  let t := s.leases.map fun e => (e.1, { e.2 with scans := sdel unit e.2.scans })
  { s with leases := t.filter fun e => !e.2.retired || e.2.leased }

/-- Mark the surface at a base as being filled, or not. -/
def State.setFilling (s : State) (base size : Nat) (b : Bool) : State :=
  match s.leaseIndex base size with
  | some i =>
    match tfind s.leases i with
    | some e => { s with leases := tins i { e with filling := b } s.leases }
    | none => s
  | none => s

/-- Who writes into the host pool (R97). -/
inductive Writer where
  | pcie
  | ingest (stream : Nat)
  | decode (stream : Nat)
  | snapshot
  | firmware
  deriving DecidableEq, Repr

/-- The writer kind, as sub-unit of LEASE_VIOLATION (R97). -/
def writerKind : Writer → Nat
  | .pcie => 0 | .ingest _ => 1 | .decode _ => 2 | .snapshot => 3 | .firmware => 4

/-- The writer instance of LEASE_VIOLATION (R97). -/
def writerInst : Writer → Nat
  | .ingest i => i
  | .decode i => i
  | _ => 0

/-- The writer is the filler of the surface (R86). -/
def isFiller (w : Writer) (e : LeaseEntry) : Bool :=
  match w with
  | .ingest i => e.filling && e.owner = 1 && e.stream = i && !e.retired
  | .decode i => e.filling && e.owner = 2 && e.stream = i && !e.retired
  | _ => false

/-- A byte lies in a work area (R154, R237). -/
def inArea (areas : List (Nat × (Nat × Nat))) (a : Nat) : Bool :=
  areas.any fun r => r.2.1 * 65536 ≤ a && a < (r.2.1 + r.2.2) * 65536

/-- The work area of an encode channel, in 64 KiB units, by its grant (R154, R182). -/
def State.workArea (s : State) (c : Nat) : Option (Nat × Nat) :=
  match tfind s.enc.channels c with
  | some x => x.grant.map fun g => (g.getD 5 0 % 2 ^ 21, x.units)
  | none => none

/-- A span overlaps the work area of a channel that has coded a sealed picture since it was last admitted (R463). -/
def State.sealedWork (s : State) (lo len : Nat) : Bool :=
  s.sec.codedSealed.any fun c =>
    match s.workArea c with
    | some (b, n) => b * 65536 < lo + len && lo < (b + n) * 65536
    | none => false

/-- A span of host pool bytes overlaps sealed storage: a sealed range, or such a work area (R463). -/
def State.sealedSpan (s : State) (lo len : Nat) : Bool :=
  (s.sec.ranges.any fun e => e.2.1 * 65536 < lo + len && lo < (e.2.1 + e.2.2.1) * 65536) || s.sealedWork lo len

/-- Every sealed range that a span of host pool bytes overlaps has CLEAR_OK, and it overlaps no sealed work area (R464). -/
def State.spanClear (s : State) (lo len : Nat) : Bool :=
  (s.sec.ranges.all fun e => !(e.2.1 * 65536 < lo + len && lo < (e.2.1 + e.2.2.1) * 65536) || e.2.2.2) && !s.sealedWork lo len

/-- A work area belongs to the writer: a decode stream writes its own reference entries (R237). -/
def ownArea (w : Writer) (k : Nat) : Bool := match w with | .decode d => k = 128 + d | _ => false

/-- The byte may not be written by `w`: it lies in a protected surface that `w` does not fill (R88), or in a work area
(R154, R237). -/
def State.guardedByte (s : State) (w : Writer) (a : Nat) : Bool :=
  (s.leases.any fun e => e.2.covers a && e.2.guarded && !isFiller w e.2) || inArea (s.areas.filter fun r => !ownArea w r.1) a

/-- Writer kind and instance that a LEASE_VIOLATION at byte `a` carries (R97): a write into a decode stream's reference entries records
kind 0x00 whoever writes (R237). -/
def State.violator (s : State) (w : Writer) (a : Nat) : Nat × Nat :=
  if inArea (s.areas.filter fun r => 128 ≤ r.1) a then (0, 0) else (writerKind w, writerInst w)

/-! The still pool's runs, as writes end them (R127, R129). -/

/-- The COMP still pool page. -/
abbrev POOL : Page := ⟨.stillPool, 0⟩

/-- Hidden state of a layer. -/
def State.lay (s : State) (l : Nat) : LayerState := tget {} s.cmp.layers l
def State.setLay (s : State) (l : Nat) (x : LayerState) : State :=
  { s with cmp := { s.cmp with layers := tput {} s.cmp.layers l x } }

/-- Free a slot's run (R127). -/
def State.dropRun (s : State) (slot : Nat) : State :=
  ({ s with cmp := { s.cmp with runs := tdel slot s.cmp.runs } }).inc POOL Reg.POOL_INVALIDATED_TOTAL

/-- Blocks used of a quarter's on-die storage; of the spill region. -/
def State.quarterUsed (s : State) (q : Nat) : Nat :=
  ((s.cmp.runs.filter fun e => !e.2.spilled && e.2.quarter = q).map (·.2.blocks)).sum
def State.spillUsed (s : State) : Nat := ((s.cmp.runs.filter fun e => e.2.spilled).map (·.2.blocks)).sum

/-- The still pool page's read-only registers and levels follow the runs (R129). -/
def State.poolShown (s : State) : State :=
  let f := s.cmp.runs.filter (·.2.formed)
  let s1 := ((s.wr POOL Reg.POOL_RUNS_FORMED f.length).wr POOL Reg.POOL_POOL_USED
    ((s.cmp.runs.filter (!·.2.spilled)).map (·.2.blocks)).sum).wr POOL Reg.POOL_SPILL_USED s.spillUsed
  (s1.wr POOL ⟨0xC, 0, 0⟩ (b2n (!s.cmp.unformed.isEmpty))).wr POOL ⟨0xC, 1, 1⟩ (b2n (f.any (·.2.spilled)))

/-- An accepted write into the surface of a layer that may join a run touches it and invalidates its run (R127). -/
def State.stillWritten (s : State) (lo len : Nat) : State :=
  let reads (l : Nat) : Bool := match (s.lay l).prev with
    | some (_, _, h) => (match h.surf with | some f => f.base < lo + len && lo < f.base + f.units * 65536 | none => false)
    | none => false
  let hit := (s.cmp.layers.filter fun e => reads e.1).map (·.1)
  if hit.isEmpty then s
  else
    let gone := s.cmp.runs.filter fun e => e.2.members.any hit.contains
    let s1 := s.each (gone.map (·.1)) State.dropRun
    let all := (gone.flatMap (·.2.members)).foldl (fun l m => sins m l) hit
    let s2 := s1.each all fun t l => t.setLay l { t.lay l with touched := true, quiet := 0 }
    if gone.isEmpty then s2 else s2.poolShown

/-- The spans of a request that are written: by 64-byte blocks, those outside protected storage (R88). -/
def State.takenSpans (s : State) (w : Writer) (a n : Nat) : List (Nat × Nat) :=
  let blocks := (List.range n).foldl (fun l i => if a + i < poolSize then sins ((a + i) / 64 * 64) l else l) []
  (blocks.filter fun b => !s.guardedByte w b).map fun b => (max a b, min (a + n) (b + 64) - max a b)

/-- A checked write of one request or burst (R88, R97): the 64-byte blocks in protected storage are dropped, the others
written, and one LEASE_VIOLATION with the first dropped address is recorded. What is written ends still pool runs that read it (R127). -/
def State.writeChecked (s0 : State) (w : Writer) (a : Nat) (bytes : List Byte) : State :=
  let s := if s0.cmp.layers.isEmpty then s0 else s0.each (s0.takenSpans w a bytes.length) fun t e => t.stillWritten e.1 e.2
  let inside := (List.range bytes.length).filter fun i => a + i < poolSize
  let s1 := s.each (inside.filter fun i => !s.guardedByte w ((a + i) / 64 * 64)) fun t i => t.putByte (a + i) (bytes.getD i 0)
  match inside.find? fun i => s.guardedByte w ((a + i) / 64 * 64) with
  | some i =>
    let v := s.violator w (a + i)
    let s2 := (s1.occur LEASE 0x20 v.1 ((v.2 % 256) <<< 40 ||| (a + i) % 2 ^ 37)).inc LEASE Reg.LEASE_VIOL_TOTAL
    if w = .pcie then s2.inc LEASE Reg.LEASE_VIOL_HOST else s2.inc LEASE Reg.LEASE_VIOL_ENGINE
  | none => s1

/-! Rings (R92). -/

/-- Base of a slot in bytes. -/
def Ring.slotBase (r : Ring) (i : Nat) : Nat := r.base + i * r.slotBytes

/-- A slot is protected: its surface is leased or being filled. -/
def State.slotGuarded (s : State) (r : Ring) (i : Nat) : Bool :=
  s.leases.any fun e => e.2.base = r.slotBase i / 65536 && e.2.size = r.slotBytes / 65536 && e.2.guarded

/-- Rank of a slot: the publication order of the frame it holds, 0 for none. -/
def Ring.rank (r : Ring) (i : Nat) : Nat := tget 0 r.order i

/-- The first of a list with the least key. -/
def leastBy (key : Nat → Nat) : List Nat → Option Nat
  | [] => none
  | x :: t =>
    match leastBy key t with
    | some y => if key x ≤ key y then some x else some y
    | none => some x

/-- The slot of a new fill (R92): slot and whether it overwrites the newest; none where every slot is protected. -/
def State.chooseSlot (s : State) (r : Ring) : Option (Nat × Bool) :=
  let free := (List.range r.slots).filter fun i => !s.slotGuarded r i
  match leastBy r.rank (free.filter fun i => some i ≠ r.newest) with
  | some i => some (i, false)
  | none =>
    match r.newest with
    | some i => if free.contains i then some (i, true) else none
    | none => none

/-- The ring once a slot's fill begins: the slot's former frame is gone. -/
def Ring.begin (r : Ring) (i : Nat) : Ring :=
  { r with fill := some i, order := tdel i r.order, newest := if r.newest = some i then none else r.newest }

/-- The ring once the fill is abandoned. -/
def Ring.abandon (r : Ring) : Ring := { r with fill := none }

/-- The ring once the fill is published. -/
def Ring.publish (r : Ring) : Ring :=
  match r.fill with
  | some i => { r with fill := none, newest := some i, order := tins i r.nextOrder r.order, nextOrder := r.nextOrder + 1 }
  | none => r

/-- The surface of a slot, in 64 KiB units: base and size. -/
def Ring.surface (r : Ring) (i : Nat) : Nat × Nat := (r.slotBase i / 65536, r.slotBytes / 65536)

end Sys2Proof.Machine
end

