-- ==== Sys2Proof/Machine/Ingest.lean ====
section
/-!
DEFINITION. INGEST streams (04_ingest_buffers.md R78-R82, R91-R95; 18_audio.md R431): what a received packet does to its
stream and ring, publication, restarts, and the checks of a commit.
-/

namespace Sys2Proof.Machine

/-- The values a check reads: field of a page (R59, R103). -/
abbrev Values := Page → Field → Nat

/-- One failed check: the pages that enter it, the pages of the kind the chapter names as the one that fails (empty: no
kind is named), and the reason code (R59, R67). -/
structure Charge where
  pages : List Page
  named : List Page := []
  reason : Nat
  deriving DecidableEq, Repr

/-- A failed check of one page. -/
def charge1 (p : Page) (bad : Bool) (reason : Nat) : List Charge := if bad then [{ pages := [p], reason := reason }] else []

/-- INGEST stream `i`. -/
abbrev ING (i : Nat) : Page := ⟨.ingest, i⟩

/-- Hidden state of a stream. -/
def State.stream (s : State) (i : Nat) : IngestStream := tget {} s.ing i

/-- Hidden state of a stream replaced. -/
def State.setStream (s : State) (i : Nat) (x : IngestStream) : State := { s with ing := tput {} s.ing i x }

/-- Surface format of a stream's SAMPLING (R83). -/
def samplingFormat (v : Nat) : Nat := if v = 0 then 0 else if v = 1 then 1 else 2

/-- Samples per pixel of a format in a packet. -/
def formatSamples (fmt : Nat) : Nat := if fmt = 0 then 2 else if fmt = 3 then 4 else 3

/-- Stride of an AUDIO ring record: 32 + 192 × C bytes rounded up to 64 (R431). -/
def audioStride (channels : Nat) : Nat := roundUp (32 + 192 * channels) 64

/-- The bytes a stream's ring occupies (R84, R94, R431); a COMPRESSED stream has no ring. -/
def ingestExtent (v : Values) (i : Nat) : Nat :=
  let p := ING i
  let n := v p Reg.INGEST_RING_CFG % 32
  match v p Reg.INGEST_STREAM_CFG_KIND with
  | 0 => n * surfaceBytes (samplingFormat (v p Reg.INGEST_FORMAT_SAMPLING)) (v p Reg.INGEST_GEOMETRY_WIDTH)
          (v p Reg.INGEST_GEOMETRY_HEIGHT)
  | 1 => roundUp (16 * n * audioStride (v p Reg.INGEST_GEOMETRY % 128)) 65536
  | 2 => n * 65536
  | _ => 0

/-- Base of a stream's ring in bytes. -/
def ingestBase (v : Values) (i : Nat) : Nat := v (ING i) Reg.INGEST_RING_BASE % 2 ^ 21 * 65536

/-- Two extents overlap: some unit lies in both. An empty extent, as of a COMPRESSED stream, which has no ring, overlaps none. -/
def overlaps (a la b lb : Nat) : Bool := max a b < min (a + la) (b + lb)

/-- The checks of R79 that concern one enabled stream alone. -/
def ingestFieldChecks (v : Values) (i : Nat) : List Charge :=
  let p := ING i
  let kind := v p Reg.INGEST_STREAM_CFG_KIND
  let w := v p Reg.INGEST_GEOMETRY_WIDTH
  let h := v p Reg.INGEST_GEOMETRY_HEIGHT
  let n := v p Reg.INGEST_RING_CFG % 32
  let ch := v p Reg.INGEST_GEOMETRY % 128
  charge1 p (v p Reg.INGEST_FORMAT_SAMPLING > 2 || v p Reg.INGEST_FORMAT_DEPTH > 2
      || v p Reg.INGEST_FORMAT_COLORIMETRY > 2 || v p Reg.INGEST_FORMAT_TCS > 2 || v p Reg.INGEST_FORMAT_RANGE = 3
      || v p Reg.INGEST_FORMAT_RATE > 13 || (kind = 3 && v p Reg.INGEST_STREAM_CFG_TRANSPORT = 3)) 0x01 ++
  charge1 p (kind = 0 && (w < 64 || w > 16384 || h < 64 || h > 8640
      || (v p Reg.INGEST_FORMAT_SAMPLING = 0 && w % 2 = 1))) 0x01 ++
  charge1 p (kind = 1 && (ch = 0 || ch > 64)) 0x01 ++
  charge1 p (n < 3 || n > 16) 0x01 ++
  charge1 p (kind ≠ 3 && ingestBase v i + ingestExtent v i > poolSize) 0x10

/-- Bytes per second that an enabled VIDEO stream writes, times 1,001 (R79). -/
def ingestRate (v : Values) (i : Nat) : Nat :=
  let p := ING i
  let nd := rateND (v p Reg.INGEST_FORMAT_RATE)
  if nd.2 = 0 then 0
  else v p Reg.INGEST_GEOMETRY_WIDTH * v p Reg.INGEST_GEOMETRY_HEIGHT
    * formatBytes (samplingFormat (v p Reg.INGEST_FORMAT_SAMPLING)) * (nd.1 * 1001 / nd.2)

/-- The enabled streams of a set of values. -/
def enabledOf (v : Values) (t : PageType) (n : Nat) : List Nat :=
  (List.range n).filter fun i => v ⟨t, i⟩ Reg.PAGE_CTL_ENABLE = 1

/-- The ingest budget of one lane I/O chiplet: at most 165 GB/s of VIDEO (R79). -/
def ingestBudget (v : Values) (io : Nat) : List Charge :=
  let on := (enabledOf v .ingest 64).filter fun i => i / 32 = io && v (ING i) Reg.INGEST_STREAM_CFG_KIND = 0
  if (on.map (ingestRate v)).sum > 165000000000 * 1001 then [{ pages := on.map fun i => ING i, reason := 0x0F }] else []

/-! Packets. -/

/-- `a` is later than `b` in modulo 2³² serial order (R82). -/
def laterTs (a b : Nat) : Bool := let d := (a + 2 ^ 32 - b % 2 ^ 32) % 2 ^ 32; 1 ≤ d && d < 2 ^ 31

/-- The pixels of a line covered from pixel 0 on, by runs (first, count); `n` bounds the search. -/
def coveredTo (runs : List (Nat × Nat)) : Nat → Nat → Nat
  | 0, x => x
  | n + 1, x =>
    match runs.find? fun r => r.1 ≤ x && x < r.1 + r.2 with
    | some r => coveredTo runs n (r.1 + r.2)
    | none => x

/-- The line has every pixel of the active width. -/
def lineDone (runs : List (Nat × Nat × Nat)) (width line : Nat) : Bool :=
  let rs := (runs.filter fun r => r.1 = line).map (·.2)
  width ≤ coveredTo rs rs.length 0

/-- Leading lines complete, from line `l` on, at most `n` more. -/
def linesFrom (runs : List (Nat × Nat × Nat)) (width : Nat) : Nat → Nat → Nat
  | 0, l => l
  | n + 1, l => if lineDone runs width l then linesFrom runs width n (l + 1) else l

/-- A frame that is being composed follows fill `k` of stream `i` (R91). -/
def State.followed (s : State) (i k : Nat) : Bool :=
  s.cmp.rasters.any fun e => match e.2.composed with
    | c :: _ => c.shown.any fun h => h.following && h.fill = k && bits (h.geo.headD 0) Reg.LAYER_LAYER_CFG_STREAM.hi Reg.LAYER_LAYER_CFG_STREAM.lo = i
    | [] => false

/-- End the fill in progress without publication (R82, R93). -/
def State.abandonFill (s : State) (i : Nat) : State :=
  let x := s.stream i
  let s1 := match x.ring.fill with
    | some k => s.setFilling (x.ring.surface k).1 (x.ring.surface k).2 false
    | none => s
  let kept := x.abandoned.filter fun e => s.followed i e.1
  let ab := match x.ring.fill with
    | some _ => tins x.fills (s.rd (ING i) Reg.INGEST_PROGRESS_LINES_DONE) kept
    | none => kept
  (s1.setStream i { x with ring := x.ring.abandon, fillTs := none, dropping := false, runs := [], marker := false,
                           abandoned := ab }).wr (ING i) Reg.INGEST_NEWEST_FILLING 0

/-- Start a fill with timestamp `ts` (R82, R92): an incomplete predecessor is abandoned and recorded. -/
def State.startFill (s : State) (i ts : Nat) : State :=
  let p := ING i
  let x0 := s.stream i
  let s0 := match x0.ring.fill with
    | some k => ((s.abandonFill i).occurF p 0x21 k).inc LEASE Reg.LEASE_INCOMPLETE_TOTAL
    | none => s.abandonFill i
  let x := s0.stream i
  match s0.chooseSlot x.ring with
  | some (k, reuse) =>
    let s1 := if reuse then ((s0.occurF p 0x20 k).inc LEASE Reg.LEASE_NO_SURFACE_TOTAL).wr p Reg.INGEST_NEWEST_VALID 0 else s0
    let fm := tins k (s.word p 0x44).toNat x.formats
    let s2 := (s1.setStream i { x with ring := x.ring.begin k, fillTs := some ts, lastTs := some ts, formats := fm, fills := x.fills + 1,
                                       begunAs := ((s.word p 0x40).toNat, (s.word p 0x4C).toNat) }).setFilling
      (x.ring.surface k).1 (x.ring.surface k).2 true
    (((s2.wr p Reg.INGEST_NEWEST_FILL_SLOT k).wr p Reg.INGEST_NEWEST_FILLING 1).wr p Reg.INGEST_PROGRESS_LINES_DONE 0).wr p
      ⟨0xC, 3, 3⟩ 0
  | none =>
    (((s0.setStream i { x with fillTs := some ts, lastTs := some ts, dropping := true }).occurF p 0x20 0xFF).inc LEASE
      Reg.LEASE_NO_SURFACE_TOTAL).wr p ⟨0xC, 3, 3⟩ 1

/-- The bytes of a segment's samples, MSB-aligned in 16-bit containers (R83). -/
def segmentBytes (depth : Nat) (samples : List Nat) : List Byte :=
  samples.flatMap fun v => leBytes 2 (v * 2 ^ (16 - depth) % 65536)

/-- Every byte of a span of a stream's surface is written, not dropped (R82, R88). -/
def State.takesSpan (s : State) (i a n : Nat) : Bool :=
  (List.range n).all fun j => a + j < poolSize && !s.guardedByte (.ingest i) ((a + j) / 64 * 64)

/-- The pixel runs of a segment whose bytes are all written: line, first pixel, pixels (R82). -/
def State.takenRuns (s : State) (i a bpp line off n : Nat) : List (Nat × Nat × Nat) :=
  if s.takesSpan i a (n * bpp) then [(line, off, n)]
  else ((List.range n).filter fun k => s.takesSpan i (a + k * bpp) bpp).map fun k => (line, off + k, 1)

/-- Place one segment in the surface of the fill (R82), by DEPTH as it stood at the fill's start (R93). -/
def State.placeSegment (s : State) (i : Nat) (g : VideoSegment) : State :=
  let p := ING i
  let x := s.stream i
  let fmt := samplingFormat (s.rd p Reg.INGEST_FORMAT_SAMPLING)
  let w := s.rd p Reg.INGEST_GEOMETRY_WIDTH
  match x.ring.fill with
  | some k =>
    let a := x.ring.slotBase k + g.line * pitchOf fmt w + g.offset * formatBytes fmt
    let depth := bits (tget (s.word p 0x44).toNat x.formats k) Reg.INGEST_FORMAT_DEPTH.hi Reg.INGEST_FORMAT_DEPTH.lo
    let s1 := s.writeChecked (.ingest i) a (segmentBytes (8 + 2 * depth) g.samples)
    s1.setStream i { x with runs := x.runs ++ s.takenRuns i a (formatBytes fmt) g.line g.offset (g.samples.length / formatSamples fmt) }
  | none => s

/-- A VIDEO packet of stream `i` that passed classification (R80, R82). DESIGN CHOICE (log 85): of a packet that meets several conditions of
R80 one occurrence is recorded, in the order field bit, packet format, geometry. -/
def State.videoPacket (s : State) (i : Nat) (k : RtpPacket) (bytes : Nat) (segs : List VideoSegment) : State :=
  let p := ING i
  let fmt := samplingFormat (s.rd p Reg.INGEST_FORMAT_SAMPLING)
  let w := s.rd p Reg.INGEST_GEOMETRY_WIDTH
  let h := s.rd p Reg.INGEST_GEOMETRY_HEIGHT
  if segs.any (·.field) then s.occurF p 0x22 1
  else if segs.length > 3 || bytes > 8960 then s.occurF p 0x22 2
  else if segs.any fun g => g.line ≥ h || g.offset + g.samples.length / formatSamples fmt > w then s.occurF p 0x22 0
  else
    let x := s.stream i
    let isNew := match x.lastTs with | some t => laterTs k.ts t | none => true
    let s1 := if isNew then s.startFill i k.ts else s
    let x1 := s1.stream i
    if x1.fillTs = some k.ts && !x1.dropping then
      let s2 := s1.each segs fun t g => t.placeSegment i g
      let x2 := s2.stream i
      let s3 := s2.setStream i { x2 with marker := x2.marker || k.marker }
      s3.wr p Reg.INGEST_PROGRESS_LINES_DONE (linesFrom x2.runs w h 0)
    else s1

/-- A block record (R430): header and sample words of four bytes, little-endian. `first` is the grid count of its first frame;
`id` holds bytes 28-31. -/
def blockRecord (first mask0 flags change mask seq id : Nat) (words : List (List Nat)) : List Byte :=
  let a := first * 1000000000 * 65536 / 48000
  leBytes 8 (a / 65536) ++ leBytes 2 a ++ leBytes 2 words.length ++ leBytes 4 mask0 ++ leBytes 2 flags ++ leBytes 2 change ++
    leBytes 4 mask ++ leBytes 4 seq ++ leBytes 4 id ++ words.flatMap fun f => f.flatMap fun w => leBytes 4 w

/-- Records of an AUDIO stream's ring (R431). -/
def State.audioSlots (s : State) (i : Nat) : Nat := 16 * max 1 (s.rd (ING i) Reg.INGEST_RING_CFG % 32)
def State.audioChannels (s : State) (i : Nat) : Nat := s.rd (ING i) Reg.INGEST_GEOMETRY % 128

/-- Where the record at a rotation position lies. -/
def State.audioRecordAt (s : State) (i pos : Nat) : Nat :=
  s.rd (ING i) Reg.INGEST_RING_BASE % 2 ^ 21 * 65536 + pos % s.audioSlots i * audioStride (s.audioChannels i)

/-- The record of block `b` of an AUDIO stream is written (R431): samples that have not come are 0 and set GAP. An ingest stream
has no mask, so the mask fields are free values. -/
def State.audioRecord (s : State) (i b : Nat) : State :=
  let x := s.stream i
  let ch := s.audioChannels i
  let up := if bit (s.rd (ING i) Reg.INGEST_GEOMETRY) 9 then 65536 else 256
  let have' (k : Nat) : Option (List Nat) := tfind x.samples (48 * b + k)
  let words := (List.range 48).map fun k => match have' k with
    | some f => (List.range ch).map fun c => f.getD c 0 * up % 2 ^ 32
    | none => List.replicate ch 0
  let gap := (List.range 48).any fun k => (have' k).isNone
  let m0 := s.free 32
  let m1 := s.drawn.free 32
  let bytes := blockRecord (48 * b) m0 (b2n gap <<< 1) 0 m1 x.audioSeq (i ||| 256) words
  let s1 := s.drawn.drawn.writeChecked (.ingest i) (s.audioRecordAt i x.rotation) bytes
  s1.setStream i { x with rotation := x.rotation + 1, audioSeq := (x.audioSeq + 1) % 2 ^ 32, audioNext := some (b + 1),
                          samples := x.samples.filter fun e => 48 * (b + 1) ≤ e.1 }

/-- Every record up to block `b` is written in rotation; blocks of which nothing is kept by the end count without being
formed. -/
def State.audioUpTo (s : State) (i b : Nat) : State :=
  let x := s.stream i
  let n0 := x.audioNext.getD b
  let skip := (b + 1 - n0) - s.audioSlots i
  let s1 := if skip = 0 then s
    else s.setStream i { x with rotation := x.rotation + skip, audioSeq := (x.audioSeq + skip) % 2 ^ 32, audioNext := some (n0 + skip) }
  s1.each ((List.range (b + 1 - (n0 + skip))).map (n0 + skip + ·)) fun t k => t.audioRecord i k

/-- An AUDIO packet (R94, R431): its samples are kept by grid count from the packet's timestamp on; a block whose 48 samples have
all come is written with every block before it (assumption log 40). -/
def State.audioPacket (s : State) (i : Nat) (first : Nat) (frames : List (List Nat)) : State :=
  let x := s.stream i
  let x0 := if x.audioNext.isNone then { x with audioNext := some (first / 48), audioFirst := first / 48 } else x
  let low := 48 * x0.audioNext.getD 0
  let t := (List.range frames.length).foldl
    (fun t k => if low ≤ first + k then tins (first + k) (frames.getD k []) t else t) x0.samples
  let s1 := s.setStream i { x0 with samples := t }
  let last := (first + frames.length) / 48
  let whole := (List.range (last + 1 - first / 48)).filter fun k =>
    low ≤ 48 * (first / 48 + k) && (List.range 48).all fun j => (tfind t (48 * (first / 48 + k) + j)).isSome
  match whole.getLast? with
  | some k => s1.audioUpTo i (first / 48 + k)
  | none => s1

/-- The word of channel `ch` of grid sample `g` as an AUDIO stream's ring holds it (R431, R432): none where it has not been
written, or is no longer there. -/
def State.audioSample (s : State) (i g ch : Nat) : Option Nat :=
  let x := s.stream i
  let b := g / 48
  match x.audioNext with
  | some n =>
    if x.audioFirst ≤ b && b < n && n ≤ b + s.audioSlots i && n ≤ b + x.rotation then
      let a := s.audioRecordAt i (x.rotation - (n - b)) + 32 + (g % 48 * s.audioChannels i + ch) * 4
      some (if ch < s.audioChannels i then leNat (s.bytesAt a 4) else 0)
    else none
  | none => none

/-- An ANC packet (R94): one 64 KiB ring entry per frame, in strict rotation; a packet with the marker ends the
frame. DESIGN CHOICE (log 85): a frame whose marker is lost ends with the first packet of another timestamp, keeps its entry and is not
published. -/
def State.ancPacket (s : State) (i : Nat) (k : RtpPacket) (bytes : List Byte) : State :=
  let p := ING i
  let x := s.stream i
  let isNew := x.fillTs ≠ some k.ts
  let n := max 1 (s.rd p Reg.INGEST_RING_CFG % 32)
  let x1 := if isNew then { x with fillTs := some k.ts, ancBytes := 0,
                                   rotation := if x.fillTs.isSome then (x.rotation + 1) % n else x.rotation } else x
  let base := s.rd p Reg.INGEST_RING_BASE % 2 ^ 21 * 65536 + x1.rotation % n * 65536
  let s1 := s.writeChecked (.ingest i) (base + x1.ancBytes) (bytes.take (65536 - x1.ancBytes))
  let x2 := { x1 with ancBytes := x1.ancBytes + bytes.length }
  if k.marker then
    (s1.setStream i { x2 with rotation := (x2.rotation + 1) % n, fillTs := none, ancBytes := 0,
                              ancOut := x2.ancOut ++ [min 65536 x2.ancBytes] }).inc p
      Reg.INGEST_PROGRESS_PUBLISHED
  else s1.setStream i x2

/-- The parts of a COMPRESSED packet (R94): NAL units complete as their fragments come in order; `gap` says that packets are missing
before this one, which loses the NAL unit in fragments. With TRANSPORT 2 only the packets of GEOMETRY's PID count. -/
def State.codedParts (s : State) (i : Nat) (gap : Bool) (parts : List CodedPart) : State :=
  let p := ING i
  let mine := parts.filter fun c => s.rd p Reg.INGEST_STREAM_CFG_TRANSPORT ≠ 2 || c.pid = s.rd p Reg.INGEST_GEOMETRY % 8192
  let x := s.stream i
  s.setStream i (mine.foldl (fun (y : IngestStream) c =>
    if !c.first && y.fragment ≠ some c.nal then { y with fragment := none }
    else if c.last then { y with fragment := none, coded := y.coded ++ [c.nal] }
    else { y with fragment := some c.nal }) { x with fragment := if gap then none else x.fragment })

/-- A merged packet of a stream by sequence number (R81): with DUAL_PATH a second copy, or one more than 4,096 behind
the newest, is dropped (none). DESIGN CHOICE (log 85): extended sequence numbers are compared as numbers that never wrap. -/
def seqAccept (dual : Bool) (x : IngestStream) (seq : Nat) : Option IngestStream :=
  if dual then
    let newest := x.seqNewest.getD seq
    if seq + 4096 < newest || x.seqSeen.contains seq then none
    else
      let top := max newest seq
      some { x with seqNewest := some top, seqSeen := sins seq (x.seqSeen.filter fun q => top ≤ q + 4096) }
  else some { x with seqNewest := some seq }

/-- The packet belongs to the fill that a VIDEO stream has in progress. -/
def State.inFill (s : State) (i : Nat) (k : RtpPacket) : Bool :=
  let x := s.stream i
  s.rd (ING i) Reg.INGEST_STREAM_CFG_KIND = 0 && x.ring.fill.isSome && x.fillTs = some k.ts

/-- STREAM_CFG and FLOWS that hold for a packet: as they stood at the start of its fill while that is in progress, else active (R93). -/
def State.flowWords (s : State) (i : Nat) (k : RtpPacket) : Nat × Nat :=
  if s.inFill i k then (s.stream i).begunAs else ((s.word (ING i) 0x40).toNat, (s.word (ING i) 0x4C).toNat)

/-- The path, if any, on which a packet of receive flow `f` reaches stream `i` (R78, R81): false A, true B. -/
def State.pathOf (s : State) (i f : Nat) (k : RtpPacket) : Option Bool :=
  let w := s.flowWords i k
  if bits w.2 Reg.INGEST_FLOWS_FLOW_A.hi Reg.INGEST_FLOWS_FLOW_A.lo = f then some false
  else if bit w.1 2 && bits w.2 Reg.INGEST_FLOWS_FLOW_B.hi Reg.INGEST_FLOWS_FLOW_B.lo = f then some true
  else none

/-- A packet reaches enabled stream `i` on path A or B (R81, R82, R94, R95): the path's and the stream's no-signal
levels fall; DESIGN CHOICE (log 85): NO_SIGNAL falls with every packet that R81 accepts, also one that R80 or R82 then drops. In DIM, with DOMAIN_13 DARK, it is dropped (R484). `grid` is the grid count of an AUDIO packet's first sample (R431). -/
def State.ingestPacket (s : State) (i : Nat) (pathB : Bool) (grid : Nat) (k : RtpPacket) : State :=
  let p := ING i
  let dual := bit (s.flowWords i k).1 2
  let s0 := s.wr p ⟨0xC, if pathB then 2 else 1, if pathB then 2 else 1⟩ 0
  match if s.isDim then none else seqAccept dual (s0.stream i) k.seq with
  | none => s0
  | some x =>
    let gap := match (s0.stream i).seqNewest with | some q => k.seq ≠ q + 1 | none => true
    let s1 := (s0.setStream i x).wr p ⟨0xC, 0, 0⟩ 0
    match k.payload, s.rd p Reg.INGEST_STREAM_CFG_KIND with
    | .video bytes segs, 0 => s1.videoPacket i k bytes segs
    | .audio frames, 1 => s1.audioPacket i grid frames
    | .anc bytes, 2 => s1.ancPacket i k bytes
    | .coded parts, 3 => s1.codedParts i gap parts
    | _, _ => s1

/-- The frame of the fill is complete: the marker packet has come and every active line is in HBM (R82). -/
def State.fillComplete (s : State) (i : Nat) : Bool :=
  let x := s.stream i
  let p := ING i
  x.ring.fill.isSome && x.marker &&
    linesFrom x.runs (s.rd p Reg.INGEST_GEOMETRY_WIDTH) (s.rd p Reg.INGEST_GEOMETRY_HEIGHT) 0
      = s.rd p Reg.INGEST_GEOMETRY_HEIGHT

/-- Publish a complete frame (R82). -/
def State.publishFill (s : State) (i : Nat) : State :=
  let p := ING i
  let x := s.stream i
  match x.ring.fill with
  | some k =>
    if s.fillComplete i then
      let s1 := (s.setStream i { x with ring := x.ring.publish, fillTs := none, runs := [], marker := false }).setFilling
        (x.ring.surface k).1 (x.ring.surface k).2 false
      (((s1.wr p Reg.INGEST_NEWEST_NEWEST_SLOT k).wr p Reg.INGEST_NEWEST_VALID 1).wr p Reg.INGEST_NEWEST_FILLING 0).inc p
        Reg.INGEST_PROGRESS_PUBLISHED
    else s
  | none => s

/-- A stream at rest but for the count of its fills and those that a frame still follows. -/
def IngestStream.rest (x : IngestStream) : IngestStream := { fills := x.fills, abandoned := x.abandoned }

/-- Stop a stream's ring: VALID and FILLING fall, any fill is abandoned without an occurrence, entries go or are
RETIRED (R85, R93). -/
def State.ringStop (s : State) (i : Nat) : State :=
  let s1 := ((s.abandonFill i).leaseDropRing 1 i).wr (ING i) Reg.INGEST_NEWEST_VALID 0
  s1.setStream i (s1.stream i).rest

/-- Start a VIDEO stream's ring afresh with its active values (R85, R93). -/
def State.ringRestart (s : State) (i : Nat) : State :=
  let p := ING i
  let s1 := s.ringStop i
  if s.rd p Reg.INGEST_STREAM_CFG_KIND = 0 then
    let b := surfaceBytes (samplingFormat (s.rd p Reg.INGEST_FORMAT_SAMPLING)) (s.rd p Reg.INGEST_GEOMETRY_WIDTH)
      (s.rd p Reg.INGEST_GEOMETRY_HEIGHT)
    let n := s.rd p Reg.INGEST_RING_CFG % 32
    let r : Ring := { base := s.rd p Reg.INGEST_RING_BASE % 2 ^ 21 * 65536, slotBytes := b, slots := n }
    (s1.setStream i { (s1.stream i).rest with ring := r }).each (List.range n) fun t k => t.leaseEnter (r.surface k).1 (r.surface k).2 1 i
  else s1

/-- What the application of an arm does to a stream (R93, R95): `o` is the state before it. The level of a path falls once DUAL_PATH is
0, and a stream that is enabled counts for its levels from now on. -/
def State.ingestApplied (s o : State) (i : Nat) : State :=
  let p := ING i
  let same (f : Field) : Bool := s.rd p f = o.rd p f
  let u := if s.rd p Reg.INGEST_STREAM_CFG_DUAL_PATH = 1 then s else s.wr p ⟨0xC, 2, 1⟩ 0
  if !s.enabled p then (if o.enabled p then u.ringStop i else u)
  else if !o.enabled p then (u.wr p ⟨0xC, 2, 0⟩ 0).ringRestart i
  else if same Reg.INGEST_RING_BASE && same Reg.INGEST_RING_CFG && same Reg.INGEST_STREAM_CFG_KIND
      && same Reg.INGEST_GEOMETRY && same Reg.INGEST_FORMAT_SAMPLING then u
  else u.ringRestart i

/-- INGEST_FRAME_PUBLISH (R82): the complete frame of stream `i` is published. -/
def execIngestFramePublish (i : Nat) (s : State) : Host.Outcome State Fault Refusal := live s (s.publishFill i)

/-- INGEST_NO_SIGNAL (R95): two source frame periods have passed on an enabled stream without a valid packet. -/
def execIngestNoSignal (i : Nat) (s : State) : Host.Outcome State Fault Refusal :=
  live s (if s.enabled (ING i) then s.wr (ING i) ⟨0xC, 0, 0⟩ 1 else s)

/-- INGEST_PATH_DOWN (R95): with DUAL_PATH, two source frame periods have passed without a packet on one path. -/
def execIngestPathDown (i : Nat) (pathB : Bool) (s : State) : Host.Outcome State Fault Refusal :=
  live s (if s.enabled (ING i) && s.rd (ING i) Reg.INGEST_STREAM_CFG_DUAL_PATH = 1
    then s.wr (ING i) ⟨0xC, if pathB then 2 else 1, if pathB then 2 else 1⟩ 1 else s)

end Sys2Proof.Machine
end

