-- ==== Sys2Proof/Machine/Sched.lean ====
section
/-!
DEFINITION. Egress scheduling, shaping and time gates (15_traffic_scheduler.md R340-R364): tables, token buckets, queues,
gates and the selection of a port's next packet.
-/

namespace Sys2Proof.Machine

/-! Tables (R344-R347, R355). -/

/-- SCHED port `p`; SCHED table port of chiplet `x`. -/
abbrev SCH (p : Nat) : Page := ⟨.sched, p⟩
abbrev SCHT (x : Nat) : Page := ⟨.schedTable, x⟩

/-- Where an entry of a chiplet's table is kept. -/
def tblKey (x table index : Nat) : Nat := (x * 8 + table) * 32768 + index

/-- The active entry. -/
def State.schEntry (s : State) (x table index : Nat) : List Nat := tget [] s.sch.tbl (tblKey x table index)

/-- Word `w` of the active entry. -/
def State.schWord (s : State) (x table index w : Nat) : Nat := (s.schEntry x table index).getD w 0

/-- Entries of a table (R344); 0 for a reserved one. -/
def schTableSize (table : Nat) : Nat :=
  match table with
  | 0 => 2048 | 1 => 256 | 2 => 48 | 3 => 96 | 4 => 24576 | _ => 0

/-- Words of an entry that a WRITE stores; read-only words are ignored (R345). -/
def schTableWords (table : Nat) : Nat :=
  match table with
  | 0 => 6 | 1 => 5 | 2 => 6 | 3 => 4 | 4 => 2 | _ => 0

/-- The chiplet that schedules a SCHED port; a fabric port's is that of its quad (R340). -/
def State.schChip (s : State) (p : Nat) : Nat :=
  if p < 64 then p / 32 else s.rd ⟨.fabPort, p - 64⟩ Reg.FPORT_FPORT_CFG_QUAD / 16

/-- A port's index in the tables PORT, GATE_HDR and GATE_LIST (R344). -/
def schPortIndex (p : Nat) : Nat := if p < 64 then p % 32 else 32 + (p - 64)

/-- MAC rate of a NET port in Gb/s (R341, R319). -/
def macRate (mode : Nat) : Nat :=
  match mode with
  | 0 => 25 | 1 => 50 | 2 => 100 | 3 => 100 | 4 => 200 | 5 => 200 | 6 => 400 | 7 => 400 | _ => 1

/-- MAC rate per lane of a fabric port in units of 1/17 Gb/s, by lane RATE (R365): RATE 5 gives 112 × 16/17 Gb/s. -/
def laneRate (code : Nat) : Nat :=
  match code with
  | 0 => 17 | 1 => 170 | 2 => 425 | 3 => 850 | 4 => 1700 | _ => 1792

/-- A SCHED port's MAC rate in units of 1/17 Gb/s (R341, R365), by the values of the pages that it depends on. -/
def portRateOf (v : Values) (p : Nat) : Nat :=
  if p < 64 then 17 * macRate (v ⟨.net, p⟩ Reg.NET_PORT_CFG_MODE)
  else
    let f : Page := ⟨.fabPort, p - 64⟩
    let q := v f Reg.FPORT_FPORT_CFG_QUAD
    let lane := ((List.range 4).find? fun k => v ⟨.wide, 4 * q + k⟩ Reg.WL_LANE_CFG_LOGICAL = 0).getD 0
    laneRate (v ⟨.wide, 4 * q + lane⟩ Reg.WL_LANE_CFG_RATE) * 2 ^ v f Reg.FPORT_FPORT_CFG_WIDTH

/-- The pages on which a SCHED port's rate and largest frame depend. -/
def portRatePages (v : Values) (p : Nat) : List Page :=
  if p < 64 then [⟨.net, p⟩]
  else ⟨.fabPort, p - 64⟩ :: (List.range 4).map fun k => ⟨.wide, 4 * v ⟨.fabPort, p - 64⟩ Reg.FPORT_FPORT_CFG_QUAD + k⟩

/-- A SCHED port's MAC rate. -/
def State.portRate (s : State) (p : Nat) : Nat := portRateOf s.rd p

/-- Wire time of L bytes in SYSTIME units, rounded up (R341). -/
def State.wireTime (s : State) (p l : Nat) : Nat := cdiv (17 * 8 * l * 65536) (s.portRate p)

/-- L_max of a port (R348): MAX_FRAME + 20, + 32 with MACSEC; for a fabric port the largest fabric frame (R368) + 20. -/
def lmaxOf (v : Values) (p : Nat) : Nat :=
  if p < 64 then v ⟨.net, p⟩ Reg.NET_PORT_CFG_MAX_FRAME + 20 + 32 * v ⟨.net, p⟩ Reg.NET_PORT_CFG_MACSEC else 8244 + 20

/-! Token buckets (R349, R350, R352). -/

/-- The egress-scheduler cycle at a SYSTIME: one per 0.8 ns. -/
def cycleAt (t : Nat) : Nat := t * 5 / 262144

/-- A pair of buckets brought to cycle `cyc`, with an entry's CIR, PIR, CBS and PBS. -/
def refill (b : Bucket) (cir pir cbs pbs cyc : Nat) : Bucket :=
  { c := min (cbs * 156250) (b.c + cir * (cyc - b.cyc)), p := min (pbs * 156250) (b.p + pir * (cyc - b.cyc)), cyc := cyc }

/-- Buckets reset, to full or to zero as RESET_ZERO states. -/
def resetBucket (zero : Bool) (cbs pbs cyc : Nat) : Bucket :=
  if zero then { c := 0, p := 0, cyc := cyc } else { c := cbs * 156250, p := pbs * 156250, cyc := cyc }

/-- CIR, PIR, CBS, PBS of an entry of tables 0-2 (R346, R347). -/
def ratesOf (e : List Nat) : Nat × Nat × Nat × Nat :=
  (e.getD 1 0 % 2 ^ 23, e.getD 2 0 % 2 ^ 23, e.getD 3 0 % 2 ^ 24, e.getD 4 0 % 2 ^ 24)

/-- An entry's buckets at cycle `cyc`. -/
def bucketAt (b : Bucket) (e : List Nat) (cyc : Nat) : Bucket :=
  let r := ratesOf e
  refill b r.1 r.2.1 r.2.2.1 r.2.2.2 cyc

/-- L bytes conform to the peak bucket, to the committed bucket (R350). -/
def peakOk (b : Bucket) (l : Nat) : Bool := l * 156250 ≤ b.p
def commitOk (b : Bucket) (l : Nat) : Bool := l * 156250 ≤ b.c

/-- L bytes leave the buckets of a committed or an excess send (R350). -/
def spend (b : Bucket) (l : Nat) (committed : Bool) : Bucket :=
  { b with c := if committed then b.c - l * 156250 else b.c, p := b.p - l * 156250 }

/-! Queues (R346, R353). -/

/-- A queue state; a node; a port. -/
def State.queueState (s : State) (k : Nat) : QueueState := tget {} s.sch.queues k
def State.schNode (s : State) (n : Nat) : NodeState := tget {} s.sch.nodes n
def State.schPort (s : State) (p : Nat) : PortSched := tget {} s.sch.ports p

/-- Replaced. -/
def State.setQueueState (s : State) (k : Nat) (q : QueueState) : State :=
  { s with sch := { s.sch with queues := tput {} s.sch.queues k q } }
def State.setNode (s : State) (n : Nat) (x : NodeState) : State :=
  { s with sch := { s.sch with nodes := tput {} s.sch.nodes n x } }
def State.setPort (s : State) (p : Nat) (x : PortSched) : State :=
  { s with sch := { s.sch with ports := tput {} s.sch.ports p x } }

/-- The global node of a queue state (R346): NODE for A, NODE_B for B. -/
def State.nodeOf (s : State) (k : Nat) : Nat :=
  let x := k / 4096
  let w := s.schWord x 0 (k / 2 % 2048) 0
  256 * x + (if k % 2 = 0 then bits w 7 0 else bits w 15 8)

/-- The NET port of a global node. -/
def State.portOfNode (s : State) (n : Nat) : Nat := 32 * (n / 256) + bits (s.schWord (n / 256) 1 (n % 256) 0) 4 0

/-- The class of a global node. -/
def State.classOfNode (s : State) (n : Nat) : Nat := bits (s.schWord (n / 256) 1 (n % 256) 0) 7 5

/-- Wire bytes held in a queue state. -/
def backlog (q : QueueState) : Nat := (q.pkts.map (·.wire)).sum

/-- The queue states that hold packets and whose node names port `p`. -/
def State.queuesOf (s : State) (p : Nat) : List Nat :=
  (s.sch.queues.filter fun e => !e.2.pkts.isEmpty && s.portOfNode (s.nodeOf e.1) = p).map (·.1)

/-- Bytes held in the subscriber queues of a chiplet. -/
def State.bufUsed (s : State) (x : Nat) : Nat :=
  ((s.sch.queues.filter fun e => e.1 / 4096 = x).map fun e => backlog e.2).sum

/-- Wire bytes queued for a NET port. -/
def State.queuedFor (s : State) (p : Nat) : Nat := ((s.queuesOf p).map fun k => backlog (s.queueState k)).sum

/-- The least of a list, if it has one. -/
def leastOf : List Nat → Option Nat
  | [] => none
  | x :: t => some (t.foldl min x)

/-- The virtual time of an element whose backlog becomes non-empty: the larger of its own and the least of its
non-empty siblings (R354). -/
def joinVt (own : Nat) (siblings : List Nat) : Nat :=
  match leastOf siblings with
  | some m => max own m
  | none => own

/-- QUEUE_DROP: the packet is dropped whole and counted; recorded at most once per queue state per beat (R353). -/
def State.queueDrop (s : State) (k sub : Nat) : State :=
  let x := k / 4096
  let q := s.queueState k
  let s1 := (s.setQueueState k { q with drops := q.drops + 1, dropFrame := some s.tm.frame }).inc (SCHT x) Reg.SCHT_QUEUE_DROPS
  let s2 := { s1 with sch := { s1.sch with dropFrame := tins x s.tm.frame s1.sch.dropFrame } }
  if q.dropFrame = some s.tm.frame then s2
  else s2.occur (SCHT x) 0x21 sub ((k / 2 % 2048) <<< 32 ||| s.frameNo % 2 ^ 32)

/-- Virtual times when queue state `k` of node `n` gains its first packet (R354). -/
def State.joinAll (s : State) (k : Nat) : State :=
  let n := s.nodeOf k
  let p := s.portOfNode n
  let busy := (s.queuesOf p).filter (· ≠ k)
  let q := s.queueState k
  let s1 := s.setQueueState k
    { q with vt := joinVt q.vt ((busy.filter fun j => s.nodeOf j = n).map fun j => (s.queueState j).vt) }
  if busy.any fun j => s.nodeOf j = n then s1
  else
    let c := s.classOfNode n
    let x := s1.schNode n
    let sib := busy.filter fun j => s.classOfNode (s.nodeOf j) = c
    let s2 := s1.setNode n { x with vt := joinVt x.vt (sib.map fun j => (s.schNode (s.nodeOf j)).vt) }
    if busy.any fun j => s.classOfNode (s.nodeOf j) = c then s2
    else
      let y := s2.schPort p
      let v := joinVt (tget 0 y.vtClass c) (busy.map fun j => tget 0 y.vtClass (s.classOfNode (s.nodeOf j)))
      s2.setPort p { y with vtClass := tput 0 y.vtClass c v }

/-- TX_PACKET_ENQUEUE (R330, R353): a formed packet enters state A or B of its flow's queue, or is dropped. -/
def State.enqueue (s : State) (p : TxPacket) : State :=
  let x := p.flow / 2048
  let k := p.flow * 2 + b2n p.copyB
  let w0 := s.schWord x 0 (p.flow % 2048) 0
  let limit := s.schWord x 0 (p.flow % 2048) 5 % 65536
  if bits w0 31 31 = 0 || s.portOfNode (s.nodeOf k) ≠ p.port then s.queueDrop k 2
  else if backlog (s.queueState k) + p.wire > limit * 1024 then s.queueDrop k (b2n p.copyB)
  else
    let q := s.queueState k
    let s1 := if q.pkts.isEmpty then s.joinAll k else s
    let q1 := s1.queueState k
    let s2 := s1.setQueueState k { q1 with pkts := q1.pkts ++ [p] }
    let used := cdiv (s2.bufUsed x) 1024
    if s2.rd (SCHT x) Reg.SCHT_BUF_PEAK < used then s2.wr (SCHT x) Reg.SCHT_BUF_PEAK used else s2

/-! Time gates (R355-R360). Instants are SYSTIME nanoseconds. -/

/-- A gate list as the gates read it: BASE_TIME, CYCLE_NS, beat mode, and the entries (STATES, INTERVAL_NS). -/
structure GateList where
  base : Nat
  cycle : Nat
  beat : Bool
  entries : List (Nat × Nat)
  deriving DecidableEq, Repr

/-- The gate list of a bank of a port. -/
def State.gateList (s : State) (p bank : Nat) : GateList :=
  let x := s.schChip p
  let i := schPortIndex p * 2 + bank
  let n := s.schWord x 3 i 3 % 512
  { base := s.schWord x 3 i 0 + 2 ^ 32 * s.schWord x 3 i 1, cycle := s.schWord x 3 i 2 % 2 ^ 30,
    beat := bit (s.schWord x 3 i 3) 16,
    entries := (List.range n).map fun k =>
      (s.schWord x 4 (i * 256 + k) 0 % 256, s.schWord x 4 (i * 256 + k) 1 % 2 ^ 30) }

/-- The list's cycle start at or before `t`, and the next one (R356); `rate` is the beat rate code. -/
def gateCycle (g : GateList) (rate t : Nat) : Nat × Nat :=
  if g.beat then
    let n := beatAt rate (t * 65536 + 65535)
    let s (k : Nat) : Nat := beatStart rate k / 65536 + g.base
    if s n ≤ t then (s n, s (n + 1)) else (s (n - 1), s n)
  else
    let c := max 1 g.cycle
    if t < g.base then (g.base, g.base + c) else (g.base + (t - g.base) / c * c, g.base + ((t - g.base) / c + 1) * c)

/-- The list's first cycle start at or after `t` (R360). -/
def gateNext (g : GateList) (rate t : Nat) : Nat :=
  let c := gateCycle g rate t
  if t ≤ c.1 then c.1 else c.2

/-- Within a cycle, the entry in force `off` ns after its start: index, STATES, and ns left in the entry (none for the
last entry, which holds until the cycle's end). -/
def gateEntry : List (Nat × Nat) → Nat → Nat → Nat × Nat × Option Nat
  | [], i, _ => (i, 0xFF, none)
  | [e], i, _ => (i, e.1, none)
  | e :: t, i, off => if off < e.2 then (i, e.1, some (e.2 - off)) else gateEntry t (i + 1) (off - e.2)

/-- The last entry's STATES (R356, R360). -/
def lastStates (g : GateList) : Nat := ((g.entries.getLast?).map (·.1)).getD 0xFF

/-- What a port's gates show at `t`: entry, STATES, and the instant at which that may change. -/
def State.gatesAt (s : State) (p t : Nat) : Nat × Nat × Nat :=
  let y := s.schPort p
  let run (bank : Nat) : Nat × Nat × Nat :=
    let g := s.gateList p bank
    let c := gateCycle g s.tm.rate t
    let e := gateEntry g.entries 0 (t - c.1)
    (e.1, e.2.1, match e.2.2 with | some d => min (t + d) c.2 | none => c.2)
  match y.running, y.pendingStart with
  | false, none => (0, 0xFF, t + 1)
  | false, some (b, at') => if t < at' then (0, 0xFF, at') else run b
  | true, none => run y.bank
  | true, some (b, at') =>
    if at' ≤ t then run b
    else
      let g := s.gateList p y.bank
      let e := (gateCycle g s.tm.rate t)
      let last := gateNext g s.tm.rate (y.cycleStart + 1)
      if last ≤ t ∧ e.1 ≥ last then (g.entries.length - 1, lastStates g, at')
      else let r := run y.bank; (r.1, r.2.1, min r.2.2 at')

/-- The end of the window of class `c` that is open at `t` (R356): none where it stays open for `n` changes. -/
def State.windowEnd (s : State) (p c : Nat) : Nat → Nat → Option Nat
  | 0, _ => none
  | n + 1, t =>
    let g := s.gatesAt p t
    if bit g.2.1 c then s.windowEnd p c n g.2.2 else some t

/-- How many changes decide that a window is unbounded: every entry of both banks and the switch between them. -/
def gateDepth : Nat := 1100

/-- The windows of class `c` from each of the next entries, as lengths in ns; none for an unbounded one. -/
def State.windowLengths (s : State) (p c : Nat) : Nat → Nat → List (Option Nat)
  | 0, _ => []
  | n + 1, t =>
    let g := s.gatesAt p t
    (if bit g.2.1 c then (s.windowEnd p c gateDepth t).map (· - t) else some 0) :: s.windowLengths p c n g.2.2

/-- A wire time (SYSTIME units) exceeds every window of its class (R358). -/
def State.neverFits (s : State) (p c t w : Nat) : Bool :=
  (s.windowLengths p c 260 t).all fun l => match l with | some d => d * 65536 < w | none => false

/-- The gates allow a packet of class `c` and wire bytes `l` to start at SYSTIME `t` (R358, R359). -/
def State.gateAllows (s : State) (v : Values) (p c t l : Nat) : Bool :=
  if s.rd (SCH p) Reg.SCHED_SCHED_CFG_GATE_EN = 0 then true
  else
    let g := s.gatesAt p (t / 65536)
    bit g.2.1 c &&
      (match s.windowEnd p c gateDepth (t / 65536) with
       | none => true
       | some e =>
         if s.rd (SCH p) Reg.SCHED_SCHED_CFG_GUARD_MODE = 1 then t + s.wireTime p (lmaxOf v p) < e * 65536
         else t + s.wireTime p l ≤ e * 65536)

/-- GATE_ENTRY_BOUNDARY of a port at SYSTIME `t` (R356, R360): the class gates change, and a pending start takes effect
at its instant. -/
def State.gateBoundary (s0 : State) (p t : Nat) : State :=
  let s := s0.advance t
  let y := s.schPort p
  let tn := t / 65536
  let s1 :=
    match y.pendingStart with
    | some (b, at') =>
      if at' ≤ tn then
        let s2 := s.setPort p { y with running := true, bank := b, cycleStart := at', pendingStart := none }
        let s3 := (s2.wr (SCH p) Reg.SCHED_GATE_STATE_BANK b).wr (SCH p) Reg.SCHED_GATE_STATE_SWITCH_PENDING 0
        if y.running then s3.occurF (SCH p) 0x20 b else s3
      else s
    | none => s
  let g := s1.gatesAt p tn
  if s1.rd (SCH p) Reg.SCHED_SCHED_CFG_GATE_EN = 1 then
    let s2 := (s1.wr (SCH p) Reg.SCHED_GATE_STATE_OPEN g.2.1).wr (SCH p) Reg.SCHED_GATE_STATE_ENTRY g.1
    let y2 := s2.schPort p
    if y2.running && y2.pendingStart.isNone then
      s2.setPort p { y2 with cycleStart := (gateCycle (s2.gateList p y2.bank) s2.tm.rate tn).1 }
    else s2
  else s1

/-- What the application of an arm does to a SCHED port's gates (R360): `o` is the state before it. -/
def State.schPortApplied (s o : State) (p : Nat) : State :=
  let q := SCH p
  let en := s.rd q Reg.SCHED_SCHED_CFG_GATE_EN
  let bank := s.rd q Reg.SCHED_SCHED_CFG_GATE_BANK
  let y := s.schPort p
  let tn := cdiv s.tm.sys 65536
  if en = 0 then
    if o.rd q Reg.SCHED_SCHED_CFG_GATE_EN = 1 then
      ((s.setPort p { y with running := false, pendingStart := none }).wr q Reg.SCHED_GATE_STATE_OPEN 0xFF).wr q
        Reg.SCHED_GATE_STATE_SWITCH_PENDING 0
    else s
  else if o.rd q Reg.SCHED_SCHED_CFG_GATE_EN = 0 then
    s.setPort p { y with running := false, pendingStart := some (bank, gateNext (s.gateList p bank) s.tm.rate tn) }
  else if y.pendingStart.map (·.1) = some bank then s
  else if !y.running then
    s.setPort p { y with pendingStart := some (bank, gateNext (s.gateList p bank) s.tm.rate tn) }
  else if bank = y.bank then
    (s.setPort p { y with pendingStart := none }).wr q Reg.SCHED_GATE_STATE_SWITCH_PENDING 0
  else
    let g := s.gateList p y.bank
    let start := if y.pendingStart.isSome then y.cycleStart else (gateCycle g s.tm.rate (s.tm.sys / 65536)).1
    let e := max tn (gateNext g s.tm.rate (start + 1))
    (s.setPort p { y with cycleStart := start, pendingStart := some (bank, gateNext (s.gateList p bank) s.tm.rate e) }).wr q
      Reg.SCHED_GATE_STATE_SWITCH_PENDING 1

/-! Staged tables (R345, R352). -/

/-- Application of staged entries: every entry is written in one cycle; an entry whose CIR, PIR, CBS or PBS changes, or
that becomes VALID, has its buckets reset (R349, R352). -/
def State.schApplyEntry (s : State) (key : Nat) (e : List Nat) : State :=
  let old := tget [] s.sch.tbl key
  let x := key / 32768 / 8
  let table := key / 32768 % 8
  let i := key % 32768
  let cyc := cycleAt s.tm.sys
  let valid (l : List Nat) : Bool := table = 2 || bit (l.getD 0 0) 31
  let zero : Bool := if table = 0 then bit (e.getD 0 0) 24 else if table = 1 then bit (e.getD 0 0) 16 else bit (e.getD 5 0) 0
  let fresh := ratesOf old ≠ ratesOf e || (valid e && !valid old)
  let r := ratesOf e
  let nb (b : Bucket) : Bucket := if fresh then resetBucket zero r.2.2.1 r.2.2.2 cyc else bucketAt b old cyc
  let s1 := { s with sch := { s.sch with tbl := tput [] s.sch.tbl key e } }
  match table with
  | 0 =>
    let k := (2048 * x + i) * 2
    let a := s1.queueState k
    let b := s1.queueState (k + 1)
    (s1.setQueueState k { a with bucket := nb a.bucket }).setQueueState (k + 1) { b with bucket := nb b.bucket }
  | 1 => let n := s1.schNode (256 * x + i); s1.setNode (256 * x + i) { n with bucket := nb n.bucket }
  | _ =>
    let p := if i < 32 then 32 * x + i else 64 + (i - 32)
    let y := s1.schPort p
    s1.setPort p { y with bucket := nb y.bucket }

/-- Pending entries of a chiplet. -/
def State.schPending (s : State) (x : Nat) : List (Nat × List Nat) :=
  s.sch.pend.filter fun e => e.1 / 32768 / 8 = x

/-- A table access beyond the table records ACCESS_UNMAPPED in SYS, as an access to TBL_CTL by PCIe (R345; path and
detail, assumption log 10). -/
def State.tblUnmapped (s : State) (a : Access) (p : Page) (off : Nat) : State := s.faulted a 0x10 true (pageBase p + off)

/-- TBL_DATA of a page as words. -/
def State.tblData (s : State) (p : Page) (n : Nat) : List Nat := (List.range n).map fun k => (s.word p (0x48 + 4 * k)).toNat

/-- TBL_DATA replaced: words beyond the entry read 0. -/
def State.setTblData (s : State) (p : Page) (n : Nat) (e : List Nat) : State :=
  s.each (List.range n) fun t k => t.setWord p (0x48 + 4 * k) (BitVec.ofNat 32 (e.getD k 0))

/-- The port of a gate entry, by the index of GATE_HDR or GATE_LIST. -/
def gatePort (x hdr : Nat) : Nat := if hdr / 2 < 32 then 32 * x + hdr / 2 else 64 + (hdr / 2 - 32)

/-- A bank of a port's gate lists is in use (R345). -/
def State.gateInUse (s : State) (p bank : Nat) : Bool :=
  let q := SCH p
  s.rd q Reg.SCHED_SCHED_CFG_GATE_BANK = bank ||
    (match (s.schPort p).pendingStart with | some (b, _) => b = bank | none => false) ||
    s.cm.arms.any fun a => s.armHolds a q && s.rdS a q Reg.SCHED_SCHED_CFG_GATE_BANK = bank

/-- An entry read: words beyond it, and a fabric port's entry of the other chiplet, read 0 (R345). -/
def State.schForeign (s : State) (x table i : Nat) : Bool := table = 2 && 32 ≤ i && s.schChip (64 + (i - 32)) ≠ x

/-- Read-only words of an active entry: SENT_KB and DROPS (R346, R347). -/
def State.schShown (s : State) (x table i : Nat) (e : List Nat) : List Nat :=
  match table with
  | 0 =>
    let a := s.queueState ((2048 * x + i) * 2)
    let b := s.queueState ((2048 * x + i) * 2 + 1)
    (List.range 6).map (e.getD · 0) ++ [(a.sent + b.sent) / 1024 % 2 ^ 32, (a.drops + b.drops) % 2 ^ 32]
  | 1 => (List.range 5).map (e.getD · 0) ++ [(s.schNode (256 * x + i)).sent / 1024 % 2 ^ 32]
  | _ => e

/-- A gate entry as it is kept: its reserved bits read 0 (R355). -/
def gateWords (table : Nat) (e : List Nat) : List Nat :=
  if table = 3 then [e.getD 0 0, e.getD 1 0, e.getD 2 0 % 2 ^ 30, e.getD 3 0 % 512 ||| b2n (bit (e.getD 3 0) 16) <<< 16]
  else [e.getD 0 0 % 256, e.getD 1 0 % 2 ^ 30]

/-- TBL_CTL of a SCHED table port (R345): WRITE, READ and READ_ACTIVE, in that order where one write sets several. -/
def State.schTblWrite (s : State) (a : Access) (x : Nat) : State :=
  let q := SCHT x
  let i := bits (s.word q 0x40).toNat 14 0
  let table := bits (s.word q 0x40).toNat 18 16
  let key := tblKey x table i
  let bump (t : State) : State := t.wr q ⟨0x40, 14, 0⟩ (i + 1)
  if schTableSize table ≤ i then s.tblUnmapped a q 0x44
  else if s.schForeign x table i then bump s
  else if table ≤ 2 then
    if (tfind s.sch.pend key).isNone && (s.schPending x).length ≥ 512 then bump (s.occur q 0x22 table i)
    else
      let e := s.tblData q (schTableWords table)
      bump { s with sch := { s.sch with pend := tins key e s.sch.pend, touched := sins key s.sch.touched } }
  else
    let hdr := if table = 3 then i else i / 256
    if s.gateInUse (gatePort x hdr) (hdr % 2) then bump (s.occur q 0x20 table i)
    else bump { s with sch := { s.sch with tbl := tput [] s.sch.tbl key (gateWords table (s.tblData q (schTableWords table))) } }

/-- READ and READ_ACTIVE of a SCHED table port. -/
def State.schTblRead (s : State) (a : Access) (x : Nat) (activeOnly : Bool) : State :=
  let q := SCHT x
  let i := bits (s.word q 0x40).toNat 14 0
  let table := bits (s.word q 0x40).toNat 18 16
  let key := tblKey x table i
  if schTableSize table ≤ i then (s.tblUnmapped a q 0x44).setTblData q 8 []
  else if s.schForeign x table i then s.setTblData q 8 []
  else
    let e := if activeOnly then s.schEntry x table i else (tfind s.sch.pend key).getD (s.schEntry x table i)
    s.setTblData q 8 (s.schShown x table i e)

/-- SCHED_CTL.PEAK_CLEAR (R344). -/
def State.peakClear (s : State) (x : Nat) : State := s.wr (SCHT x) Reg.SCHT_BUF_PEAK 0

/-! Validation (R348). -/

/-- The entry of a staged table that a check reads: staged, else active. -/
def stagedEntry (s : State) (st : List (Nat × List Nat)) (x table i : Nat) : List Nat :=
  (tfind st (tblKey x table i)).getD (s.schEntry x table i)

/-- The rates of a VALID entry are in order (R348). -/
def ratesBad (e : List Nat) (lmax : Nat) : Bool :=
  let r := ratesOf e
  r.2.1 = 0 || r.2.1 < r.1 || r.2.2.2 < lmax || (r.1 ≠ 0 && r.2.2.1 < lmax)

/-- Indices of the entries of a table that are written or staged. -/
def State.schIndices (s : State) (st : List (Nat × List Nat)) (x table : Nat) : List Nat :=
  ((s.sch.tbl ++ st).filter fun e => e.1 / 32768 = x * 8 + table).foldl (fun l e => sins (e.1 % 32768) l) []

/-- The checks of R348 on a table port; `txFlow` gives W0 of a TX_FLOW entry as it stands. Those on rates take L_max of the ports
that the entries name. -/
def State.schTableChecks (s : State) (v : Values) (st : List (Nat × List Nat)) (txFlow : Nat → Nat → Nat) (x : Nat) :
    List Charge :=
  let q := SCHT x
  let e := stagedEntry s st x
  let node (j : Nat) : List Nat := e 1 j
  let nodePort (j : Nat) : Nat := bits ((node j).getD 0 0) 4 0
  let subs := (s.schIndices st x 0).filter fun i => bit ((e 0 i).getD 0 0) 31
  let nodes := (s.schIndices st x 1).filter fun j => bit ((e 1 j).getD 0 0) 31
  let badSub (i : Nat) : Bool :=
    let w := (e 0 i).getD 0 0
    let f := txFlow x i
    bits w 23 16 = 0 || bits w 30 25 ≠ 0 ||
    !(bit ((node (bits w 7 0)).getD 0 0) 31) || nodePort (bits w 7 0) ≠ bits f 4 0 ||
    (bit f 7 && (!(bit ((node (bits w 15 8)).getD 0 0) 31) || nodePort (bits w 15 8) ≠ bits f 12 8))
  let badNode (j : Nat) : Bool :=
    let w := (node j).getD 0 0
    bits w 15 8 = 0 || bits w 30 17 ≠ 0
  let rates : List (List Nat × Nat) :=
    (subs.flatMap fun i =>
      let f := txFlow x i
      (e 0 i, 32 * x + bits f 4 0) :: if bit f 7 then [(e 0 i, 32 * x + bits f 12 8)] else []) ++
    (nodes.map fun j => (node j, 32 * x + nodePort j)) ++
    (s.schIndices st x 2).map fun i => (e 2 i, if i < 32 then 32 * x + i else 64 + (i - 32))
  let total := (subs.map fun i => (e 0 i).getD 5 0 % 65536 * (if bit (txFlow x i) 7 then 2 else 1)).sum
  charge1 q (subs.any badSub || nodes.any badNode || total > 12288 ||
    (s.schIndices st x 2).any fun i => (e 2 i).getD 5 0 / 2 ≠ 0) 0x01 ++
  rates.flatMap fun r => if ratesBad r.1 (lmaxOf v r.2)
    then [{ pages := q :: (if r.2 < 64 then [⟨.net, r.2⟩] else []), named := [q], reason := 0x01 }] else []

/-- The ranges of R355 for a bank of a port. -/
def State.gateBad (s : State) (p bank : Nat) : Bool :=
  let x := s.schChip p
  let i := schPortIndex p * 2 + bank
  let g := s.gateList p bank
  let w (k : Nat) : Nat := s.schWord x 3 i k
  let nd := rateND s.tm.rate
  g.entries.length = 0 || 256 < g.entries.length || (w 3 / 512 % 128 ≠ 0) || w 3 / 131072 ≠ 0 ||
    g.entries.any (fun e => e.2 = 0 || 1000000000 < e.2) ||
    (if g.beat then w 1 ≠ 0 || nd.1 * w 0 ≥ nd.2 * 1000000000 else g.cycle = 0 || 1000000000 < g.cycle || w 2 / 2 ^ 30 ≠ 0)

/-- GUARD_MODE with a window of the selected bank no longer than the guard band (R348, R359). -/
def State.guardBad (s : State) (v : Values) (p bank : Nat) : Bool :=
  let t := s.setPort p { s.schPort p with running := true, bank := bank, pendingStart := none }
  let t0 := (gateCycle (t.gateList p bank) t.tm.rate (t.tm.sys / 65536)).2
  (List.range 8).any fun c =>
    ((t.windowLengths p c (t.gateList p bank).entries.length t0).any fun l =>
      match l with | some d => d ≠ 0 && d * 65536 ≤ cdiv (17 * 8 * lmaxOf v p * 65536) (portRateOf v p) | none => false)

/-- The checks of R348 on a SCHED port. -/
def State.schPortChecks (s : State) (v : Values) (p : Nat) : List Charge :=
  let q := SCH p
  let bank := v q Reg.SCHED_SCHED_CFG_GATE_BANK
  charge1 q (v q Reg.SCHED_SCHED_CFG_GATE_EN = 1 && s.gateBad p bank) 0x01 ++
  if v q Reg.SCHED_SCHED_CFG_GATE_EN = 1 && v q Reg.SCHED_SCHED_CFG_GUARD_MODE = 1 && !s.gateBad p bank && s.guardBad v p bank
  then [{ pages := q :: portRatePages v p, named := [q], reason := 0x01 }] else []

/-! Selection (R354). -/

/-- The head packet of a queue state. -/
def State.headOf (s : State) (k : Nat) : Option TxPacket := (s.queueState k).pkts.head?

/-- The buckets of a queue state's queue, node and port at cycle `cyc`. -/
def State.bucketsOf (s : State) (p k cyc : Nat) : Bucket × Bucket × Bucket :=
  let x := k / 4096
  let n := s.nodeOf k
  (bucketAt (s.queueState k).bucket (s.schEntry x 0 (k / 2 % 2048)) cyc,
   bucketAt (s.schNode n).bucket (s.schEntry x 1 (n % 256)) cyc,
   bucketAt (s.schPort p).bucket (s.schEntry x 2 (schPortIndex p)) cyc)

/-- All three buckets satisfy a test. -/
def all3 (f : Bucket → Bool) (b : Bucket × Bucket × Bucket) : Bool := f b.1 && f b.2.1 && f b.2.2

/-- Whether the head of `k` may start at `t`: released, gate, peak buckets. -/
def State.headTests (s : State) (p t k : Nat) : Option (Bool × Bool × Bool) :=
  match s.headOf k with
  | some h =>
    some (h.release ≤ t, s.gateAllows s.rd p (s.classOfNode (s.nodeOf k)) t h.wire,
          all3 (fun b => peakOk b h.wire) (s.bucketsOf p k (cycleAt t)))
  | none => none

/-- The candidates of R354. -/
def State.candidates (s : State) (p t : Nat) : List Nat :=
  (s.queuesOf p).filter fun k => match s.headTests p t k with | some (a, b, c) => a && b && c | none => false

/-- The candidates whose head conforms to the committed buckets too. -/
def State.committedOf (s : State) (p t : Nat) : List Nat :=
  (s.candidates p t).filter fun k =>
    match s.headOf k with | some h => all3 (fun b => commitOk b h.wire) (s.bucketsOf p k (cycleAt t)) | none => false

/-- Class weight CW_c of a port (R347). -/
def State.classWeight (s : State) (p c : Nat) : Nat :=
  bits (s.schWord (s.schChip p) 2 (schPortIndex p) 0) (4 * c + 3) (4 * c)

/-- The greatest of a list. -/
def greatestOf : List Nat → Option Nat
  | [] => none
  | x :: t => some (t.foldl max x)

/-- The queue state that R354 selects. -/
def State.selectQueue (s : State) (p t : Nat) : Option (Nat × Bool) :=
  let com := s.committedOf p t
  let set := if com.isEmpty then s.candidates p t else com
  let cls := set.map fun k => s.classOfNode (s.nodeOf k)
  let c? := match greatestOf (cls.filter fun c => s.classWeight p c = 0) with
    | some c => some c
    | none => leastBy (fun c => tget 0 (s.schPort p).vtClass c) (cls.foldl (fun l c => sins c l) [])
  match c? with
  | some c =>
    let inC := set.filter fun k => s.classOfNode (s.nodeOf k) = c
    match leastBy (fun n => (s.schNode n).vt) (inC.foldl (fun l k => sins (s.nodeOf k) l) []) with
    | some n =>
      match leastBy (fun k => (s.queueState k).vt) (inC.filter fun k => s.nodeOf k = n) with
      | some k => some (k, !com.isEmpty)
      | none => none
    | none => none
  | none => none

/-- The head of `k` starts at `t` on port `p`: tokens, virtual times and counts (R350, R354). -/
def State.startHead (s : State) (p t k : Nat) (committed : Bool) (h : TxPacket) : State :=
  let b := s.bucketsOf p k (cycleAt t)
  let n := s.nodeOf k
  let c := s.classOfNode n
  let cw := s.classWeight p c
  let x := k / 4096
  let wn := max 1 (bits (s.schWord x 1 (n % 256) 0) 15 8)
  let wq := max 1 (bits (s.schWord x 0 (k / 2 % 2048) 0) 23 16)
  let q := s.queueState k
  let s1 := s.setQueueState k { q with pkts := q.pkts.tail, bucket := spend b.1 h.wire committed,
                                       vt := (q.vt + h.wire * 65536 / wq) % 2 ^ 64, sent := q.sent + h.wire }
  let y := s1.schNode n
  let s2 := s1.setNode n { y with bucket := spend b.2.1 h.wire committed, vt := (y.vt + h.wire * 65536 / wn) % 2 ^ 64,
                                  sent := y.sent + h.wire }
  let z := s2.schPort p
  let s3 := s2.setPort p { z with
    bucket := spend b.2.2 h.wire committed,
    vtClass := if cw = 0 then z.vtClass else tput 0 z.vtClass c ((tget 0 z.vtClass c + h.wire * 65536 / cw) % 2 ^ 64),
    freeAt := t + s.wireTime p h.wire, sent := z.sent + h.wire }
  s3.wr (SCH p) Reg.SCHED_SENT_KB ((z.sent + h.wire) / 1024)

/-- Head packets that can never fit a window of their class are dropped and recorded (R358). -/
def State.dropOversize (s : State) (p t : Nat) : State :=
  if s.rd (SCH p) Reg.SCHED_SCHED_CFG_GATE_EN = 1 && s.rd (SCH p) Reg.SCHED_SCHED_CFG_GUARD_MODE = 0 then
    s.each (s.queuesOf p) fun u k =>
      match u.headOf k with
      | some h =>
        let c := u.classOfNode (u.nodeOf k)
        if u.neverFits p c (t / 65536) (u.wireTime p h.wire) then
          let q := u.queueState k
          ((u.setQueueState k { q with pkts := q.pkts.tail }).inc (SCHT (k / 4096)) Reg.SCHT_OVERSIZE_DROPS).occur (SCH p)
            0x21 c ((k / 2) <<< 32 ||| u.frameNo % 2 ^ 32)
        else u
      | none => u
  else s

/-- Some head of the port waits for its gate alone (R363). -/
def State.gateHold (s : State) (p t : Nat) : Bool :=
  (s.queuesOf p).any fun k => match s.headTests p t k with | some (a, b, c) => a && !b && c | none => false

/-- GATE_ENTRY_BOUNDARY (R356): port `p`'s gate list reaches a boundary at SYSTIME `t`. -/
def execGateEntryBoundary (p t : Nat) (s : State) : Host.Outcome State Fault Refusal := live s (s.gateBoundary p t)

end Sys2Proof.Machine
end

