-- ==== Sys2Proof/Machine/Time.lean ====
section
/-!
DEFINITION. SYSTIME and what disciplines it (01_architecture.md R24-R28, 11_scanout.md R255-R258): the reference input,
steps and steering, holdover, and the captures of the time registers.
-/

namespace Sys2Proof.Machine

/-- SYSTIME is stepped to `t`; FRAME_NO follows (R24, R256). Instants that are past, or already set, keep their distance from now. -/
def State.stepTime (s : State) (t : Nat) : State :=
  let moved (e : Nat) : Nat := ((e : Int) + t - s.tm.sys).toNat
  { s with
    tm := { s.tm with sys := t, frame := beatAt s.tm.rate t, steps := s.tm.steps + 1, read := 0 }
    ref := { s.ref with lastEdge := s.ref.lastEdge.map moved, lastAccepted := s.ref.lastAccepted.map moved }
    scn := { s.scn with framing := s.scn.framing.map fun p => { p with start := moved p.start } } }

/-- Some raster generator or encode channel is enabled (R256). -/
def State.pictureEnabled (s : State) : Bool :=
  (List.range 32).any (fun r => s.enabled ⟨.scan, r⟩) || (List.range 128).any fun c => s.enabled ⟨.enc, c⟩

/-- Some raster or encode channel of this device is running (R25): RUNNING is 1, as R253 has it from the lead-in frame's end, or STATE
is at least 2. -/
def State.pictureRunning (s : State) : Bool :=
  (List.range 32).any (fun r => s.rd ⟨.scan, r⟩ Reg.SCAN_RG_STATE_RUNNING = 1) ||
    (List.range 128).any fun c => 2 ≤ s.rd ⟨.enc, c⟩ Reg.ENC_CH_STATE_STATE

/-- Length of `k` beats, in SYSTIME units rounded down (R24). -/
def beatsLength (rate k : Nat) : Nat := beatStart rate k

/-- REF_DIV for a reference rate at a beat rate: the integer from 1 to 8 by which the beat rate is divided; none where
there is no such integer (R256). -/
def refDivOf (beat ref : Nat) : Option Nat :=
  let b := rateND beat
  let r := rateND ref
  (List.range 8).map (· + 1) |>.find? fun j => r.1 ≠ 0 && b.1 * r.2 = j * (r.1 * b.2)

/-- TIME_SRC and REF_STATE.STATE (R256): SOURCE 1 or 2 while ACQUIRING or LOCKED, 3 in HOLDOVER or MISMATCH. -/
def State.setRefState (s : State) (st : Nat) : State :=
  let sel := s.rd SYS Reg.SYS_REF_CFG_TIME_SEL
  let src := if st = 0 then 0 else if st = 1 ∨ st = 2 then sel else 3
  ((s.wr SYS Reg.SYS_REF_STATE_STATE st).wr SYS ⟨0x118, 1, 0⟩ src).wr SYS ⟨0x118, 8, 8⟩ (b2n (st = 2))

/-- This device follows another member's SYSTIME (R256, R382): it is a member of a fabric of more than one, and the time
source is another node. -/
def State.following (s : State) : Bool :=
  s.nodeState = 2 && 1 < s.rd ⟨.fab, 0⟩ Reg.FAB_MEMBERS &&
    s.rd ⟨.fab, 0⟩ ⟨0x058, 11, 0⟩ ≠ s.rd ⟨.fab, 0⟩ Reg.FAB_NODE_STATE_NODE_ID

/-- The source in use passes through ACQUIRING (R256), or is in MISMATCH where REF_RATE does not divide the beat rate. -/
def State.acquire (s : State) : State :=
  let sel := s.rd SYS Reg.SYS_REF_CFG_TIME_SEL
  let s1 := { s with ref := { s.ref with inLock := 0, stepped := false, changed := false } }
  if sel = 1 then (s1.setRefState 1).wr SYS Reg.SYS_REF_STATE_REF_DIV_M1 0
  else if sel = 2 then
    let rate := s.rd SYS Reg.SYS_REF_CFG_REF_RATE
    match refDivOf s.tm.rate rate with
    | some j =>
      let s2 := ((s1.setRefState 1).wr SYS Reg.SYS_REF_STATE_REF_DIV_M1 (j - 1)).wr SYS Reg.SYS_REF_STATE_RATE_NOW rate
      { s2 with ref := { s2.ref with period := beatsLength s.tm.rate j } }
    | none => s1.setRefState 4
  else s1.setRefState 0

/-- A write of REF_CFG (R256): a change of the source, kind, edge or rate starts acquisition again. It has no effect on a member that
follows another's SYSTIME, until it follows no more. -/
def State.refCfgWritten (s o : State) : State :=
  if s.rd SYS ⟨0x120, 11, 0⟩ &&& 0xF73 = o.rd SYS ⟨0x120, 11, 0⟩ &&& 0xF73 then s
  else if s.following then { s with ref := { s.ref with changed := true } }
  else { s with ref := {} }.acquire

/-- Loss of the source in use (R257, R338): HOLDOVER, REF_LOST recorded and counted. -/
def State.refLost (s : State) : State :=
  ((s.setRefState 3).inc SYS Reg.SYS_LOSS_COUNT).occurF SYS 0x28 (s.rd SYS Reg.SYS_REF_CFG_TIME_SEL)

/-- The nearest qualifying boundary B(m), m mod j = 0, to an instant, and the instant's signed error (R256). -/
def boundaryError (rate j t : Nat) : Int :=
  let m := beatAt rate t / j * j
  let a := beatStart rate m
  let b := beatStart rate (m + j)
  if t - a ≤ b - t then (t : Int) - a else (t : Int) - b

/-- Eight intervals agree within 0.1 %. -/
def agree8 (l : List Nat) : Bool :=
  l.length = 8 && (l.foldl max 0 - l.foldl min (l.headD 0)) * 1000 ≤ l.sum / 8

/-- `x` lies within ±1,000 ppm of `nominal`. -/
def within1000ppm (x nominal : Nat) : Bool := x * 1000 ≤ nominal * 1001 && nominal * 999 ≤ x * 1000

/-- The rate of R24 and the number of beats that a measured period fits within 1,000 ppm (R258). -/
def supportedRate (beat mean : Nat) : Option (Nat × Nat) :=
  ((List.range 8).map (· + 1)).findSome? fun j =>
    if within1000ppm mean (beatsLength beat j) then
      ((List.range 14).find? fun c => refDivOf beat c = some j).map fun c => (c, j)
    else none

/-- An accepted edge steers (R256, R257): P takes a free value within ±1,000 ppm of nominal; in ACQUIRING SYSTIME is
stepped once while no raster or channel is enabled, else its rate is offset by at most 1,000 ppm against the error;
8 consecutive accepted edges within 100 ns lock. -/
def State.acceptEdge (s : State) (t : Nat) : State :=
  let j := s.rd SYS Reg.SYS_REF_STATE_REF_DIV_M1 + 1
  let nom := beatsLength s.tm.rate j
  let err := boundaryError s.tm.rate j (t - ns (s.rd SYS Reg.SYS_REF_DELAY % 2 ^ 24))
  let p := nom - nom / 1000 + s.free 64 % (2 * (nom / 1000) + 1)
  let s1 := s.drawn
  let errNs : Int := err / 65536
  let mag : Int := (s1.free 32 % 1000001 : Nat)
  let s2 := s1.drawn
  let s3 := (s2.wr SYS Reg.SYS_REF_PHASE_ERR (twos 32 errNs)).wr SYS Reg.SYS_REF_OFFSET
    (sat32 (((nom : Int) - p) * 1000000000 / p))
  let near := decide (err.natAbs ≤ ns 100)
  let n := if near then s.ref.inLock + 1 else 0
  let st := s.rd SYS Reg.SYS_REF_STATE_STATE
  let r := { s3.ref with lastAccepted := some t, period := p, inLock := n, steer := if err = 0 then 0 else if err < 0 then mag else -mag }
  let s4 := { s3 with ref := r }
  if st = 1 then
    if !s.ref.stepped && !s.pictureEnabled then
      let u := ({ s4 with ref := { r with stepped := true, inLock := 0, steer := 0 } }).stepTime (((t : Int) - err).toNat)
      u
    else if 8 ≤ n then (s4.setRefState 2).occurF SYS 0x29 (s.rd SYS Reg.SYS_REF_CFG_TIME_SEL)
    else s4
  else s4

/-- An edge at `t` is to be ignored (R257 step 1): it comes more than GLITCH_WINDOW × P / 1,000 from its expected time, which is a whole
number of P after the last accepted edge. -/
def State.isGlitch (s : State) (t : Nat) : Bool :=
  match s.ref.lastAccepted with
  | none => false
  | some e =>
    let p := max 1 s.ref.period
    let k := max 1 ((t - e + p / 2) / p)
    decide (s.rd SYS Reg.SYS_REF_CFG_GLITCH_WINDOW * p < ((t : Int) - (e + k * p : Nat)).natAbs * 1000)

/-- The last 8 of intervals with one more. -/
def withInterval (l : List Nat) (d : Nat) : List Nat := (l ++ [d]).drop (l.length + 1 - 8)

/-- A detected rate change (R258), with the mean of 8 intervals. The intervals that showed it show no second one. -/
def State.rateChange (s : State) (t mean : Nat) : State :=
  let sup := supportedRate s.tm.rate mean
  let detail := (mean / 65536000 % 65536) <<< 32 ||| s.frameNo % 2 ^ 32
  let s1 := { s with ref := { s.ref with run := [] } }
  match if s.rd SYS Reg.SYS_REF_CFG_RATE_FOLLOW = 1 then sup else none with
  | some (code, k) =>
    let s2 := (s1.setRefState 3).occur SYS 0x2A k detail
    let s3 := ((s2.wr SYS Reg.SYS_REF_STATE_REF_DIV_M1 (k - 1)).wr SYS Reg.SYS_REF_STATE_RATE_NOW code).setRefState 1
    { s3 with ref := { s3.ref with inLock := 0, stepped := false, lastAccepted := some t, period := beatsLength s.tm.rate k } }
  | none =>
    let s2 := (s1.setRefState 3).occur SYS 0x2A (match sup with | some (_, k) => k | none => 0) detail
    (s2.setRefState 4).occurF SYS 0x2B 0

/-- A REF_IN edge at SYSTIME `t` (R255, R257, R258). Every edge is screened and enters rate detection; in HOLDOVER and MISMATCH an accepted
one steers nothing. REF_PERIOD is the mean of the intervals there are while there are fewer than 8 (assumption log 83). -/
def State.refEdge (s0 : State) (t : Nat) : State :=
  let s := s0.advance t
  if s.rd SYS Reg.SYS_REF_CFG_TIME_SEL ≠ 2 || s.following then s
  else
    let add (l : List Nat) : List Nat := match s.ref.lastEdge with | some e => withInterval l (t - e) | none => l
    let ivs := add s.ref.intervals
    let run := add s.ref.run
    let glitch := s.isGlitch t
    let s1 := ({ s with ref := { s.ref with lastEdge := some t, intervals := ivs, run := run } }).wr SYS Reg.SYS_REF_PERIOD
      (ivs.sum / max 1 ivs.length / 65536)
    let s2 := if glitch then s1.inc SYS Reg.SYS_GLITCH_COUNT else s1
    let st := s.rd SYS Reg.SYS_REF_STATE_STATE
    let mean := run.sum / 8
    let fits := within1000ppm mean (beatsLength s.tm.rate (s.rd SYS Reg.SYS_REF_STATE_REF_DIV_M1 + 1))
    if agree8 run && !fits then s2.rateChange t mean
    else if st = 3 ∨ st = 4 then
      if agree8 run then
        let s3 := s2.setRefState 1
        { s3 with ref := { s3.ref with inLock := 0, stepped := false, lastAccepted := some t } }
      else if glitch then s2 else { s2 with ref := { s2.ref with lastAccepted := some t } }
    else if glitch then s2
    else s2.acceptEdge t

/-- REF_EDGE (R257): a REF_IN edge at SYSTIME `t`. -/
def execRefEdge (t : Nat) (s : State) : Host.Outcome State Fault Refusal := live s (s.refEdge t)

/-- REF_EDGE_TIMEOUT (R257): 2.5 × P without an accepted edge puts the reference into HOLDOVER; one already there, off,
or not in use keeps its state. -/
def execRefEdgeTimeout (s : State) : Host.Outcome State Fault Refusal :=
  let st := s.rd SYS Reg.SYS_REF_STATE_STATE
  live s (if s.rd SYS Reg.SYS_REF_CFG_TIME_SEL = 2 && (st = 1 || st = 2) && !s.following then s.refLost else s)

/-- SYSTIME at the instant of a read of FRAME_NO_LO. No operand names that instant: it is a free value of the beat in progress that lies
neither before SYSTIME nor before the read that captured last (assumption log 3). -/
def State.captureInstant (s : State) : Nat :=
  let stop := beatStart s.tm.rate (s.tm.frame + 1)
  let base := if s.tm.read < stop then max s.tm.sys s.tm.read else s.tm.sys
  base + s.free 64 % max 1 (stop - base)

/-- A read of FRAME_NO_LO captures the time for its requester (R28): one capture per path, and for fabric nodes at most
16, the one whose last read is oldest going first. -/
def State.captureTime (s : State) (p : Path) : State :=
  let rest := s.tm.captures.filter fun c => c.path ≠ p
  let fabs := rest.filter fun c => match c.path with | .fabric _ => true | _ => false
  let drop := match p, fabs with
    | .fabric _, c :: _ => if 16 ≤ fabs.length then some c.path else none
    | _, _ => none
  let kept := rest.filter fun c => some c.path ≠ drop
  let now := s.captureInstant
  { s.drawn with tm := { s.tm with read := now, captures := kept ++
      [{ path := p, frame := s.frameNo, sys := now, src := s.word SYS 0x118 }] } }

/-- What a requester's reads of 0x104-0x118 return: its capture, or the reset values where it holds none (R28). -/
def State.capturedWord (s : State) (p : Path) (off : Nat) : Word :=
  match s.tm.captures.find? fun c => c.path = p with
  | none => 0
  | some c =>
    let nsec := c.sys / 65536 % 2 ^ 64
    match off with
    | 0x104 => BitVec.ofNat 32 c.frame
    | 0x108 => BitVec.ofNat 32 (c.frame / 2 ^ 32)
    | 0x10C => BitVec.ofNat 32 nsec
    | 0x110 => BitVec.ofNat 32 (nsec / 2 ^ 32)
    | 0x114 => BitVec.ofNat 32 (c.sys % 65536)
    | _ => c.src

end Sys2Proof.Machine
end

