-- ==== Sys2Proof/Machine/Net.lean ====
section
/-!
DEFINITION. Ethernet ports, the NET tables, receive classification, policers, formation and queueing of packets, and PTP
(14_network_transport.md R319-R338).
-/

namespace Sys2Proof.Machine

/-- NET port `p`; NET global page of chiplet `x`. -/
abbrev NET (p : Nat) : Page := ⟨.net, p⟩
abbrev NETG (x : Nat) : Page := ⟨.netGlobal, x⟩

/-! Tables (R324). -/

/-- Entries of a NET table; 0 for a reserved one. -/
def netTableSize (table : Nat) : Nat :=
  match table with
  | 0 => 32 | 1 => 512 | 2 => 2048 | 3 => 512 | 4 => 160 | _ => 0

/-- Words of an entry. -/
def netTableWords (table : Nat) : Nat :=
  match table with
  | 0 => 7 | 1 => 11 | 2 => 12 | 3 => 6 | 4 => 8 | _ => 0

/-- An entry; its word `w`. -/
def State.netEntry (s : State) (x table index : Nat) : List Nat := tget [] s.net.tbl (tblKey x table index)
def State.netWord (s : State) (x table index w : Nat) : Nat := (s.netEntry x table index).getD w 0

/-- Words `a` to `b` of an entry as one number, the first most significant (addresses, R325). -/
def State.netAddr (s : State) (x table index a : Nat) : Nat :=
  (List.range 4).foldl (fun n k => n * 2 ^ 32 + s.netWord x table index (a + k)) 0

/-- A field of a page in the active values or in the staged values of an armed group that holds the page. -/
def State.anyUse (s : State) (p : Page) (test : (Field → Nat) → Bool) : Bool :=
  test (s.rd p) || test (s.rdL p) ||
    s.cm.arms.any fun a => s.armHolds a p && test (s.rdS a p)

/-- The page that a TX_FLOW entry's SOURCE names (R329). -/
def txSource (kind source : Nat) : Page :=
  match kind with
  | 3 => ⟨.scan, source % 32⟩ | 4 => ⟨.aud, source % 16⟩ | 5 => ⟨.ingest, source % 64⟩ | _ => ⟨.enc, source⟩

/-- An RX_FLOW, TX_FLOW or MACSEC entry is in use (R324; for TX_FLOW and MACSEC see assumption log 11). -/
def State.netInUse (s : State) (x table index : Nat) : Bool :=
  match table with
  | 1 => (List.range 64).any fun i => i / 32 = x && s.anyUse (ING i) fun f =>
      f Reg.PAGE_CTL_ENABLE = 1 && (f Reg.INGEST_FLOWS_FLOW_A = index
        || (f Reg.INGEST_STREAM_CFG_DUAL_PATH = 1 && f Reg.INGEST_FLOWS_FLOW_B = index))
  | 2 =>
    let w := s.netWord x 2 index 0
    bit w 31 && s.anyUse (txSource (bits w 23 21) (bits w 30 24)) fun f => f Reg.PAGE_CTL_ENABLE = 1
  | 4 => s.anyUse (NET (32 * x + index / 5)) fun f => f Reg.PAGE_CTL_ENABLE = 1 && f Reg.NET_PORT_CFG_MACSEC = 1
  | _ => false

/-- TBL_CTL.WRITE of a NET global page (R324, R328): a POLICER's counts are read-only and its tokens become CBS. -/
def State.netTblWrite (s : State) (a : Access) (x : Nat) : State :=
  let q := NETG x
  let i := bits (s.word q 0x40).toNat 10 0
  let table := bits (s.word q 0x40).toNat 14 12
  let key := tblKey x table i
  let bump (t : State) : State := t.wr q ⟨0x40, 10, 0⟩ (i + 1)
  if netTableSize table ≤ i then s.tblUnmapped a q 0x44
  else if s.netInUse x table i then bump (s.occur q 0x20 table i)
  else
    let d := s.tblData q (netTableWords table)
    let e := if table = 3 then (d.take 3) ++ (List.range 3).map fun k => s.netWord x 3 i (3 + k) else d
    let s1 := { s with net := { s.net with tbl := tput [] s.net.tbl key e } }
    let s2 := if table = 3 then
        { s1 with net := { s1.net with tokens := tins (x * 512 + i) (e.getD 1 0 % 2 ^ 24 * 8192000000, s.tm.sys) s1.net.tokens } }
      else if table = 2 then { s1 with net := { s1.net with tx := tdel (2048 * x + i) s1.net.tx } }
      else if table = 1 then { s1 with net := { s1.net with rx := tdel (512 * x + i) s1.net.rx } }
      else if table = 4 then
        let p := 32 * x + i / 5
        if i % 5 = 0 then { s1 with net := { s1.net with pnTx := tdel p s1.net.pnTx } }
        else { s1 with net := { s1.net with pnRx := tdel (4 * p + (i % 5 - 1)) s1.net.pnRx } }
      else s1
    bump s2

/-- TBL_CTL.READ (R324). -/
def State.netTblRead (s : State) (a : Access) (x : Nat) : State :=
  let q := NETG x
  let i := bits (s.word q 0x40).toNat 10 0
  let table := bits (s.word q 0x40).toNat 14 12
  if netTableSize table ≤ i then (s.tblUnmapped a q 0x44).setTblData q 12 []
  else s.setTblData q 12 (s.netEntry x table i)

/-! Links (R322). -/

/-- The wide lanes of a NET port: its quad's enabled lanes by MODE and SPLIT (R319, R320). -/
def State.netLanes (s : State) (p : Nat) : List Nat :=
  let mode := s.rd (NET p) Reg.NET_PORT_CFG_MODE
  let quad := p / 2
  let lanes := (List.range (if mode = 6 then 8 else 4)).map fun k => 4 * quad + k
  lanes.filter fun l => s.enabled ⟨.wide, l⟩ &&
    if mode = 6 then s.rd ⟨.wide, l⟩ Reg.WL_LANE_CFG_LOGICAL < 4
    else
      let w := if mode = 0 ∨ mode = 1 ∨ mode = 3 then 1 else if mode = 5 then 2 else 4
      let lg := s.rd ⟨.wide, l⟩ Reg.WL_LANE_CFG_LOGICAL
      if p % 2 = 0 then lg < w else w ≤ lg && lg < 2 * w

/-- LOOPED of a NET port: a lane of it has LOOPBACK_ON. While it is 1 PTP on the port is DISABLED, and after it LISTENING (R321, R322). -/
def State.showLooped (s : State) (p : Nat) : State :=
  let on := (s.netLanes p).any fun l => s.rd ⟨.wide, l⟩ Reg.WL_LANE_STATE_LOOPBACK_ON = 1
  let s1 := s.wr (NET p) Reg.NET_PORT_STATE_LOOPED (b2n on)
  let st := s.rd (NET p) Reg.NET_PORT_STATE_PTP_STATE
  if on && s.rd (NET p) Reg.NET_PORT_CFG_PTP = 1 then s1.wr (NET p) Reg.NET_PORT_STATE_PTP_STATE 3
  else if st = 3 then s1.wr (NET p) Reg.NET_PORT_STATE_PTP_STATE 4 else s1

/-- LOOPED of the ports that the lanes of a quad may serve. -/
def State.showQuad (s : State) (q : Nat) : State := s.each [2 * q, 2 * q + 1, 2 * (q / 2 * 2)] State.showLooped

/-- NET_LINK_RISE and NET_LINK_FALL (R322): LINK changes, and LINK_UP or LINK_DOWN is recorded. -/
def State.netLink (s : State) (p : Nat) (up : Bool) : State :=
  if s.rd (NET p) Reg.NET_PORT_STATE_LINK = b2n up then s
  else
    let s1 := (s.wr (NET p) Reg.NET_PORT_STATE_LINK (b2n up)).occurF (NET p) (if up then 0x20 else 0x21) 0
    if up then s1.inc (NET p) Reg.NET_PORT_STATE_LINK_UPS else s1

/-- NET_LINK_RISE (R322) of an enabled port. -/
def execNetLinkRise (p : Nat) (s : State) : Host.Outcome State Fault Refusal :=
  live s (if s.enabled (NET p) then s.netLink p true else s)

/-- NET_LINK_FALL (R322). -/
def execNetLinkFall (p : Nat) (s : State) : Host.Outcome State Fault Refusal := live s (s.netLink p false)

/-! Receive (R325-R328, R336, R337). -/

/-- Count one in a NET global register of a port's chiplet. -/
def State.netCount (s : State) (p : Nat) (f : Field) : State := s.inc (NETG (p / 32)) f

/-- The receive SC of a port that a SecTAG names (R337). -/
def State.macsecSc (s : State) (p : Nat) (t : SecTag) : Option Nat :=
  (List.range 4).find? fun k =>
    let i := p % 32 * 5 + 1 + k
    bit (s.netWord (p / 32) 4 i 0) 0 && s.netWord (p / 32) 4 i 1 + 2 ^ 32 * s.netWord (p / 32) 4 i 2 = t.sci

/-- 802.1AE check of a frame on a port with MACSEC 1 (R337): accepted with the next packet number kept, or none. -/
def State.macsecAccept (s : State) (p : Nat) (tag : Option SecTag) : Option State :=
  match tag with
  | none => none
  | some t =>
    match s.macsecSc p t with
    | none => none
    | some k =>
      let i := p % 32 * 5 + 1 + k
      let w0 := s.netWord (p / 32) 4 i 0
      let next := tget (s.netWord (p / 32) 4 i 5 + 2 ^ 32 * s.netWord (p / 32) 4 i 6) s.net.pnRx (p * 4 + k)
      if !t.icvOk || 4 ≤ t.an || (bit w0 3 && t.pn + s.netWord (p / 32) 4 i 3 < next) then none
      else some { s with net := { s.net with pnRx := tins (p * 4 + k) (max next (t.pn + 1)) s.net.pnRx } }

/-- The frame is dropped under R325: VLAN, IP or UDP. -/
def State.frameBad (s : State) (p : Nat) (f : EthFrame) : Bool :=
  let vid := bits (s.netWord (p / 32) 0 (p % 32) 1) 27 16
  (if vid = 0 then !f.vlans.isEmpty else decide (f.vlans ≠ [vid])) ||
    (!f.ipv6 && (f.fragment || !f.ipOk)) || (f.ipv6 && f.extHeader) ||
    (f.control.isNone && (if f.udpZero then f.ipv6 else !f.udpOk))

/-- A frame matches an RX_FLOW entry (R326). -/
def State.flowMatch (s : State) (p i : Nat) (f : EthFrame) : Bool :=
  let x := p / 32
  let w (k : Nat) : Nat := s.netWord x 1 i k
  let addr (k : Nat) : Nat := if bit (w 0) 5 then s.netAddr x 1 i k else w k
  bit (w 0) 31 && bits (w 0) 4 0 = p % 32 && bit (w 0) 5 = f.ipv6 && addr 2 = f.dst && w 1 % 65536 = f.dport &&
    (!bit (w 0) 6 || addr 6 = f.src) &&
    (!bit (w 1) 24 || (match f.rtp with | some r => r.ssrc = w 10 | none => false))

/-- Policer tokens of entry `i` of chiplet `x` at the present SYSTIME, refilled exactly at CIR and capped at CBS (R328); in
units of 1/8,192,000,000 byte, of which CIR adds CIR per SYSTIME unit. -/
def State.policerTokens (s : State) (x i : Nat) : Nat :=
  let e := s.netEntry x 3 i
  let t := tget (0, 0) s.net.tokens (x * 512 + i)
  min (e.getD 1 0 % 2 ^ 24 * 8192000000) (t.1 + e.getD 0 0 % 2 ^ 23 * (s.tm.sys - t.2))

/-- Count in a read-only word of a POLICER entry. -/
def State.policerCount (s : State) (x i w : Nat) : State :=
  let e := s.netEntry x 3 i
  let e1 := (List.range 6).map fun k => if k = w then (e.getD k 0 + 1) % 2 ^ 32 else e.getD k 0
  { s with net := { s.net with tbl := tput [] s.net.tbl (tblKey x 3 i) e1 } }

/-- The policer's test of a frame (R328): the state after it, and whether the frame is kept. -/
def State.police (s : State) (p i : Nat) (f : EthFrame) : State × Bool :=
  let x := p / 32
  if 512 ≤ i then (s, true)
  else
    let t := s.policerTokens x i
    let put (v : Nat) (u : State) : State := { u with net := { u.net with tokens := tins (x * 512 + i) (v, s.tm.sys) u.net.tokens } }
    if f.length * 8192000000 ≤ t then ((put (t - f.length * 8192000000) s).policerCount x i 3, true)
    else if s.netWord x 3 i 2 % 2 = 0 then (((put t s).policerCount x i 4).netCount p Reg.NETG_POLICED_DROP, false)
    else (((put t s).policerCount x i 5).netCount p Reg.NETG_POLICED_MARK, !f.buffersHigh)

/-- SRTP on receive (R336): the state after it, and whether the packet is kept. -/
def State.srtpAccept (s : State) (p i : Nat) (k : RtpPacket) : State × Bool :=
  if !k.authOk then (s.netCount p Reg.NETG_SRTP_AUTH_FAIL, false)
  else
    let key := p / 32 * 512 + i
    let x := tget {} s.net.rx key
    let top := x.highest.getD k.seq
    if k.seq + 4096 ≤ top || x.seen.contains k.seq then (s.netCount p Reg.NETG_SRTP_REPLAY, false)
    else
      let h := max top k.seq
      let w : RxFlow := { highest := some h, seen := sins k.seq (x.seen.filter fun q => h < q + 4096) }
      ({ s with net := { s.net with rx := tins key w s.net.rx } }, true)

/-- A(s): the instant of grid frame `g` (R422); the first grid frame at or after an instant. -/
def gridInstant (g : Nat) : Nat := g * 1000000000 * 65536 / 48000
def gridFrom (t : Nat) : Nat := cdiv (t * 48000) (1000000000 * 65536)

/-- The 48 kHz grid count whose low 32 bits are the RTP timestamp and whose instant lies nearest SYSTIME (R431). -/
def gridCount (t ts : Nat) : Nat :=
  let now := t * 48000 / (1000000000 * 65536)
  let base := now / 2 ^ 32 * 2 ^ 32 + ts
  if base + 2 ^ 31 < now then base + 2 ^ 32 else if now + 2 ^ 31 < base ∧ 2 ^ 32 ≤ base then base - 2 ^ 32 else base

/-- The packet of a matched frame reaches every enabled stream of the chiplet that names the flow (R78, R81). -/
def State.deliver (s : State) (p i : Nat) (k : RtpPacket) : State :=
  let x := p / 32
  let g := gridCount s.tm.sys k.ts
  s.each (List.range 32) fun t j =>
    let n := 32 * x + j
    if !t.enabled (ING n) then t
    else match t.pathOf n i k with
      | some b => t.ingestPacket n b g k
      | none => t

/-- Firmware answers control traffic on a port (R327). DESIGN CHOICE (log 89): echo requests are counted per second of SYSTIME. -/
def State.controlFrame (s : State) (p : Nat) (c : ControlMessage) : State :=
  let x := p / 32
  let own (a : Nat) : Bool := a = s.netWord x 0 (p % 32) 2 || a = s.netAddr x 0 (p % 32) 3
  let s1 := s.netCount p Reg.NETG_FW_PKTS
  match c with
  | .addressRequest a => if own a then s1.emit (.control p "address reply") else s1
  | .echoRequest a =>
    let now := s.tm.sys / (65536 * 1000000000)
    let e := tget (0, 0) s.net.echoes p
    let n := if e.1 = now then e.2 else 0
    if own a && n < 1000 then
      ({ s1 with net := { s1.net with echoes := tput (0, 0) s1.net.echoes p (now, n + 1) } }).emit (.control p "echo reply")
    else s1
  | .groupQuery => s1.each (s1.net.joined.filter fun g => g.1 = p) fun t g => t.emit (.membership p g.2.1 g.2.2 true)
  | .neighbour a m =>
    { s1 with net := { s1.net with neighbours :=
        (s1.net.neighbours.filter fun e => !(e.1 = p && e.2.1 = a)) ++ [(p, a, m)] } }

/-- A received Ethernet frame on port `p` (R322, R325): FCS, length, 802.1AE, VLAN, IP and UDP, RX_FLOW match, policer,
SRTP, RTP, stream. -/
def State.ethFrame (s0 : State) (p : Nat) (f : EthFrame) : State :=
  let q := NET p
  if s0.rd q Reg.NET_PORT_STATE_LINK = 0 || !s0.enabled q then s0
  else if !f.fcsOk then s0.inc q ⟨0x50, 15, 0⟩
  else
    let s := s0.inc q Reg.NET_RX_FRAMES
    if s.rd q Reg.NET_PORT_CFG_MAX_FRAME < f.length then s.inc q ⟨0x50, 31, 16⟩
    else if s.rd q Reg.NET_PORT_STATE_LOOPED = 1 then s
    else
      let sec := if s.rd q Reg.NET_PORT_CFG_MACSEC = 1 then s.macsecAccept p f.tag else some s
      match sec with
      | none => s.netCount p Reg.NETG_MACSEC_DROP
      | some s1 =>
        if s1.frameBad p f then s1.netCount p Reg.NETG_RX_BAD
        else
          match f.control with
          | some c => s1.controlFrame p c
          | none =>
            match (List.range 512).find? fun i => s1.flowMatch p i f with
            | none => s1.netCount p Reg.NETG_RX_UNMATCHED
            | some i =>
              let w0 := s1.netWord (p / 32) 1 i 0
              let w1 := s1.netWord (p / 32) 1 i 1
              let (s2, kept) := s1.police p (bits w0 25 16) f
              if !kept then s2
              else
                match f.rtp with
                | none => s2.netCount p Reg.NETG_RX_BAD
                | some k =>
                  let (s3, ok) := if bit w0 7 then s2.srtpAccept p i k else (s2, true)
                  if !ok then s3
                  else if k.version ≠ 2 || (!bit w1 23 && k.pt ≠ bits w1 22 16) then s3.netCount p Reg.NETG_RX_BAD
                  else s3.deliver p i k

/-! Groups that firmware joins (R327). -/

/-- The multicast groups that the enabled INGEST pages' flows name: NET port, group, source for SSM. -/
def State.groupsWanted (s : State) : List (Nat × Nat × Option Nat) :=
  ((List.range 64).filter fun i => s.enabled (ING i)).flatMap fun i =>
    let x := i / 32
    let flows := s.rd (ING i) Reg.INGEST_FLOWS_FLOW_A ::
      (if s.rd (ING i) Reg.INGEST_STREAM_CFG_DUAL_PATH = 1 then [s.rd (ING i) Reg.INGEST_FLOWS_FLOW_B] else [])
    flows.filterMap fun j =>
      let w0 := s.netWord x 1 j 0
      let a := if bit w0 5 then s.netAddr x 1 j 2 else s.netWord x 1 j 2
      let src := if bit w0 5 then s.netAddr x 1 j 6 else s.netWord x 1 j 6
      let multicast := if bit w0 5 then a / 2 ^ 120 = 0xFF else a / 2 ^ 28 = 0xE
      if bit w0 31 && multicast then some (32 * x + bits w0 4 0, a, if bit w0 6 then some src else none) else none

/-- Firmware reports joined and left groups. -/
def State.refreshGroups (s : State) : State :=
  let want := s.groupsWanted
  let join := want.filter fun g => !s.net.joined.contains g
  let leave := s.net.joined.filter fun g => !want.contains g
  { s with net := { s.net with joined := want },
           out := s.out ++ (join.map fun g => Out.membership g.1 g.2.1 g.2.2 true) ++
             leave.map fun g => Out.membership g.1 g.2.1 g.2.2 false }

/-! Formation of packets (R329-R337). -/

/-- Word `w` of global TX flow `f`. -/
def State.txWord (s : State) (f w : Nat) : Nat := s.netWord (f / 2048) 2 (f % 2048) w

/-- The VALID flows of a KIND and SOURCE, ascending. -/
def State.flowsOf (s : State) (kinds : List Nat) (source : Nat) : List Nat :=
  (s.net.tbl.filterMap fun e =>
    let x := e.1 / 32768 / 8
    let w := e.2.getD 0 0
    if e.1 / 32768 % 8 = 2 && bit w 31 && kinds.contains (bits w 23 21) && bits w 30 24 = source
    then some (2048 * x + e.1 % 32768) else none)

/-- Ethernet frame bytes around an RTP payload on a port (R341, worked example of 14_network_transport.md): RTP 12, UDP 8,
IP 20 or 40, Ethernet 14 and FCS 4, a VLAN tag, the SRTP tag, and SecTAG and ICV, at least 64. -/
def State.frameBytes (s : State) (f port payload : Nat) : Nat :=
  let w0 := s.txWord f 0
  let v6 := bit w0 5
  let vid := bits (s.netWord (port / 32) 0 (port % 32) 1) 27 16
  max 64 (payload + 38 + (if v6 then 40 else 20) + (if vid ≠ 0 then 4 else 0) + (if bit w0 6 then 16 else 0)) +
    (if s.rd (NET port) Reg.NET_PORT_CFG_MACSEC = 1 then 32 else 0)

/-- A flow's destination is multicast (R327, R330). -/
def State.flowMulticast (s : State) (f : Nat) : Bool :=
  if bit (s.txWord f 0) 5 then s.txWord f 4 / 2 ^ 24 = 0xFF else s.txWord f 4 / 2 ^ 28 = 0xE

/-- A flow's destination address. -/
def State.flowDest (s : State) (f : Nat) : Nat :=
  if bit (s.txWord f 0) 5 then s.netAddr (f / 2048) 2 (f % 2048) 4 else s.txWord f 4

/-- The next hop of a flow on a port is known (R327, R330). -/
def State.hopKnown (s : State) (f port : Nat) : Bool :=
  s.flowMulticast f || s.net.neighbours.any fun e => e.1 = port && e.2.1 = s.flowDest f

/-- The flow carries encryption (R329). -/
def State.flowEncrypted (s : State) (v : Values) (f : Nat) : Bool :=
  let w0 := s.txWord f 0
  let port := 32 * (f / 2048) + bits w0 4 0
  let sc := s.netWord (f / 2048) 4 (bits w0 4 0 * 5) 0
  bit w0 6 || (v (NET port) Reg.NET_PORT_CFG_MACSEC = 1 && bit sc 0 && bit sc 2)

/-- Policy flag SEALED_CLEAR (R460). -/
def State.sealedClear (s : State) : Bool := match s.sec.policy with | some p => bit p.flags 0 | none => false

/-- The flow may carry sealed content that is not CLEAR_OK (R464). -/
def State.flowMayCarry (s : State) (f : Nat) : Bool := s.flowEncrypted s.rd f || s.sealedClear

/-- The MAC address of a flow's next hop on a port: of a multicast group by RFC 1112 and RFC 2464, else as firmware resolved it (R327). -/
def State.hopMac (s : State) (f port : Nat) : Nat :=
  let dst := s.flowDest f
  if s.flowMulticast f then
    if bit (s.txWord f 0) 5 then 0x333300000000 + dst % 2 ^ 32 else 0x01005E000000 + dst % 2 ^ 23
  else ((s.net.neighbours.find? fun e => e.1 = port && e.2.1 = dst).map (·.2.2)).getD 0

/-- The headers of a flow's packets on a port (R325, R329, R330). -/
def State.txHeader (s : State) (f port : Nat) : TxHeader :=
  let x := port / 32
  let own (k : Nat) : Nat := s.netWord x 0 (port % 32) k
  let v6 := bit (s.txWord f 0) 5
  let ttl := bits (s.txWord f 8) 27 20
  { srcMac := own 0 + own 1 % 65536 * 2 ^ 32, dstMac := s.hopMac f port, vid := bits (own 1) 27 16, pcp := bits (own 1) 30 28,
    ipv6 := v6, src := if v6 then s.netAddr x 0 (port % 32) 3 else own 2, dst := s.flowDest f, dscp := bits (s.txWord f 8) 19 14,
    ttl := if ttl = 0 then (s.word (NETG x) 0x78).toNat % 256 else ttl,
    sport := s.txWord f 3 / 65536, dport := s.txWord f 3 % 65536 }

/-- Form one packet of a flow and queue it, with its copy for a DUP flow (R330, R335, R336): sequence number and SRTP index, which is
the roll-over counter × 2^16 with the sequence number, advance whether it is sent or not; a port with ENABLE 0 suppresses it before its
queue. `frame` is the FRAME_NO that its content belongs to. -/
def State.formPacket (s : State) (f frame ts : Nat) (marker : Bool) (payload release : Nat) (sealed : Option Nat)
    (marks : List DuMark) (form : RtpForm := .single) : State :=
  let w0 := s.txWord f 0
  let x := f / 2048
  let t := tget {} s.net.tx f
  let seq := t.seq.getD (s.txWord f 1 / 65536)
  let t1 : TxFlow := { t with seq := some ((seq + 1) % 65536), roc := t.roc + (seq + 1) / 65536 }
  let s1 := { s with net := { s.net with tx := tins f t1 s.net.tx } }
  let send (u : State) (port : Nat) (b : Bool) : State :=
    if !u.enabled (NET port) then u.netCount port Reg.NETG_TX_SUPPRESSED
    else
      let known := u.hopKnown f port
      let r := tget {} u.net.tx f
      let u0 := { u with net := { u.net with
        tx := tins f { r with unresolved := !known, unresolvedSeen := r.unresolvedSeen || !known } u.net.tx } }
      let u1 := if known || r.unresolvedSeen then u0
        else (u0.occur (NETG x) 0x23 0 (f % 2048)).emit (.resolve port (u0.flowDest f))
      u1.enqueue { flow := f, frame := frame, port := port, copyB := b, kind := bits w0 23 21, pt := s.txWord f 1 % 128, ssrc := s.txWord f 2,
                   seq := seq, ts := ts % 2 ^ 32, marker := marker, bytes := payload,
                   wire := u.frameBytes f port payload + 20, release := release, sealedFrame := sealed, resolved := known,
                   marks := marks, header := u.txHeader f port, form := form,
                   srtp := if bit w0 6 then some (t.roc * 65536 + seq) else none }
  let s2 := send s1 (32 * x + bits w0 4 0) false
  if bit w0 7 then send s2 (32 * x + bits w0 12 8) true else s2

/-- The size of one packet for a group of NAL units that share it: an aggregation packet, or one NAL unit alone (R332). -/
def groupSize (g : List Nat) : Nat := match g with | [] => 0 | [n] => n | l => 2 + (l.map (· + 2)).sum

/-- RTP payload sizes of KIND 0 and 1 for the NAL units of one emission, each with how many of them end in it (R332): while
the next NAL units fit together they share one aggregation packet; one alone is a single NAL unit packet; a larger one
is split into fragmentation units of PAYLOAD_MAX − 3 bytes of the unit without its 2-byte header. `cur` is the group
being gathered. -/
def packNals (maxP : Nat) : List Nat → List Nat → List (Nat × Nat)
  | cur, [] => if cur.isEmpty then [] else [(groupSize cur, cur.length)]
  | cur, n :: t =>
    let close : List (Nat × Nat) := if cur.isEmpty then [] else [(groupSize cur, cur.length)]
    if maxP < n then
      let body := n - 2
      let k := max 1 (maxP - 3)
      let m := cdiv body k
      close ++ ((List.range m).map fun i => (3 + min k (body - i * k), b2n (i + 1 = m))) ++ packNals maxP [] t
    else if groupSize (cur ++ [n]) ≤ maxP then packNals maxP (cur ++ [n]) t
    else close ++ packNals maxP [n] t

/-- The forms of the same packets (R332); `ends` says that the last NAL unit ends its access unit, whose last fragmentation unit has P set
if it is no filler (RFC 9328; RFC 7798 has no P bit). -/
def packForms (vvc ends : Bool) (maxP : Nat) : List Nat → List Nat → List RtpForm
  | cur, [] => match cur with | [] => [] | [_] => [.single] | l => [.aggregate l.length]
  | cur, n :: t =>
    let close : List RtpForm := match cur with | [] => [] | [_] => [.single] | l => [.aggregate l.length]
    if maxP < n then
      let m := cdiv (n - 2) (max 1 (maxP - 3))
      close ++ ((List.range m).map fun i => .fragment (i = 0) (i + 1 = m) (vvc && ends && t.isEmpty && i + 1 = m)) ++
        packForms vvc ends maxP [] t
    else if groupSize (cur ++ [n]) ≤ maxP then packForms vvc ends maxP (cur ++ [n]) t
    else close ++ packForms vvc ends maxP [n] t

/-- The NAL unit type of an aggregation packet, and of a fragmentation unit (R332). -/
def payloadType (vvc : Bool) (form : RtpForm) : Option Nat :=
  match form with
  | .aggregate _ => some (if vvc then 28 else 48)
  | .fragment _ _ _ => some (if vvc then 29 else 49)
  | _ => none

/-- The FU header: S, E, for VVC P, and the type of the NAL unit (R332). -/
def fuHeader (vvc start stop last : Bool) (type : Nat) : Nat :=
  b2n start <<< 7 ||| b2n stop <<< 6 ||| (if vvc then b2n last <<< 5 ||| type % 32 else type % 64)

/-- The transport stream packets of `bytes` of one PES packet or table on a PID (R333), continuity counters apart; the first one carries the
PCR, in 8 bytes of adaptation field, and the last is filled up. -/
def tsSplit (pid bytes : Nat) (start : Bool) (pts pcr : Option Nat) : List TsPacket :=
  let c := if pcr.isSome then 176 else 184
  (List.range (1 + cdiv (bytes - c) 184)).map fun i =>
    { pid := pid, start := start && i = 0, pts := if i = 0 then pts else none, pcr := if i = 0 then pcr else none,
      bytes := if i = 0 then min c bytes else min 184 (bytes - c - (i - 1) * 184) }

/-- Continuity counters run per PID (R333). -/
def tsCount (cc : List (Nat × Nat)) : List TsPacket → List TsPacket × List (Nat × Nat)
  | [] => ([], cc)
  | p :: t =>
    let n := tget 0 cc p.pid
    let r := tsCount (tput 0 cc p.pid ((n + 1) % 16)) t
    ({ p with cc := n } :: r.1, r.2)

/-- RTP packets of 7 transport stream packets (R333): sizes, with the `nals` NAL units of the emission ending in the last one. -/
def packTs (l : List TsPacket) (nals : Nat) : List ((Nat × Nat) × RtpForm) :=
  let m := cdiv l.length 7
  (List.range m).map fun i =>
    let c := (l.drop (7 * i)).take 7
    ((188 * c.length, if i + 1 = m then nals else 0), .ts c)

/-- The RTP timestamp of a frame at 90 kHz (R331). -/
def rtpStamp (rate f : Nat) : Nat := beatStart rate f * 90000 / (65536 * 1000000000) % 2 ^ 32

/-- A packet withheld at its start: counted, and kept for the replay window, at most 1,000 µs back (R342, R404). -/
def State.suppress (s : State) (p t : Nat) (h : TxPacket) : State :=
  { s.netCount p Reg.NETG_TX_SUPPRESSED with shadow := (s.shadow.filter fun e => t < e.1 + us 1000) ++ [(t, h)] }

/-- The SecTAG of a frame on a port with MACSEC 1 whose transmit SC is VALID (R337): the packet number counts from the initial one. -/
def State.secTag (s : State) (p : Nat) : Option SecTag :=
  let w (k : Nat) : Nat := s.netWord (p / 32) 4 (p % 32 * 5) k
  if s.rd (NET p) Reg.NET_PORT_CFG_MACSEC = 1 && bit (w 0) 0 then
    some { sci := w 1 + 2 ^ 32 * w 2, an := bits (w 0) 5 4, pn := tget (w 5 + 2 ^ 32 * w 6) s.net.pnTx p, icvOk := true }
  else none

/-- A packet leaves on a port. -/
def State.sendPacket (s : State) (p t : Nat) (h : TxPacket) : State :=
  let tag := s.secTag p
  let s1 := match tag with
    | some g => { s with net := { s.net with pnTx := tins p (g.pn + 1) s.net.pnTx } }
    | none => s
  (s1.inc (NET p) Reg.NET_TX_FRAMES).emit (.packet p t { h with tag := tag })

/-- The resolved and permitted fate of a packet that starts: withheld by fence (R73), helm or its port's ENABLE 0 it is counted in TX_SUPPRESSED, kept
for the replay window; sealed content a flow may not carry is blocked (R465); without a next hop it is not sent; else
it leaves (R330, R342). -/
def State.transmit (s : State) (p t : Nat) (h : TxPacket) : State :=
  match h.sealedFrame with
  | some fr =>
    if !s.flowMayCarry h.flow then
      let x := tget {} s.net.tx h.flow
      let s1 := { s with sec := { s.sec with lastBlocked := some s.tm.frame } }.inc ⟨.sec, 2⟩ Reg.SEC2_SEALED_BLOCKED
      if x.blockedFrame = some fr then s1
      else ({ s1 with net := { s1.net with tx := tins h.flow { x with blockedFrame := some fr } s1.net.tx } }).occur ⟨.sec, 2⟩
        0x21 0 ((h.flow % 4096) <<< 36 ||| s.frameNo % 2 ^ 32)
    else if s.mutedFor h.frame || !s.enabled (NET p) then s.suppress p t h
    else if !h.resolved then s.netCount p Reg.NETG_TX_UNRESOLVED
    else s.sendPacket p t h
  | none =>
    if s.mutedFor h.frame || !s.enabled (NET p) then s.suppress p t h
    else if !h.resolved then s.netCount p Reg.NETG_TX_UNRESOLVED
    else s.sendPacket p t h

/-! PTP (R338). -/

/-- The local ports that take part in a chiplet's PTP instance: by ROLE the lowest with PTP 1, or every one; a LOOPED port
does not take part (R322). -/
def State.ptpPorts (s : State) (x : Nat) : List Nat :=
  let l := (List.range 32).filter fun j => s.enabled (NET (32 * x + j)) && s.rd (NET (32 * x + j)) Reg.NET_PORT_CFG_PTP = 1
  (match s.rd (NETG x) Reg.NETG_PTP_CFG_ROLE with
    | 1 => l.take 1
    | 2 => l
    | _ => []).filter fun j => s.rd (NET (32 * x + j)) Reg.NET_PORT_STATE_LOOPED = 0

/-- A PTP instance. -/
def State.ptpOf (s : State) (x : Nat) : PtpState := tget {} s.net.ptp x
def State.setPtp (s : State) (x : Nat) (v : PtpState) : State := { s with net := { s.net with ptp := tput {} s.net.ptp x v } }

/-- The servo of the selected instance (R338): 16 consecutive Sync messages within 100 ns lock; in ACQUIRING SYSTIME is
stepped once while no raster or channel is enabled, else its rate is offset (R256). -/
def State.ptpServo (s : State) (x : Nat) (offset : Int) : State :=
  let v := s.ptpOf x
  let n := if offset.natAbs ≤ 100 then v.inLimits + 1 else 0
  let s1 := s.setPtp x { v with inLimits := n }
  if s.rd SYS Reg.SYS_REF_CFG_TIME_SEL ≠ 1 || s.following || s.net.ptpFirst ≠ some x then s1
  else
    let st := s.rd SYS Reg.SYS_REF_STATE_STATE
    let mag : Int := (s1.free 32 % 1000001 : Nat)
    let s2 := s1.drawn
    let s3 := { s2 with ref := { s2.ref with steer := if offset = 0 then 0 else if offset < 0 then mag else -mag } }
    if st = 3 then s3.acquire
    else if st = 1 then
      if !s.ref.stepped && !s.pictureEnabled then
        ({ s3 with ref := { s3.ref with stepped := true, steer := 0 } }).stepTime ((s.tm.sys : Int) - offset * 65536).toNat
      else if 16 ≤ n then (s3.setRefState 2).occurF SYS 0x29 1
      else s3
    else s3

/-- The instance that SYSTIME follows: the one whose slave port was chosen first, as long as it has one (R338). -/
def State.ptpChoose (s : State) : State :=
  let has (x : Nat) : Bool := s.rd (NETG x) Reg.NETG_PTP_STATE_SLAVE = 1
  let first := match s.net.ptpFirst with | some x => if has x then some x else [0, 1].find? has | none => [0, 1].find? has
  { s with net := { s.net with ptpFirst := first } }

/-- A PTP message of domain `dom` over IPv4 or IPv6 reaches port `p` (R338): one of another domain or transport is ignored; with SLAVE_ONLY
no port enters MASTER. An Announce carries what the default BMCA of IEEE 1588 decides with it. -/
def State.ptpMessage (s : State) (p dom : Nat) (v6 : Bool) (m : PtpMessage) : State :=
  let x := p / 32
  let q := NETG x
  if !(s.ptpPorts x).contains (p % 32) || s.rd q Reg.NETG_PTP_CFG_DOMAIN ≠ dom || s.rd q Reg.NETG_PTP_CFG_IPV6 ≠ b2n v6 then s
  else
    match m with
    | .announce states gm cls master =>
      let v := s.ptpOf x
      let s1 := s.each states fun t e => if (s.ptpPorts x).contains e.1 then t.wr (NET (32 * x + e.1)) Reg.NET_PORT_STATE_PTP_STATE
        (if e.2 = 6 ∧ s.rd q Reg.NETG_PTP_CFG_SLAVE_ONLY = 1 then 4 else e.2) else t
      let slave := states.find? fun e => e.2 = 9
      let s2 := (s1.wr q ⟨0x84, 4, 0⟩ (match slave with | some e => e.1 | none => 0)).wr q ⟨0x84, 5, 5⟩ (b2n slave.isSome)
      let s3 := ((s2.wr q ⟨0x84, 15, 8⟩ (if slave.isSome then cls else 248)).wr q Reg.NETG_GM_ID_LO gm).wr q Reg.NETG_GM_ID_HI (gm / 2 ^ 32)
      let s4 := if v.master = master then s3 else s3.inc q ⟨0x84, 31, 16⟩
      let s5 := if v.grandmaster = gm then s4 else s4.occurF q 0x21 (match slave with | some e => e.1 | none => 0)
      (s5.setPtp x { v with master := master, grandmaster := gm }).ptpChoose
    | .sync offset delay =>
      ((s.wr q Reg.NETG_PTP_OFFSET (sat32 offset)).wr q Reg.NETG_PTP_DELAY delay).ptpServo x offset
    | .delayReq => if s.rd (NET p) Reg.NET_PORT_STATE_PTP_STATE = 6 then s.emit (.control p "Delay_Resp") else s
    | .other => s

/-- PTP_MESSAGE_RECEIVED (R338) on port `p` at SYSTIME `t`. -/
def execPtpMessageReceived (p t : Nat) (m : PtpPacket) (s : State) : Host.Outcome State Fault Refusal :=
  live s ((s.advance t).ptpMessage p m.domain m.ipv6 m.body)

/-- What a master announces on port `p` (R338): with an upstream master its grandmaster's data set, else clockClass 248 with the instance's own
priorities and timeSource 0xA0, or 0x90 with TIME_SEL REF_IN. -/
def State.announced (s : State) (p : Nat) : Out :=
  let q := NETG (p / 32)
  let gm := s.rd q Reg.NETG_GM_ID_LO + 2 ^ 32 * s.rd q Reg.NETG_GM_ID_HI
  let dom := s.rd q Reg.NETG_PTP_CFG_DOMAIN
  if s.rd q Reg.NETG_PTP_STATE_SLAVE = 1 then .announce p dom (s.rd q ⟨0x84, 15, 8⟩) gm none
  else .announce p dom 248 gm (some (s.rd q ⟨0x80, 7, 0⟩, s.rd q ⟨0x80, 15, 8⟩,
    if s.rd SYS Reg.SYS_REF_CFG_TIME_SEL = 2 then 0x90 else 0xA0))

/-- PTP_MESSAGE_TIMER (R338): a master sends Announce and Sync, with Follow_Up in two-step operation, a slave Delay_Req. -/
def State.ptpTimer (s : State) (p : Nat) (m : PtpTimer) : State :=
  let x := p / 32
  let st := s.rd (NET p) Reg.NET_PORT_STATE_PTP_STATE
  if !(s.ptpPorts x).contains (p % 32) then s
  else
    match m with
    | .announce => if st = 6 then s.emit (s.announced p) else s
    | .sync =>
      if st = 6 then
        let s1 := s.emit (.control p "Sync")
        if s.rd (NETG x) Reg.NETG_PTP_CFG_TWO_STEP = 1 then s1.emit (.control p "Follow_Up") else s1
      else s
    | .delayReq => if st = 8 ∨ st = 9 then s.emit (.control p "Delay_Req") else s

/-- PTP_MESSAGE_TIMER (R338). -/
def execPtpMessageTimer (p : Nat) (m : PtpTimer) (s : State) : Host.Outcome State Fault Refusal := live s (s.ptpTimer p m)

/-- PTP_ANNOUNCE_TIMEOUT (R338) on port `p`: the master is lost, PTP_LOST recorded, with the effects of REF_LOST where PTP
disciplines SYSTIME; without a master the port listens (IEEE 1588). -/
def State.ptpTimeout (s : State) (p : Nat) : State :=
  let x := p / 32
  let v := s.ptpOf x
  if v.master.isNone || !(s.ptpPorts x).contains (p % 32) then s
  else
    let s1 := ((s.setPtp x { v with master := none, inLimits := 0 }).occurF (NETG x) 0x22 (p % 32)).wr (NET p)
      Reg.NET_PORT_STATE_PTP_STATE 4
    let s2 := (s1.wr (NETG x) ⟨0x84, 5, 5⟩ 0).wr (NETG x) ⟨0x84, 15, 8⟩ 248
    let st := s.rd SYS Reg.SYS_REF_STATE_STATE
    let used := s.rd SYS Reg.SYS_REF_CFG_TIME_SEL = 1 && s.net.ptpFirst = some x && !s.following && (st = 1 || st = 2)
    let s3 := s2.ptpChoose
    if used then s3.refLost else s3

/-- PTP_ANNOUNCE_TIMEOUT (R338). -/
def execPtpAnnounceTimeout (p : Nat) (s : State) : Host.Outcome State Fault Refusal := live s (s.ptpTimeout p)

/-! Validation (R320). -/

/-- Lanes and rate of a MODE (R319). -/
def modeLanes (mode : Nat) : Nat × Nat :=
  match mode with
  | 0 => (1, 2) | 1 => (1, 3) | 2 => (4, 2) | 3 => (1, 4) | 4 => (4, 3) | 5 => (2, 4) | 6 => (8, 3) | 7 => (4, 4) | _ => (0, 0)

/-- The enabled lanes of a quad with a logical number, SPARE left out: logical numbers, by lane. -/
def quadLogicals (v : Values) (q : Nat) : List Nat :=
  (((List.range 4).filter fun k => v ⟨.wide, 4 * q + k⟩ Reg.PAGE_CTL_ENABLE = 1).map fun k =>
    v ⟨.wide, 4 * q + k⟩ Reg.WL_LANE_CFG_LOGICAL).filter (· < 4)

/-- A quad carries a fabric port or the mooring link (R320). -/
def quadTaken (v : Values) (q : Nat) : Bool :=
  (List.range 16).any (fun j => v ⟨.fabPort, j⟩ Reg.PAGE_CTL_ENABLE = 1 && v ⟨.fabPort, j⟩ Reg.FPORT_FPORT_CFG_QUAD = q) ||
    (v MATE Reg.PAGE_CTL_ENABLE = 1 && 30 ≤ q)

/-- The pages that make quad `q` a fabric port's or the mooring link's. -/
def quadTakers (v : Values) (q : Nat) : List Page :=
  ((List.range 16).filter fun j => v ⟨.fabPort, j⟩ Reg.PAGE_CTL_ENABLE = 1 && v ⟨.fabPort, j⟩ Reg.FPORT_FPORT_CFG_QUAD = q).map
    (fun j => ⟨.fabPort, j⟩) ++ if 30 ≤ q then [MATE] else []

/-- The checks of R320 on an enabled NET port: on its own page, on the even port of its quad, on the wide lanes of its quads, and on
the pages that take its quads. R320 names the NET port as the page that fails. -/
def netChecks (v : Values) (p : Nat) : List Charge :=
  let n := NET p
  let q := p / 2
  let even := NET (2 * q)
  let mode := v n Reg.NET_PORT_CFG_MODE
  let w := (modeLanes mode).1
  let split := v even Reg.NET_PORT_CFG_SPLIT = 1
  let quads := if mode = 6 then [q, q + 1] else [q]
  let lanes : List Page := quads.flatMap fun k => (List.range 4).map fun j => ⟨.wide, 4 * k + j⟩
  let need := if mode = 6 then [0, 1, 2, 3] else List.range (if split then 2 * w else w)
  let mf := v n Reg.NET_PORT_CFG_MAX_FRAME
  let wider := NET (2 * (q - 1))
  let shared := mode ≠ 6 && q % 2 = 1 && v wider Reg.PAGE_CTL_ENABLE = 1 && v wider Reg.NET_PORT_CFG_MODE = 6
  let charge (ports others : List Page) (bad : Bool) : List Charge :=
    if bad then [{ pages := ports ++ others, named := ports, reason := 0x01 }] else []
  charge1 n (7 < mode || mf < 1518 || 9216 < mf || (mode = 6 && (p % 2 = 1 || q % 2 = 1)) ||
    (v n Reg.NET_PORT_CFG_FEC_NONE = 1 && mode ≠ 0 && mode ≠ 2)) 0x01 ++
  charge [n, even] [] ((split && 2 < w) || (p % 2 = 1 && !split) || (split && v even Reg.NET_PORT_CFG_MODE ≠ mode)) ++
  charge [n, wider] [] shared ++
  charge [n] lanes (lanes.any fun l => v l Reg.PAGE_CTL_ENABLE = 1 && v l Reg.WL_LANE_CFG_LOGICAL < 4 && v l Reg.WL_LANE_CFG_RATE ≠ (modeLanes mode).2) ++
  charge [n, even] lanes (quads.any fun k =>
    (List.range 4).filter (fun l => (quadLogicals v k).contains l) ≠ need || (quadLogicals v k).length ≠ need.length) ++
  charge [n] (quads.flatMap (quadTakers v)) (quads.any (quadTaken v))

/-- A change of MODE or SPLIT restarts the port's PCS, so LINK falls (R321); a disabled port has no LINK. -/
def State.netApplied (s o : State) (p : Nat) : State :=
  let same := s.rd (NET p) Reg.NET_PORT_CFG_MODE = o.rd (NET p) Reg.NET_PORT_CFG_MODE &&
    s.rd (NET (p / 2 * 2)) Reg.NET_PORT_CFG_SPLIT = o.rd (NET (p / 2 * 2)) Reg.NET_PORT_CFG_SPLIT
  (if s.enabled (NET p) && same then s else s.netLink p false).showLooped p

end Sys2Proof.Machine
end

