-- ==== Sys2Proof/Machine/Colour.lean ====
section
/-!
DEFINITION. Colour spaces and tone mapping (06_colour_tone.md R132-R146): the input, wall and broadcast transforms, the
colour tables, the statistics and the tone curve.
-/

namespace Sys2Proof.Machine

/-- COLOUR raster page. -/
abbrev COL (r : Nat) : Page := ⟨.colour, r⟩

/-- Hidden state of a raster. -/
def State.ras (s : State) (r : Nat) : RasterState := tget {} s.cmp.rasters r
def State.setRas (s : State) (r : Nat) (x : RasterState) : State :=
  { s with cmp := { s.cmp with rasters := tput {} s.cmp.rasters r x } }

/-- Clamp an integer to 0-65,535. -/
def clamp16 (i : Int) : Nat := (clampI 0 65535 i).toNat

/-- The shift right by n of an integer, a floor. -/
def asr (i : Int) (n : Nat) : Int := i / (2 ^ n : Nat)

/-- Three components. -/
abbrev Rgb := Nat × Nat × Nat

/-- Apply a function to each component. -/
def Rgb.map (f : Nat → Nat) (c : Rgb) : Rgb := (f c.1, f c.2.1, f c.2.2)

/-- A 3 × 3 matrix in units of 1/4,096: add 2,048, shift right by 12, clamp to [0, top] (R137, R140). -/
def mat3 (m : List Int) (top : Int) (c : Rgb) : Rgb :=
  let row (k : Nat) : Nat := (clampI 0 top (asr (m.getD (3 * k) 0 * c.1 + m.getD (3 * k + 1) 0 * c.2.1
    + m.getD (3 * k + 2) 0 * c.2.2 + 2048) 12)).toNat
  (row 0, row 1, row 2)

/-- M_709→2020. -/
def m709to2020 : List Int := [2570, 1349, 177, 283, 3766, 47, 67, 360, 3669]

/-- M_2020→709. -/
def m2020to709 : List Int := [6801, -2407, -298, -510, 4640, -34, -74, -412, 4582]

/-- K of a WORK_PEAK code (R134). -/
def workK (peak : Nat) : Nat := match peak with | 0 => 40951 | 1 => 20475 | 2 => 10238 | _ => 4095

/-- Stage a for luma or an RGB component (R137). -/
def rangeY (range v : Nat) : Nat := if range = 0 then clamp16 (asr (((v : Int) - 4096) * 76608 + 32768) 16) else v

/-- Stage a for chroma. -/
def rangeC (range v : Nat) : Int :=
  if range = 0 then clampI (-32768) 32767 (asr (((v : Int) - 32768) * 74898 + 32768) 16) else (v : Int) - 32768

/-- Stages a and b: R′G′B′ of a surface's channels (R137). -/
def toRgb (ycc : Bool) (colorimetry range : Nat) (c : Rgb) : Rgb :=
  if ycc then
    let y : Int := rangeY range c.1
    let cb := rangeC range c.2.1
    let cr := rangeC range c.2.2
    let k : Int × Int × Int × Int := if colorimetry = 0 then (6450, 767, 1917, 7601) else (6040, 674, 2340, 7706)
    (clamp16 (y + asr (k.1 * cr + 2048) 12), clamp16 (y - asr (k.2.1 * cb + k.2.2.1 * cr + 2048) 12),
     clamp16 (y + asr (k.2.2.2 * cb + 2048) 12))
  else c.map (rangeY range)

/-- Stages c and d: linear display light (R137). -/
def linearise (tcs : Nat) (c : Rgb) : Rgb :=
  match tcs with
  | 0 => c.map (interp eSdr)
  | 1 => c.map (interp ePq)
  | 2 =>
    let l := c.map (interp eHlg)
    let y := (1076 * l.1 + 2777 * l.2.1 + 243 * l.2.2 + 2048) / 4096
    l.map fun v => (v * gHlg (y / 16) + 32768) / 65536
  | _ => c

/-- The input transform (R136, R137): channels of a source with its colour (colorimetry, transfer, range) to working
components, at a working peak. -/
def inputTransform (peak : Nat) (ycc : Bool) (colour : Nat × Nat × Nat) (c : Rgb) : Rgb :=
  let l := linearise colour.2.1 (toRgb ycc colour.1 colour.2.2 c)
  let g := if colour.1 = 0 then mat3 m709to2020 65535 l else l
  if colour.2.1 = 3 then g.map (· / 16) else g.map fun v => min 4095 ((v * workK peak + 2 ^ 31) / 2 ^ 32)

/-! Wall transform. -/

/-- The order of the axes by fraction, largest first, equal fractions in the order r, g, b (R139). -/
def axesOrder (f : Rgb) : List Nat :=
  let (a, b, c) := f
  if a ≥ b then (if b ≥ c then [0, 1, 2] else if a ≥ c then [0, 2, 1] else [2, 0, 1])
  else (if a ≥ c then [1, 0, 2] else if b ≥ c then [1, 2, 0] else [2, 1, 0])

/-- Component of a triple by axis. -/
def axis (c : Rgb) (k : Nat) : Nat := if k = 0 then c.1 else if k = 1 then c.2.1 else c.2.2

/-- A triple stepped by 1 along an axis. -/
def stepAxis (c : Rgb) (k : Nat) : Rgb :=
  if k = 0 then (c.1 + 1, c.2.1, c.2.2) else if k = 1 then (c.1, c.2.1 + 1, c.2.2) else (c.1, c.2.1, c.2.2 + 1)

/-- The tetrahedral lookup of R139 in grid points `v`. -/
def tetra (v : Rgb → Nat → Nat) (c : Rgb) : Rgb :=
  let x := c.map (· / 2048)
  let f := c.map (· % 2048)
  let o := axesOrder f
  let a1 := o.getD 0 0
  let a2 := o.getD 1 0
  let a3 := o.getD 2 0
  let p1 := stepAxis x a1
  let p2 := stepAxis p1 a2
  let p3 := stepAxis p2 a3
  let out (k : Nat) : Nat := (v x k * (2048 - axis f a1) + v p1 k * (axis f a1 - axis f a2)
    + v p2 k * (axis f a2 - axis f a3) + v p3 k * axis f a3 + 1024) / 2048
  (out 0, out 1, out 2)

/-- The wall transform of a composed pixel with the latched values of a raster (R138). -/
def State.wall (s : State) (r : Nat) (c : Rgb) : Rgb :=
  let gain := s.rdL (COL r) Reg.COLOUR_WALL_CFG_WALL_GAIN
  let bank := s.rdL (COL r) Reg.COLOUR_WALL_CFG_WALL_BANK
  let g := c.map fun v => (v * gain + 2048) / 4096
  let sh := (s.lut r bank 0 g.1, s.lut r bank 0 (4096 + g.2.1), s.lut r bank 0 (8192 + g.2.2))
  if s.rdL (COL r) Reg.COLOUR_WALL_CFG_LUT3D_EN = 1 then
    tetra (fun p k => s.lut r bank 1 (3 * (p.1 * 1089 + p.2.1 * 33 + p.2.2) + k)) sh
  else sh

/-! Broadcast transform. -/

/-- Y′CbCr of R′G′B′, 16-bit, by the coefficients of BT.709 (SDR) or BT.2020 (R140 step 4). -/
def toYcc (sdr : Bool) (c : Rgb) : Nat × Int × Int :=
  let m : List Int := if sdr then [871, 2929, 296, -469, -1579, 2048, 2048, -1860, -188]
    else [1076, 2777, 243, -572, -1476, 2048, 2048, -1883, -165]
  let row (k : Nat) : Int := asr (m.getD (3 * k) 0 * c.1 + m.getD (3 * k + 1) 0 * c.2.1 + m.getD (3 * k + 2) 0 * c.2.2 + 2048) 12
  (clamp16 (row 0), clampI (-32768) 32767 (row 1), clampI (-32768) 32767 (row 2))

/-- The broadcast transform of a composed pixel (R140): 10-bit narrow-range Y′CbCr, with an output transfer and a tone
curve. -/
def broadcast (tcs : Nat) (tone : Nat → Nat) (c : Rgb) : Rgb :=
  let g := if tcs = 2 then mat3 m2020to709 4095 c else c
  let d := g.map tone
  let e := match tcs with
    | 0 => d.map (interp oPq)
    | 1 =>
      let y := (1076 * d.1 + 2777 * d.2.1 + 243 * d.2.2 + 2048) / 4096
      (d.map fun v => min 65535 ((v * igHlg (y / 16) + 2048) / 4096)).map (interp oHlg)
    | _ => d.map (interp oSdr)
  let y := toYcc (tcs = 2) e
  let c10 (v : Int) : Nat := (512 + asr (v * 896 + 32768) 16).toNat
  (64 + (y.1 * 876 + 32768) / 65536, c10 y.2.1, c10 y.2.2)

/-- The broadcast transform of a pixel of a composed frame, with the raster's latched values. -/
def State.bcast (s : State) (r curve : Nat) (c : Rgb) : Rgb :=
  broadcast (s.rdL (COL r) Reg.COLOUR_BCAST_CFG_OUT_TCS)
    (fun v => s.lut r (s.rdL (COL r) Reg.COLOUR_BCAST_CFG_BCAST_BANK) 2 (curve * 4096 + v)) c

/-! Tables (R141, R142, R144, R145). -/

/-- INDEX, TABLE and LUT_BANK of LUT_INDEX. -/
def State.lutPort (s : State) (r : Nat) : Nat × Nat × Nat :=
  (s.rd (COL r) Reg.COLOUR_LUT_INDEX_INDEX, s.rd (COL r) Reg.COLOUR_LUT_INDEX_TABLE, s.rd (COL r) Reg.COLOUR_LUT_INDEX_LUT_BANK)

/-- A bank of a table is in use (R142). -/
def State.lutInUse (s : State) (r table bank : Nat) : Bool :=
  s.anyUse (COL r) fun f =>
    (if table < 2 then f Reg.COLOUR_WALL_CFG_WALL_BANK else f Reg.COLOUR_BCAST_CFG_BCAST_BANK) = bank

/-- Width of a table's entries (R141). -/
def lutWidth (table : Nat) : Nat := if table = 3 then 6 else 16

/-- A write of LUT_DATA (R142). -/
def State.lutWrite (s : State) (a : Access) (r : Nat) (v : Word) : State :=
  let (i, table, bank) := s.lutPort r
  let addr := pageBase (COL r) + 0x54
  if lutSize table ≤ i then s.faulted a 0x10 true addr
  else if table = 4 then s.faulted a 0x12 true addr
  else
    let s1 := if s.lutInUse r table bank then s.occur (COL r) 0x20 table i
      else { s with cmp := { s.cmp with lut := tput (lutReset table i) s.cmp.lut (lutKey r bank table i)
                                                (v.toNat % 2 ^ lutWidth table) } }
    s1.wr (COL r) Reg.COLOUR_LUT_INDEX_INDEX ((i + 1) % lutSize table)

/-- An index of a capture of statistics (R144). -/
def statsWord (x : Stats) (i : Nat) : Nat :=
  if i < 64 then tget 0 x.hist i
  else match i with | 64 => x.top | 65 => x.key | 66 => x.frame % 2 ^ 32 | _ => x.count

/-- The statistics as a role reads them: sealed statistics read 0 in every index below OWNER (R145). -/
def Stats.shownTo (x : Stats) (role : Option Role) : Stats :=
  if x.isSealed && role ≠ some .owner && role ≠ some .factory then { isSealed := true } else x

/-- A read of LUT_DATA (R142, R144): the state after it and the value. -/
def State.lutRead (s : State) (a : Access) (r : Nat) : State × Nat :=
  let (i, table, bank) := s.lutPort r
  if lutSize table ≤ i then (s.faulted a 0x10 false (pageBase (COL r) + 0x54), 0)
  else if table = 4 then
    let x := s.ras r
    let s1 := if i = 0 then s.setRas r { x with captured := x.stats } else s
    (s1, match (s1.ras r).captured with | some v => statsWord (v.shownTo (s.roleOf a)) i | none => 0)
  else (s, s.lut r bank table i)

/-! Tone curve (R143). -/

/-- KEY_BIN: the least b for which the pixels in the bins above it, × 1,024, are at most N × TONE_PCT. -/
def keyBin (hist : List (Nat × Nat)) (n pct : Nat) : Nat :=
  ((List.range 64).find? fun b => ((hist.filter fun e => b < e.1).map (·.2)).sum * 1024 ≤ n * pct).getD 63

/-- The target index from the previous index and the values in force (R143). -/
def toneTarget (p key last hyst : Nat) (t : Nat → Nat) : Nat :=
  if p < last && t p ≤ key then p + 1 else if 0 < p && key + hyst < t (p - 1) then p - 1 else p

/-- TONE_CURVE_COMPUTE of a raster (R143, R146): from the statistics of the frame just composed. -/
def State.toneCompute (s : State) (r : Nat) : State :=
  let x := s.ras r
  match x.stats, x.composed with
  | some st, c :: _ =>
    if st.frame ≠ c.frame then s
    else
      let q := COL r
      let bank := s.rdL q Reg.COLOUR_BCAST_CFG_BCAST_BANK
      let t := toneTarget x.curve st.key (s.rdL q Reg.COLOUR_BCAST_CFG_CURVES_M1) (s.rdL q Reg.COLOUR_BCAST_CFG_HYST)
        (s.lut r bank 3)
      (s.setRas r { x with tone := some t }).wr q ⟨0xC, 0, 0⟩ (b2n (t ≠ c.curve))
  | _, _ => s

/-- TONE_CURVE_COMPUTE (R143). -/
def execToneCurveCompute (r : Nat) (s : State) : Host.Outcome State Fault Refusal := live s (s.toneCompute r)

/-- The curve of the frame latched now (R143): the latched values are already those of that frame. -/
def State.chooseCurve (s : State) (r : Nat) : Nat :=
  let x := s.ras r
  let q := COL r
  if s.rdL q Reg.COLOUR_BCAST_CFG_DYN_EN = 0 || x.composed.isEmpty || x.first then 0
  else min (x.tone.getD x.curve) (s.rdL q Reg.COLOUR_BCAST_CFG_CURVES_M1)

/-- The statistics of a frame become final at step 1 of R30. -/
def State.finishStats (s : State) (r : Nat) : State :=
  let x := s.ras r
  match x.composed with
  | c :: _ =>
    let k := keyBin c.stats.hist c.stats.count (s.rdL (COL r) Reg.COLOUR_BCAST_CFG_TONE_PCT)
    let st : Stats := { c.stats with key := k, frame := c.frame, isSealed := c.isSealed }
    let s1 := s.setRas r { x with stats := some st }
    ((s1.wr (COL r) Reg.COLOUR_TONE_STATE_KEY_BIN k).wr (COL r) Reg.COLOUR_TONE_STATE_STATS_FRAME c.frame).wr (COL r)
      ⟨0xC, 1, 1⟩ (b2n c.isSealed)
  | [] => s

/-- TONE_STATE as a role reads it (R145). -/
def State.toneStateShown (s : State) (a : Access) (r : Nat) : Nat :=
  let w := s.word (COL r) 0x4C
  let low := s.roleOf a ≠ some .owner && s.roleOf a ≠ some .factory
  let x := s.ras r
  let curveSealed := match x.composed with | c :: _ => c.isSealed | [] => false
  let keySealed := match x.stats with | some v => v.isSealed | none => false
  let w1 := if low && curveSealed then fset w 2 0 0 else w
  (if low && keySealed then fset w1 13 8 0 else w1).toNat

/-! Validation (R135). -/

/-- The checks of R135 on a COLOUR page. -/
def State.colourChecks (s : State) (v : Values) (r : Nat) : List Charge :=
  let q := COL r
  charge1 q (v q Reg.COLOUR_INPUT_CFG_COLORIMETRY > 2 || v q Reg.COLOUR_INPUT_CFG_TCS > 3
      || v q Reg.COLOUR_INPUT_CFG_RANGE > 2 || v q Reg.COLOUR_BCAST_CFG_OUT_TCS > 2) 0x01 ++
  charge1 q (v q Reg.COLOUR_WALL_CFG_WALL_GAIN > 4096) 0x01 ++
  charge1 q (s.threshBad r (v q Reg.COLOUR_BCAST_CFG_BCAST_BANK) (v q Reg.COLOUR_BCAST_CFG_CURVES_M1)) 0x01

end Sys2Proof.Machine
end

