-- ==== Sys2Proof/Machine/Compose.lean ====
section
/-!
DEFINITION. Layer composition (05_composition.md R98-R129): the pixel path, scalers, layer outcomes, safe colour mode, the
still pool and the checks of a commit.
-/

namespace Sys2Proof.Machine

/-- COMP raster, layer and scaler pages. -/
abbrev COMP (r : Nat) : Page := ⟨.compRaster, r⟩
abbrev LAYER (l : Nat) : Page := ⟨.compLayer, l⟩
abbrev SCALER (k : Nat) : Page := ⟨.compScaler, k⟩

/-! Scaler coefficients (R110-R112). -/

/-- A bank of a scaler is in use (R111). -/
def State.coefInUse (s : State) (k bank : Nat) : Bool := s.anyUse (SCALER k) fun f => f Reg.SCALER_SCALER_CFG_BANK = bank

/-- A write of COEF_DATA (R110-R112). -/
def State.coefWrite (s : State) (a : Access) (k : Nat) (v : Word) : State :=
  let q := SCALER k
  let i := s.rd q Reg.SCALER_COEF_INDEX_INDEX
  let bank := s.rd q Reg.SCALER_COEF_INDEX_COEF_BANK
  if 896 ≤ i then s.faulted a 0x10 true (pageBase q + 0x48)
  else
    let s1 := if s.coefInUse k bank then s.occur q 0x20 bank i
      else
        let u := ({ s with cmp := { s.cmp with coef := tput (coefReset i) s.cmp.coef (coefKey k bank i) (v.toNat % 4096) } }).storePv q
          0x48 v
        u.wr q ⟨0x4C, 4 * bank + 3, 4 * bank⟩ (u.bankValid k bank)
    s1.wr q Reg.SCALER_COEF_INDEX_INDEX (if i = 895 then 0 else i + 1)

/-- A read of COEF_DATA (R110): an INDEX beyond the bank reads 0 and records ACCESS_UNMAPPED. -/
def State.coefRead (s : State) (a : Access) (k : Nat) : State × Nat :=
  let q := SCALER k
  let i := s.rd q Reg.SCALER_COEF_INDEX_INDEX
  if 896 ≤ i then (s.faulted a 0x10 false (pageBase q + 0x48), 0)
  else (s, s.coefBits k (s.rd q Reg.SCALER_COEF_INDEX_COEF_BANK) i + s.rd q ⟨0x48, 31, 12⟩ * 4096)

/-! Surfaces (R83, R84, R104, R105). -/

/-- Four 16-bit channels: three colour channels and alpha. -/
abbrev Chan := Nat × Nat × Nat × Nat

/-- A 16-bit container of the host pool. -/
def State.read16 (s : State) (a : Nat) : Nat := (s.byteAt a).toNat + 256 * (s.byteAt (a + 1)).toNat

/-- Luma and chroma of a subsampled surface at a pixel, chroma upsampled by the rule of R105: `at` gives the chroma
sample of a pair. -/
def upsample (pairs x : Nat) (c : Nat → Nat) : Nat :=
  let k := x / 2
  if x % 2 = 0 then c k else (c k + c (if k + 1 < pairs then k + 1 else k) + 1) / 2

/-- The channels of a surface's pixel (R83, R104 stages 1 and 2). -/
def State.fetch (s : State) (f : Surf) (x y : Nat) : Chan :=
  let pitch := pitchOf f.fmt f.width
  let line := f.base + y * pitch
  let pairs := cdiv f.width 2
  match f.fmt with
  | 0 =>
    (s.read16 (line + x / 2 * 8 + 2 + x % 2 * 4), upsample pairs x fun k => s.read16 (line + 8 * k),
     upsample pairs x fun k => s.read16 (line + 8 * k + 4), 65535)
  | 1 => (s.read16 (line + 6 * x), s.read16 (line + 6 * x + 2), s.read16 (line + 6 * x + 4), 65535)
  | 2 => (s.read16 (line + 6 * x), s.read16 (line + 6 * x + 2), s.read16 (line + 6 * x + 4), 65535)
  | 3 => (s.read16 (line + 8 * x), s.read16 (line + 8 * x + 2), s.read16 (line + 8 * x + 4), s.read16 (line + 8 * x + 6))
  | 4 =>
    let b (k : Nat) : Nat := (s.byteAt (line + 4 * x + k)).toNat * 257
    (b 0, b 1, b 2, b 3)
  | _ =>
    let ch := f.base + pitch * f.height + y / 2 * pitch
    (s.read16 (line + 2 * x), upsample pairs x fun k => s.read16 (ch + 4 * k), upsample pairs x fun k => s.read16 (ch + 4 * k + 2),
     65535)

/-- A surface format of Y′CbCr components. -/
def isYcc (fmt : Nat) : Bool := fmt = 0 || fmt = 1 || fmt = 5

/-! Layer geometry: words 0x040-0x05C of the layer page. -/

/-- A field of the latched words of a layer. -/
def geoField (geo : List Nat) (f : Field) : Nat := bits (geo.getD ((f.off - 0x40) / 4) 0) f.hi f.lo

/-- The destination rectangle: left, top (signed), width, height (R99). -/
def destOf (geo : List Nat) : Int × Int × Nat × Nat :=
  let p := geo.getD 5 0
  let z := geo.getD 6 0
  (sgn 16 (p % 65536), sgn 16 (p / 65536), z % 65536, z / 65536)

/-- The source rectangle: x, y, width, height. -/
def sourceOfLayer (geo : List Nat) : Nat × Nat × Nat × Nat :=
  let p := geo.getD 3 0
  let z := geo.getD 4 0
  (p % 65536, p / 65536, z % 65536, z / 65536)

/-! Scaling (R113, R114). -/

/-- The position of destination pixel `i`, in units of 2^-16 source pixel. -/
def scalePos (i src dst : Nat) : Int := ((2 * i + 1) * src * 65536 / (2 * dst) : Nat) - (32768 : Int)

/-- An index outside a size is replaced by the nearest inside it. -/
def clampIdx (i : Int) (size : Nat) : Nat := (clampI 0 ((size : Int) - 1) i).toNat

/-- Apply a function of each channel's samples. -/
def chanSum (l : List (Int × Chan)) : Chan :=
  let f (g : Chan → Nat) : Nat := clamp16 (asr ((l.map fun e => e.1 * (g e.2 : Int)).sum + 512) 10)
  (f (·.1), f (·.2.1), f (·.2.2.1), f (·.2.2.2))

/-- The scaled channels at destination position (u, v) of a layer through scaler `k`: SCALER_CFG word `cfg`, `src` the
source rectangle's pixel (R114). -/
def State.scaled (s : State) (k cfg : Nat) (src : Nat → Nat → Chan) (sw sh dw dh u v : Nat) : Chan :=
  let bank := bits cfg 2 2
  let tap := vTaps (bits cfg 1 0)
  let py := scalePos v sh dh
  let px := scalePos u sw dw
  let m := asr py 16
  let n := asr px 16
  let phY := (py % 65536).toNat / 1024
  let phX := (px % 65536).toNat / 1024
  let vert (x : Nat) : Chan := chanSum ((List.range tap.2).map fun j =>
    let t := tap.1 + j
    (s.coef k bank (512 + 6 * phY + t), src x (clampIdx (m - 2 + t) sh)))
  chanSum ((List.range 8).map fun t => (s.coef k bank (8 * phX + t), vert (clampIdx (n - 3 + t) sw)))

/-- The last source line of the source rectangle that destination line `v` reads (R114). -/
def lastLine (geo : List Nat) (cfg v : Nat) : Nat :=
  let r := sourceOfLayer geo
  let d := destOf geo
  if geoField geo Reg.LAYER_BLEND_SCALE_EN = 0 then v
  else
    let tap := vTaps (bits cfg 1 0)
    clampIdx (asr (scalePos v r.2.2.2 d.2.2.2) 16 - 2 + tap.1 + (tap.2 - 1 : Nat)) r.2.2.2

/-! One layer's pixel (R104, R106). -/

/-- A layer's working components and effective alpha at destination position (u, v). -/
def State.layerPixel (s : State) (peak : Nat) (h : Shown) (f : Surf) (colour : Nat × Nat × Nat) (u v : Nat) : Rgb × Nat :=
  let g := h.geo
  let r := sourceOfLayer g
  let d := destOf g
  let src (x y : Nat) : Chan := s.fetch f (r.1 + x) (r.2.1 + y)
  let c := if geoField g Reg.LAYER_BLEND_SCALE_EN = 1 then
      s.scaled (geoField g Reg.LAYER_BLEND_SCALER) h.scaler src r.2.2.1 r.2.2.2 d.2.2.1 d.2.2.2 u v
    else src u v
  let w := inputTransform peak (isYcc f.fmt) colour (c.1, c.2.1, c.2.2.1)
  let apx := if geoField g Reg.LAYER_BLEND_ALPHA_MODE = 2 then 1024 else c.2.2.2 * 1025 / 65536
  (w, (apx * geoField g Reg.LAYER_BLEND_GLOBAL_ALPHA + 512) / 1024)

/-- Blend a layer's components over a picture (R107). -/
def blend (mode alpha ga c d : Nat) : Nat :=
  if mode = 1 then min 4095 ((c * ga + 512) / 1024 + ((1024 - alpha) * d + 512) / 1024)
  else (alpha * c + (1024 - alpha) * d + 512) / 1024

/-- A layer's pixel is CLEAR (R126). -/
def pixelClear (mode alpha ga : Nat) (c : Rgb) : Bool :=
  alpha = 0 && (mode ≠ 1 || c.map (fun v => (v * ga + 512) / 1024) = (0, 0, 0))

/-- The position of a raster pixel in a layer's destination rectangle, if it lies inside. -/
def inDest (geo : List Nat) (x y : Nat) : Option (Nat × Nat) :=
  let d := destOf geo
  let u := (x : Int) - d.1
  let v := (y : Int) - d.2.1
  if 0 ≤ u ∧ u < d.2.2.1 ∧ 0 ≤ v ∧ v < d.2.2.2 then some (u.toNat, v.toNat) else none

/-- The surface, and its colour, that a layer reads on output line `y` (R91): its previous surface once it fell behind. -/
def Shown.reads (h : Shown) (y : Nat) : Option (Surf × (Nat × Nat × Nat)) :=
  match h.fell with
  | some l => if l ≤ y then h.prev.map fun f => (f, h.prevColour) else h.surf.map fun f => (f, h.colour)
  | none => h.surf.map fun f => (f, h.colour)

/-- One layer over a pixel of the picture below it (R107, R118). -/
def State.overlay (s : State) (peak : Nat) (bg : Rgb) (x y : Nat) (p : Pix) (h : Shown) : Pix :=
  match inDest h.geo x y with
  | none => p
  | some (u, v) =>
    if h.acts = 2 then { r := bg.1, g := bg.2.1, b := bg.2.2, owner := 255, alpha := 0 }
    else if h.acts = 1 then
      match h.reads y with
      | none => p
      | some (f, col) =>
        let c := s.layerPixel peak h f col u v
        let mode := geoField h.geo Reg.LAYER_BLEND_ALPHA_MODE
        let ga := geoField h.geo Reg.LAYER_BLEND_GLOBAL_ALPHA
        let q : Pix := { r := blend mode c.2 ga c.1.1 p.r, g := blend mode c.2 ga c.1.2.1 p.g,
                         b := blend mode c.2 ga c.1.2.2 p.b, owner := h.layer, alpha := c.2 }
        if pixelClear mode c.2 ga c.1 then { q with owner := p.owner, alpha := p.alpha } else q
    else p

/-- Safe colour mode covers line `y` of a frame (R123). -/
def Composed.safeAt (c : Composed) (y : Nat) : Bool := match c.safeFrom with | some l => l ≤ y | none => false

/-- A composed pixel (R107, R108, R123). -/
def State.composePixel (s : State) (r : Nat) (c : Composed) (x y : Nat) : Pix :=
  let p : Pix := { r := c.bg.1, g := c.bg.2.1, b := c.bg.2.2, owner := 255, alpha := 0 }
  if c.safeAt y then p
  else c.shown.foldl (s.overlay (s.rdL (COL r) Reg.COLOUR_INPUT_CFG_WORK_PEAK) c.bg x y) p

/-- A composed line. -/
def State.composedLine (s : State) (r : Nat) (c : Composed) (y : Nat) : List Pix :=
  (List.range c.width).map fun x => s.composePixel r c x y

/-! Layers of a raster (R100). -/

/-- The layers on raster `r` by the latched values, from bottom to top: ascending Z, lower-numbered below. -/
def State.layersOn (s : State) (r : Nat) : List Nat :=
  let on := (List.range 128).filter fun l => s.enabledL (LAYER l) && s.rdL (LAYER l) Reg.LAYER_LAYER_CFG_RASTER = r
  (List.range 32).flatMap fun z => on.filter fun l => s.rdL (LAYER l) Reg.LAYER_LAYER_CFG_Z = z

/-- The latched words 0x040-0x05C of a layer. -/
def State.layerWords (s : State) (l : Nat) : List Nat := (List.range 8).map fun k => (s.wordL (LAYER l) (0x40 + 4 * k)).toNat

/-- DEC stream page; hidden state of a stream. -/
abbrev DEC (d : Nat) : Page := ⟨.dec, d⟩
def State.decStream (s : State) (d : Nat) : DecStream := tget {} s.dec d
def State.setDec (s : State) (d : Nat) (x : DecStream) : State := { s with dec := tput {} s.dec d x }

/-- Surface format of a DEC stream's CHROMA (R235). -/
def decFormat (chroma : Nat) : Nat := match chroma with | 0 => 5 | 1 => 0 | _ => 1

/-- The surface of a slot of an INGEST ring, with its publication number. -/
def State.ingestSurf (s : State) (i : Nat) (r : Ring) (slot pub : Nat) : Surf :=
  let p := ING i
  { base := r.slotBase slot, units := r.slotBytes / 65536, fmt := samplingFormat (s.rd p Reg.INGEST_FORMAT_SAMPLING),
    width := s.rd p Reg.INGEST_GEOMETRY_WIDTH, height := s.rd p Reg.INGEST_GEOMETRY_HEIGHT, pub := pub }

/-- The colour of an INGEST slot: FORMAT as it stood at the slot's fill (R78, R93). -/
def State.ingestColour (s : State) (i slot : Nat) : Nat × Nat × Nat :=
  let w := tget (s.word (ING i) 0x44).toNat (s.stream i).formats slot
  let g (f : Field) : Nat := bits w f.hi f.lo
  (g Reg.INGEST_FORMAT_COLORIMETRY, g Reg.INGEST_FORMAT_TCS, g Reg.INGEST_FORMAT_RANGE)

/-- What a layer finds at step 4 (R91, R117): the surface with its colour, the previous surface with its colour, whether
it follows a filling surface with the number of its fill, and the CONCEALED mark; none where it is not ready. -/
structure Choice where
  surf : Surf
  colour : Nat × Nat × Nat
  prev : Option (Surf × (Nat × Nat × Nat))
  following : Bool
  fill : Nat := 0
  concealed : Bool
  deriving DecidableEq, Repr

/-- The choice of a layer on raster `r`. -/
def State.choose (s : State) (r l : Nat) : Option Choice :=
  let q := LAYER l
  let i := s.rdL q Reg.LAYER_LAYER_CFG_STREAM
  match s.rdL q Reg.LAYER_LAYER_CFG_SOURCE with
  | 0 =>
    let x := s.stream i
    let newest := x.ring.newest.map fun k => (s.ingestSurf i x.ring k (x.ring.rank k), s.ingestColour i k)
    if s.rdL q Reg.LAYER_LAYER_CFG_LINE_FOLLOW = 1 then
      match x.ring.fill with
      | some k => some { surf := s.ingestSurf i x.ring k x.ring.nextOrder, colour := s.ingestColour i k, prev := newest,
                         following := true, fill := x.fills, concealed := false }
      | none => newest.map fun f => { surf := f.1, colour := f.2, prev := some f, following := false, concealed := false }
    else newest.map fun f => { surf := f.1, colour := f.2, prev := none, following := false, concealed := false }
  | 1 =>
    let x := s.decStream i
    let d := DEC i
    x.ring.newest.map fun k =>
      { surf := { base := x.ring.slotBase k, units := x.ring.slotBytes / 65536, fmt := decFormat (s.rdL d Reg.DEC_DEC_CFG_CHROMA),
                  width := s.rdL d Reg.DEC_GEOMETRY_WIDTH, height := s.rdL d Reg.DEC_GEOMETRY_HEIGHT, pub := x.ring.rank k },
        colour := (s.rdL d Reg.DEC_DEC_CFG_COLORIMETRY, s.rdL d Reg.DEC_DEC_CFG_TCS, s.rdL d Reg.DEC_DEC_CFG_RANGE),
        prev := none, following := false, concealed := x.marked.contains k }
  | _ =>
    let w := s.rdL q Reg.LAYER_HOST_GEOMETRY_WIDTH
    let h := s.rdL q Reg.LAYER_HOST_GEOMETRY_HEIGHT
    let f := s.rdL q Reg.LAYER_HOST_SURFACE_FORMAT
    some { surf := { base := s.rdL q Reg.LAYER_HOST_SURFACE_BASE * 65536, units := surfaceBytes f w h / 65536, fmt := f,
                     width := w, height := h, pub := 0 },
           colour := (s.rdL (COL r) Reg.COLOUR_INPUT_CFG_COLORIMETRY, s.rdL (COL r) Reg.COLOUR_INPUT_CFG_TCS,
                      s.rdL (COL r) Reg.COLOUR_INPUT_CFG_RANGE),
           prev := none, following := false, concealed := false }

/-- A surface is sealed (R463). -/
def State.surfSealed (s : State) (f : Surf) : Bool := s.sealedSpan f.base (f.units * 65536)

/-- The surfaces that a contribution reads: the chosen one, and the previous one once it fell behind. -/
def Shown.surfs (h : Shown) : List Surf := h.surf.toList ++ (if h.fell.isSome then h.prev.toList else [])

/-- A contribution reads a sealed surface (R463). -/
def State.shownSealed (s : State) (h : Shown) : Bool := h.acts = 1 && h.surfs.any s.surfSealed

/-- A contribution reads sealed content that is not CLEAR_OK (R464). -/
def State.shownBlocked (s : State) (h : Shown) : Bool :=
  h.acts = 1 && h.surfs.any fun f => s.surfSealed f && !s.spanClear f.base (f.units * 65536)

/-- A refused DEC stream whose newest picture the layer has already read leaves the layer not ready (R232). -/
def State.refusedStale (s : State) (l : Nat) (c : Choice) : Bool :=
  s.rdL (LAYER l) Reg.LAYER_LAYER_CFG_SOURCE = 1 &&
    (s.decStream (s.rdL (LAYER l) Reg.LAYER_LAYER_CFG_STREAM)).refused.isSome &&
    (s.lay l).read = some c.surf

/-- The contribution of layer `l` of raster `r` to the next frame (R117-R120), but for its seal. REPEAT keeps the line at which the repeated
frame fell behind, so it reads what that frame read. -/
def State.outcomeOf (s : State) (r l : Nat) (safe : Bool) : Shown :=
  let q := LAYER l
  let geo := s.layerWords l
  let sc := (s.wordL (SCALER (s.rdL q Reg.LAYER_BLEND_SCALER)) 0x40).toNat
  let base : Shown := { layer := l, geo := geo, scaler := sc, latched := (geo, sc) }
  let ch := match s.choose r l with | some c => if s.refusedStale l c then none else some c | none => none
  if safe then { base with outcome := 6, acts := 0, surf := ch.map (·.surf), prev := (ch.bind (·.prev)).map (·.1) }
  else
    match ch with
    | none =>
      match s.rdL q Reg.LAYER_LAYER_CFG_NOT_READY_POLICY with
      | 0 =>
        match (s.lay l).prev with
        | some (r', _, h) =>
          if r' ≠ r || h.outcome = 6 then { base with outcome := 1, acts := 0 }
          else { h with outcome := 1, following := false, latched := (geo, sc) }
        | none => { base with outcome := 1, acts := 0 }
      | 1 => { base with outcome := 2, acts := 0 }
      | _ => { base with outcome := 3, acts := 2 }
    | some c =>
      let normal : Shown := { base with outcome := 0, acts := 1, surf := some c.surf, colour := c.colour,
                                        prev := c.prev.map (·.1), prevColour := (c.prev.map (·.2)).getD (0, 0, 0),
                                        following := c.following, fill := c.fill }
      if c.concealed then
        match s.rdL q Reg.LAYER_LAYER_CFG_CONCEALED_POLICY with
        | 0 =>
          match (s.lay l).clean with
          | some (f, col) => { normal with outcome := 5, surf := some f, colour := col }
          | none => { base with outcome := 5, acts := 2 }
        | 1 => { normal with outcome := 4 }
        | _ => { base with outcome := 3, acts := 2 }
      else normal

/-- The contribution of layer `l` of raster `r` to the next frame, sealed by what is sealed at step 4 (R117-R120, R463). -/
def State.decide (s : State) (r l : Nat) (safe : Bool) : Shown :=
  let h := s.outcomeOf r l safe
  { h with isSealed := s.shownSealed h }

/-- The surfaces on which a layer takes a lease: the one chosen, the one it shows, and its previous one (R86). -/
def State.leasedBy (s : State) (r l : Nat) (h : Shown) : List Surf :=
  (match s.choose r l with | some c => [c.surf] | none => []) ++ h.surf.toList ++ h.prev.toList

/-! The still pool (R125-R129). -/

/-- A layer may join a run, by its latched words (R125). -/
def stillJoin (geo : List Nat) : Bool :=
  geoField geo Reg.LAYER_LAYER_CFG_STILL_ELIGIBLE = 1 && geoField geo Reg.LAYER_LAYER_CFG_SOURCE = 2 &&
    geoField geo Reg.LAYER_BLEND_SCALE_EN = 0

/-- The maximal sequences of joining layers among contributions in order, at least two long. -/
def stillRuns : List Nat → List Shown → List (List Nat)
  | cur, [] => if 2 ≤ cur.length then [cur] else []
  | cur, h :: t =>
    if stillJoin h.latched.1 then stillRuns (cur ++ [h.layer]) t
    else (if 2 ≤ cur.length then [cur] else []) ++ stillRuns [] t

/-- Some pixel of raster block (bx, by) is not CLEAR for the members of a run (R126, R128). -/
def State.blockUsed (s : State) (peak width height : Nat) (ms : List Shown) (bx by' : Nat) : Bool :=
  (List.range 64).any fun j => (List.range 64).any fun i =>
    let x := 64 * bx + i
    let y := 64 * by' + j
    x < width && y < height && ms.any fun h =>
      match inDest h.geo x y, h.surf with
      | some (u, v), some f =>
        let c := s.layerPixel peak h f h.colour u v
        !pixelClear (geoField h.geo Reg.LAYER_BLEND_ALPHA_MODE) c.2 (geoField h.geo Reg.LAYER_BLEND_GLOBAL_ALPHA) c.1
      | _, _ => false

/-- 32 KiB blocks of a run's image. -/
def State.runBlocks (s : State) (r width height : Nat) (ms : List Shown) : Nat :=
  let peak := s.rdL (COL r) Reg.COLOUR_INPUT_CFG_WORK_PEAK
  ((List.range (cdiv height 64)).map fun b =>
    ((List.range (cdiv width 64)).filter fun a => s.blockUsed peak width height ms a b).length).sum

/-- Begin to build a stable run of raster `r`, or record once per period that it is not formed (R128). -/
def State.buildRun (s : State) (r : Nat) (c : Composed) (members : List Nat) : State :=
  let quarter := s.rd (COMP r) Reg.CRASTER_COMP_STATE_CHIPLET
  let blocks := s.runBlocks r c.width c.height (c.shown.filter fun h => members.contains h.layer)
  let fits := s.quarterUsed quarter + blocks ≤ 384
  let spills := s.rd POOL Reg.POOL_POOL_CFG_SPILL_ENABLE = 1 && s.spillUsed + blocks ≤ 32768
  match (List.range 64).find? fun k => (tfind s.cmp.runs k).isNone && (fits || spills) with
  | some k =>
    { s with cmp := { s.cmp with runs := tins k { raster := r, members := members, formed := false, blocks := blocks,
                                                  spilled := !fits, quarter := quarter, age := 0 } s.cmp.runs,
                                 unformed := s.cmp.unformed.filter (· ≠ (r, members)) } }
  | none =>
    let known := s.cmp.unformed.contains (r, members)
    let s1 := if known then s
      else ({ s with cmp := { s.cmp with unformed := s.cmp.unformed ++ [(r, members)] } }).occurF POOL 0x20 r
    s1.inc POOL Reg.POOL_NOT_FORMED_TOTAL

/-- The runs of the layers that are latched on a raster whose COMP page is latched enabled (R125). -/
def State.runsLatched (s : State) (r : Nat) : List (List Nat) :=
  if s.enabledL (COMP r) then stillRuns [] ((s.layersOn r).map fun l => { layer := l, latched := (s.layerWords l, 0) }) else []

/-- A layer enters the span of a run's members in the blending order `order`, in which it was not before (R127). -/
def entersSpan (order new members : List Nat) : Bool :=
  let from' := order.dropWhile fun l => !members.contains l
  let span := (from'.reverse.dropWhile fun l => !members.contains l)
  span.any fun l => new.contains l && !members.contains l

/-- The still pool at a latch of raster `r` (R125, R127): a layer whose latched values changed is touched, and so are the members of a run
whose span a layer enters and those of a run that is invalidated, whose stability count restarts. DESIGN CHOICE (log 27): a run that a layer
joins at its edge is no longer maximal; it is dropped at once and counted as invalidated. -/
def State.stillLatch (s : State) (r : Nat) : State :=
  let order := s.layersOn r
  let runs := s.runsLatched r
  let new := order.filter fun l => (s.lay l).words.isEmpty
  let changed := order.filter fun l => (s.lay l).words ≠ s.layerWords l
  let moved (m : List Nat) : Bool := m.any (fun l => changed.contains l || !order.contains l) ||
    entersSpan order (new ++ changed) m
  let gone := s.cmp.runs.filter fun e => e.2.raster = r && (!runs.contains e.2.members || moved e.2.members)
  let hit := changed ++ gone.flatMap (·.2.members) ++ (runs.filter moved).flatMap id
  let s1 := s.each (gone.map (·.1)) State.dropRun
  let s2 := s1.each order fun t l =>
    t.setLay l { t.lay l with words := t.layerWords l, touched := (t.lay l).touched || hit.contains l }
  ({ s2 with cmp := { s2.cmp with unformed := s2.cmp.unformed.filter fun e => e.1 ≠ r || (runs.contains e.2 && !moved e.2) } }).poolShown

/-- The frames in a row of a layer's outcome NORMAL without a change (R125), with the frame of outcome `o`. -/
def LayerState.counted (x : LayerState) (o : Nat) : LayerState :=
  { x with touched := false, quiet := if !x.touched && o = 0 then x.quiet + 1 else 0 }

/-- The still pool at step 4 (R125, R126, R128): the layers' counts have moved; runs that are stable and not yet there begin to be built. -/
def State.stillStep (s : State) (r : Nat) (c : Composed) : State :=
  let aged := s.cmp.runs.map fun e => if e.2.raster = r && e.2.formed then (e.1, { e.2 with age := min 0xFFFFFFFF (e.2.age + 1) }) else e
  let s1 := { s with cmp := { s.cmp with runs := aged } }
  let beats := s.rd POOL Reg.POOL_POOL_CFG_STILL_BEATS
  let stable (m : List Nat) : Bool := m.all fun l => beats ≤ (s.lay l).quiet
  let runs := s.runsLatched r
  let s2 := { s1 with cmp := { s1.cmp with unformed := s1.cmp.unformed.filter fun e => e.1 ≠ r || (runs.contains e.2 && stable e.2) } }
  (s2.each (runs.filter fun m => stable m && !(s.cmp.runs.any fun e => e.2.raster = r && e.2.members = m)) fun t m => t.buildRun r c m).poolShown

/-- The runs that a raster's frame built are formed when its composition is complete (R126). -/
def State.formRuns (s : State) (r : Nat) : State :=
  let n := (s.cmp.runs.filter fun e => e.2.raster = r && !e.2.formed).length
  let t := s.cmp.runs.map fun e => if e.2.raster = r then (e.1, { e.2 with formed := true }) else e
  (({ s with cmp := { s.cmp with runs := t } }).addTo POOL Reg.POOL_FORMED_TOTAL n).poolShown

/-- The still pool page's indexed registers (R129): word at an offset. -/
def State.poolWord (s : State) (off : Nat) : Nat :=
  match tfind s.cmp.runs (s.rd POOL Reg.POOL_RUN_INDEX % 64) with
  | none => 0
  | some e =>
    let z (l : Nat) : Nat := s.rdL (LAYER l) Reg.LAYER_LAYER_CFG_Z
    match off with
    | 0x64 => e.raster % 32 ||| z (e.members.headD 0) <<< 8 ||| z (e.members.getLastD 0) <<< 16
        ||| (if e.formed then 2 else 1) <<< 21
    | 0x78 => e.blocks % 65536 ||| b2n e.spilled <<< 31
    | 0x7C => e.age
    | _ => ((e.members.filter fun l => l / 32 = (off - 0x68) / 4).map fun l => 2 ^ (l % 32)).sum

/-! Safe colour mode (R122-R124) and the start of a frame (R30 step 4). -/

/-- COMP_STATE, levels and occurrences of safe colour mode: `cause` holds from now on. -/
def State.safeState (s : State) (r n cause : Nat) : State :=
  let q := COMP r
  let was := s.rd q Reg.CRASTER_COMP_STATE_SAFE_ACTIVE = 1
  let s1 := if cause ≠ 0 && !was then s.occurF q 0x20 cause else if cause = 0 && was then s.occur q 0x21 0 n else s
  (((s1.wr q Reg.CRASTER_COMP_STATE_SAFE_ACTIVE (b2n (cause ≠ 0))).wr q Reg.CRASTER_COMP_STATE_SAFE_CAUSE cause).wr q ⟨0xC, 0, 0⟩
    (b2n (cause ≠ 0))).wr q ⟨0xC, 1, 1⟩ (b2n (cause = 3))

/-- The safe colour cause of a frame at step 4: the highest-numbered that holds. -/
def State.safeCause (s : State) (r : Nat) : Nat :=
  if (s.ras r).errNext then 3
  else if (s.ras r).selfNext then 2
  else if s.rdL (COMP r) Reg.CRASTER_COMP_CTL_SAFE_HOLD = 1 then 1 else 0

/-- One layer at step 4: its lease, records, levels and what it keeps (R86, R117-R121). DESIGN CHOICE (log 87): the levels change only at step
4, so FELL_BEHIND shows there that the layer fell behind in the frame just composed. CONCEALED_END waits for a clean newest picture. -/
def State.layerStart (s : State) (r n : Nat) (h : Shown) : State :=
  let l := h.layer
  let q := LAYER l
  let x := s.lay l
  let ch := s.choose r l
  let notReady := h.outcome ≠ 6 && (match ch with | some c => s.refusedStale l c | none => true)
  let conc := match ch with | some c => c.concealed | none => false
  let fell := match x.prev with | some (r', _, g) => r' = r && g.following && g.fell.isSome | none => false
  let s1 := s.each (s.leasedBy r l h) fun t f => t.leaseTake (f.base / 65536) f.units r n
  let s2 := if notReady then s1.occur q 0x20 0 n else s1
  let s3 := if conc && !x.concealed then s2.occur q 0x21 h.outcome n
    else if ch.isSome && !conc && x.concealed then s2.occur q 0x22 0 n else s2
  let clean := match ch with
    | some c => if h.outcome = 0 && !conc then some (c.surf, c.colour) else x.clean
    | none => x.clean
  let read := match ch with | some c => if notReady then x.read else some c.surf | none => x.read
  let y := { x with prev := some (r, n, h), clean := clean, concealed := if ch.isSome then conc else x.concealed, read := read }
  let s4 := s3.setLay l (y.counted h.outcome)
  (((s4.wr q ⟨0xC, 0, 0⟩ (b2n notReady)).wr q ⟨0xC, 1, 1⟩ (b2n fell)).wr q ⟨0xC, 2, 2⟩ (b2n conc)).wr q ⟨0xC, 3, 3⟩
    (b2n (s4.cmp.runs.any fun e => e.2.formed && e.2.members.contains l))

/-- A layer that is no longer on the raster: what it kept goes, its levels fall. -/
def State.layerLeaves (s : State) (l : Nat) : State :=
  let q := LAYER l
  (s.setLay l {}).wr q ⟨0xC, 3, 0⟩ 0

/-- LAYER_SET and LAYER_COUNT show the layers of a frame (R98). -/
def State.layerSet (s : State) (r : Nat) (ls : List Nat) : State :=
  (s.each (List.range 4) fun t k =>
    t.wr (COMP r) (Reg.CRASTER_LAYER_SET k) ((ls.filter fun l => l / 32 = k).map fun l => 2 ^ (l % 32)).sum).wr (COMP r)
    Reg.CRASTER_COMP_STATE_LAYER_COUNT ls.length

/-- SCALER_STATE shows the layers that use the scalers in the frame being composed (R109). -/
def State.scalerUsers (s : State) (r : Nat) (shown : List Shown) : State :=
  let mine (k : Nat) : Bool :=
    let u := s.rd (SCALER k) Reg.SCALER_SCALER_STATE_USER
    u ≠ 0xFF && (match (s.lay u).prev with | some (r', _, _) => r' = r | none => true)
  let s1 := s.each ((List.range 48).filter mine) fun t k => t.wr (SCALER k) Reg.SCALER_SCALER_STATE_USER 0xFF
  s1.each (shown.filter fun h => geoField h.geo Reg.LAYER_BLEND_SCALE_EN = 1) fun t h =>
    let k := geoField h.geo Reg.LAYER_BLEND_SCALER
    (t.wr (SCALER k) Reg.SCALER_SCALER_STATE_USER h.layer).wr (SCALER k) Reg.SCALER_SCALER_STATE_LATCHED_BANK (bits h.scaler 2 2)

/-- The latched words of a raster that R131 compares: COMP raster and COLOUR raster. -/
def State.rasterWords (s : State) (r : Nat) : List Nat :=
  [0x40, 0x44, 0x48].map (fun o => (s.wordL (COMP r) o).toNat) ++ [0x40, 0x44, 0x48].map fun o => (s.wordL (COL r) o).toNat

/-- The layers that raster `r` had in its previous frame. -/
def State.layersWere (s : State) (r : Nat) : List Nat :=
  (s.cmp.layers.filter fun e => match e.2.prev with | some (r', _, _) => r' = r | none => false).map (·.1)

/-- Composition of a frame begins (R30 step 4). -/
def State.composeStart (s : State) (r : Nat) (ft : FrameTiming) : State :=
  let n := ft.frame
  let x := s.ras r
  let cause := s.safeCause r
  let ls := s.layersOn r
  let shown := ls.map fun l => s.decide r l (cause ≠ 0)
  let c : Composed := {
    frame := n, width := ft.width, height := ft.vActive,
    bg := (s.rdL (COMP r) Reg.CRASTER_BACKGROUND_LO_BG_R, s.rdL (COMP r) Reg.CRASTER_BACKGROUND_LO_BG_G,
           s.rdL (COMP r) Reg.CRASTER_BACKGROUND_HI_BG_B),
    shown := shown, words := s.rasterWords r, cause := cause, safeFrom := if cause = 0 then none else some 0,
    curve := x.curve, lines := [], stats := {}, errored := false,
    isSealed := shown.any fun h => h.acts = 1 && h.isSealed, first := x.first,
    blocked := shown.any s.shownBlocked, count := x.made,
    decLoss := ls.any fun l => match s.choose r l with | some k => k.concealed | none => false }
  let s1 := s.safeState r n cause
  let s3 := s1.each (s.layersWere r |>.filter fun l => !ls.contains l) State.layerLeaves
  let s4 := ((s3.each shown fun t h => t.layerStart r n h).layerSet r ls).stillStep r c
  let old := match x.composed with | a :: b => a :: (b.map fun k => { k with lines := [] }) | [] => []
  let s5 := s4.setRas r { s4.ras r with composed := (c :: old).take 9, made := x.made + 1, errNext := false,
                                        selfTest := x.selfTest - b2n x.selfNext, selfNext := false, first := false }
  ((s5.scalerUsers r shown).wr (COL r) Reg.COLOUR_TONE_STATE_CURVE_IN_USE c.curve).wr (COL r) ⟨0xC, 0, 0⟩
    (b2n (match x.tone with | some t => t ≠ c.curve | none => false))

/-- Complete source lines of the fill that a layer follows (R91): of `height`, LINES_DONE while it lasts, what an abandoned one came to, or all of
a published one. -/
def State.followLines (s : State) (i fill height : Nat) : Nat :=
  let x := s.stream i
  if x.ring.fill.isSome && x.fills = fill then s.rd (ING i) Reg.INGEST_PROGRESS_LINES_DONE
  else (tfind x.abandoned fill).getD height

/-- A following layer falls behind at output line `y` (R91, R119). -/
def State.fallsAt (s : State) (h : Shown) (y : Nat) : Bool :=
  h.following && h.fell.isNone && h.acts = 1 &&
    (let d := destOf h.geo
     let v := (y : Int) - d.2.1
     0 ≤ v && v < d.2.2.2 &&
       (match h.surf with
        | some f => s.followLines (geoField h.geo Reg.LAYER_LAYER_CFG_STREAM) h.fill f.height
            ≤ (sourceOfLayer h.geo).2.1 + lastLine h.geo h.scaler v.toNat
        | none => false))

/-- A layer keeps the line at which it fell behind in the frame being composed (R119). -/
def State.keepFall (s : State) (l y : Nat) : State :=
  let x := s.lay l
  s.setLay l { x with prev := x.prev.map fun e => (e.1, e.2.1, { e.2.2 with fell := some y }) }

/-- Line `y` of the frame being composed is composed (R91, R107, R119, R129). -/
def State.composeLine (s : State) (r y : Nat) : State :=
  let x := s.ras r
  match x.composed with
  | [] => s
  | c :: rest =>
    let fall := c.shown.filter fun h => s.fallsAt h y
    let shown := c.shown.map fun h => if s.fallsAt h y then { h with fell := some y } else h
    let c1 := { c with shown := shown, isSealed := c.isSealed || shown.any s.shownSealed, blocked := c.blocked || shown.any s.shownBlocked }
    let line := s.composedLine r c1 y
    let c2 := { c1 with lines := c.lines ++ [(y, line)] }
    let s1 := s.setRas r { x with composed := c2 :: rest }
    let s2 := s1.each fall fun t h => (t.occur (LAYER h.layer) 0x20 1 c.frame).keepFall h.layer y
    let flat := s.cmp.runs.any fun e => e.2.raster = r && e.2.formed && !c.safeAt y && e.2.members.any fun l =>
      c.shown.any fun h => h.layer = l && (let d := destOf h.geo; d.2.1 ≤ (y : Int) && (y : Int) < d.2.1 + d.2.2.2)
    if flat then s2.inc POOL Reg.POOL_FLAT_LINES else s2

/-- Statistics of a frame's composed lines (R143, R144). -/
def statsOf (lines : List (Nat × List Pix)) : Stats :=
  let tops := lines.flatMap fun e => e.2.map fun p => max p.r (max p.g p.b)
  { hist := (List.range 64).filterMap fun b =>
      let k := (tops.filter fun t => t / 64 = b).length
      if k = 0 then none else some (b, k),
    top := tops.foldl max 0, count := tops.length }

/-- Composition of a frame is complete (R30 step 1). -/
def State.composeEnd (s : State) (r : Nat) : State :=
  let x := s.ras r
  match x.composed with
  | [] => s
  | c :: rest =>
    ((s.setRas r { x with composed := { c with stats := statsOf c.lines } :: rest }).finishStats r).formRuns r

/-- COMPOSE_ERROR of a raster that is composing (R122-R124, R131): the line being composed is the latest begun. -/
def State.composeError (s : State) (r kind : Nat) : State :=
  let x := s.ras r
  match x.composed with
  | [] => s
  | c :: rest =>
    let last := match c.lines.getLast? with | some e => e.1 | none => 0
    let since := if c.lines.length = c.height then c.height else last
    let sf := match c.safeFrom with | some l => min l since | none => since
    let bgPix : Pix := { r := c.bg.1, g := c.bg.2.1, b := c.bg.2.2, owner := 255, alpha := 0 }
    let ls := c.lines.map fun e => if sf ≤ e.1 then (e.1, e.2.map fun _ => bgPix) else e
    let c1 := { c with safeFrom := some sf, cause := 3, errored := true, lines := ls, ident := [] }
    let s1 := (s.setRas r { x with composed := c1 :: rest, errNext := true }).occurF (COMP r) 0x22 kind
    s1.safeState r c.frame 3

/-- COMPOSE_ERROR (R122): kind 0 line store, 1 still pool, 2 surface read. -/
def execComposeError (r kind : Nat) (s : State) : Host.Outcome State Fault Refusal :=
  live s (if s.rd ⟨.scan, r⟩ Reg.SCAN_RG_STATE_RUNNING = 1 || s.rd ⟨.scan, r⟩ Reg.SCAN_RG_STATE_LEAD_IN = 1
    then s.composeError r kind else s)

/-! Validation (R101, R102). -/

/-- Picture of a layer's source: width and height. -/
def layerPicture (v : Values) (l : Nat) : Nat × Nat :=
  let q := LAYER l
  let i := v q Reg.LAYER_LAYER_CFG_STREAM
  match v q Reg.LAYER_LAYER_CFG_SOURCE with
  | 0 => (v (ING i) Reg.INGEST_GEOMETRY_WIDTH, v (ING i) Reg.INGEST_GEOMETRY_HEIGHT)
  | 1 => (v (DEC i) Reg.DEC_GEOMETRY_WIDTH, v (DEC i) Reg.DEC_GEOMETRY_HEIGHT)
  | _ => (v q Reg.LAYER_HOST_GEOMETRY_WIDTH, v q Reg.LAYER_HOST_GEOMETRY_HEIGHT)

/-- The extent of a layer's host surface: base and bytes. -/
def hostExtent (v : Values) (l : Nat) : Nat × Nat :=
  let q := LAYER l
  (v q Reg.LAYER_HOST_SURFACE_BASE * 65536,
   surfaceBytes (v q Reg.LAYER_HOST_SURFACE_FORMAT) (v q Reg.LAYER_HOST_GEOMETRY_WIDTH) (v q Reg.LAYER_HOST_GEOMETRY_HEIGHT))

/-- The pages of a layer's source. -/
def sourcePages (v : Values) (l : Nat) : List Page :=
  let i := v (LAYER l) Reg.LAYER_LAYER_CFG_STREAM
  match v (LAYER l) Reg.LAYER_LAYER_CFG_SOURCE with | 0 => [ING i] | 1 => [DEC i] | _ => []

/-- The size of a decode area in bytes: the slots, and the whole area (R237). -/
def decArea (v : Values) (d : Nat) : Nat × Nat :=
  let q := DEC d
  let w := v q Reg.DEC_GEOMETRY_WIDTH
  let h := v q Reg.DEC_GEOMETRY_HEIGHT
  let b := surfaceBytes (decFormat (v q Reg.DEC_DEC_CFG_CHROMA)) w h
  let mf := roundUp (cdiv w 8 * cdiv h 8 * 16) 65536
  (v q Reg.DEC_DEC_CFG_SLOTS * b, v q Reg.DEC_DEC_CFG_SLOTS * b + (v q Reg.DEC_DEC_CFG_REFS + 1) * (b + mf))

/-- Base of a decode area in bytes. -/
def decBase (v : Values) (d : Nat) : Nat := v (DEC d) Reg.DEC_RING_BASE % 2 ^ 21 * 65536

/-- The checks of R102 on one enabled layer. `active` gives the active values. -/
def State.layerChecks (s : State) (v active : Values) (l : Nat) : List Charge :=
  let q := LAYER l
  let src := v q Reg.LAYER_LAYER_CFG_SOURCE
  let so := v q Reg.LAYER_SRC_ORIGIN
  let ss := v q Reg.LAYER_SRC_SIZE
  let ds := v q Reg.LAYER_DST_SIZE
  let (sw, sh) := (ss % 65536, ss / 65536)
  let (dw, dh) := (ds % 65536, ds / 65536)
  let (pw, ph) := layerPicture v l
  let i := v q Reg.LAYER_LAYER_CFG_STREAM
  let sc := v q Reg.LAYER_BLEND_SCALER
  let scale := v q Reg.LAYER_BLEND_SCALE_EN = 1
  let hw := v q Reg.LAYER_HOST_GEOMETRY_WIDTH
  let hh := v q Reg.LAYER_HOST_GEOMETRY_HEIGHT
  let taps := v (SCALER sc) Reg.SCALER_SCALER_CFG_V_TAPS
  let users := (enabledOf v .compLayer 128).filter fun k =>
    v (LAYER k) Reg.LAYER_BLEND_SCALE_EN = 1 && v (LAYER k) Reg.LAYER_BLEND_SCALER = sc
  let scp : List Page := if sc < 48 then [SCALER sc] else []
  let he := hostExtent v l
  let rings := ((enabledOf v .ingest 64).filter fun k => overlaps he.1 he.2 (ingestBase v k) (ingestExtent v k)).map ING ++
    ((enabledOf v .dec 64).filter fun k => overlaps he.1 he.2 (decBase v k) (decArea v k).2).map DEC
  charge1 q (src = 3 || v q Reg.LAYER_LAYER_CFG_NOT_READY_POLICY = 3 || v q Reg.LAYER_LAYER_CFG_CONCEALED_POLICY = 3
      || v q Reg.LAYER_BLEND_ALPHA_MODE = 3 || 5 < v q Reg.LAYER_HOST_SURFACE_FORMAT || 1024 < v q Reg.LAYER_BLEND_GLOBAL_ALPHA
      || sw = 0 || sh = 0 || dw = 0 || dh = 0 || (src = 2 && (hw = 0 || 16384 < hw || hh = 0 || 16384 < hh))) 0x01 ++
  (if so % 65536 + sw > pw || so / 65536 + sh > ph then [{ pages := q :: sourcePages v l, reason := 0x01 }] else []) ++
  (if src = 0 && v (ING i) Reg.INGEST_STREAM_CFG_KIND ≠ 0 then [{ pages := [q, ING i], reason := 0x01 }] else []) ++
  charge1 q (v q Reg.LAYER_LAYER_CFG_LINE_FOLLOW = 1 && src ≠ 0) 0x01 ++
  charge1 q (!scale && ds ≠ ss) 0x01 ++
  (if scale && (48 ≤ sc || v (SCALER sc) Reg.PAGE_CTL_ENABLE = 0
      || !s.bankUsable sc (v (SCALER sc) Reg.SCALER_SCALER_CFG_BANK) taps)
    then [{ pages := q :: scp, reason := 0x01 }] else []) ++
  (if scale && 1 < users.length then [{ pages := users.map LAYER ++ scp, reason := 0x01 }] else []) ++
  charge1 q (scale && (4 * dw < sw || 4 * dh < sh || 16 * sw < dw || 16 * sh < dh)) 0x01 ++
  (if scale && sc < 48 && 49152 / (vTaps taps).2 < sw then [{ pages := q :: scp, named := [q], reason := 0x0D }] else []) ++
  charge1 q (active q Reg.PAGE_CTL_ENABLE = 1 && active q Reg.LAYER_LAYER_CFG_RASTER ≠ v q Reg.LAYER_LAYER_CFG_RASTER) 0x0E ++
  (if src = 2 && (poolSize < he.1 + he.2 || !rings.isEmpty) then [{ pages := q :: rings, reason := 0x10 }] else []) ++
  (if src = 1 && v (DEC i) Reg.DEC_DEC_CFG_PARTIAL = 1 then
    let g := v (DEC i) Reg.DEC_REGION
    let right := min pw (so % 65536 + sw + 2)
    if so % 65536 < bits g 7 0 * 64 || so / 65536 < bits g 15 8 * 64 || (bits g 23 16 + 1) * 64 < right
        || (bits g 31 24 + 1) * 64 < so / 65536 + sh
    then [{ pages := [q, DEC i], named := [q], reason := 0x01 }] else []
   else [])

/-- More than 32 enabled layers on a raster (R102). -/
def layerCount (v : Values) (r : Nat) : List Charge :=
  let ls := (enabledOf v .compLayer 128).filter fun l => v (LAYER l) Reg.LAYER_LAYER_CFG_RASTER = r
  if 32 < ls.length then [{ pages := ls.map LAYER, reason := 0x0E }] else []

/-- The check on an enabled scaler page: a reserved V_TAPS, or a bank that is not valid for it (R102, R112). -/
def State.scalerChecks (s : State) (v : Values) (k : Nat) : List Charge :=
  charge1 (SCALER k) (!s.bankUsable k (v (SCALER k) Reg.SCALER_SCALER_CFG_BANK) (v (SCALER k) Reg.SCALER_SCALER_CFG_V_TAPS)) 0x01

/-- POOL_CFG.STILL_BEATS 0 (R129). -/
def poolChecks (v : Values) : List Charge := charge1 POOL (v POOL Reg.POOL_POOL_CFG_STILL_BEATS = 0) 0x01

/-! Leases of frames (R33, R87). -/

/-- The chiplets with the composition pipelines in service that a raster needs (R16, R499). -/
def State.compChiplets (s : State) (two : Bool) : List Nat :=
  (List.range 4).filter fun k =>
    let out := (s.pow.compOut.filter fun p => p / 2 = k).length
    if two then out = 0 else out < 2

/-- Firmware chooses the chiplet that composes a raster, and its pipelines (R16): CHIPLET a free value among the chiplets with
the pipelines in service that the raster needs (R499), TWO_PIPES above 3.6 Gpx/s; the peak rate is the active width over the
exact line period k × D / (N × V_TOTAL). -/
def State.placeRaster (s : State) (r : Nat) (ft : FrameTiming) : State :=
  let nd := rateND s.tm.rate
  let two : Bool := 3600000000 * (ft.div * nd.2) < ft.width * ft.vTotal * nd.1
  let l := s.compChiplets two
  ((s.wr (COMP r) Reg.CRASTER_COMP_STATE_CHIPLET (l.getD (s.free 2 % l.length) 0)).wr (COMP r) Reg.CRASTER_COMP_STATE_TWO_PIPES (b2n two)).drawn

/-! References of layers (R85, R99, R119, R120, R127). -/

/-- A page of raster `r` leaves it: its latched ENABLE falls. -/
def State.unlatch (s : State) (p : Page) : State :=
  let k := pageBase p + 8
  { s with lat := tput (resetOf k) s.lat k (fset (s.wordL p 8) 0 0 0) }

/-- The surfaces that host layers reference by their latched values: base and size in 64 KiB units. -/
def State.hostRefs (s : State) : List (Nat × Nat) :=
  ((List.range 128).filter fun l => s.enabledL (LAYER l) && s.rdL (LAYER l) Reg.LAYER_LAYER_CFG_SOURCE = 2).map fun l =>
    let e := hostExtent s.rdL l
    (e.1 / 65536, e.2 / 65536)

/-- Every host surface that an enabled layer references has its lease table entry from the latch that applies the reference; an entry
whose reference has ended goes, or is RETIRED (R85, R99). -/
def State.hostEntries (s : State) : State :=
  let need := s.hostRefs
  let s1 := s.each need fun t e => t.leaseEnter e.1 e.2 0 0
  s1.each ((s1.leases.filter fun e => e.2.owner = 0 && !e.2.retired && !need.contains (e.2.base, e.2.size)).map (·.1)) State.leaseRetire

/-- What the application of an arm does to a layer whose raster has stopped, so that no latch follows: with ENABLE 0 it leaves the raster. -/
def State.layerApplied (s o : State) (l : Nat) : State :=
  let q := LAYER l
  if s.enabled q || !o.enabled q || (s.ras (s.rdL q Reg.LAYER_LAYER_CFG_RASTER)).scan.isSome then s
  else (((s.unlatch q).layerLeaves l).hostEntries).each ((s.cmp.runs.filter fun e => e.2.members.contains l).map (·.1)) State.dropRun |>.poolShown

/-- The COMP page of a raster that has stopped is disabled: its runs are invalidated (R127). -/
def State.compApplied (s : State) (r : Nat) : State :=
  if s.enabled (COMP r) || (s.ras r).scan.isSome then s
  else (s.each ((s.cmp.runs.filter fun e => e.2.raster = r).map (·.1)) State.dropRun).poolShown

end Sys2Proof.Machine
end

