-- ==== Sys2Proof/Machine/Scan.lean ====
section
/-!
DEFINITION. Raster timing, tile map, calibration, thermal gain and check rectangles (11_scanout.md R249-R277).
-/

namespace Sys2Proof.Machine

/-- SCAN raster generator, tile map port and calibration port pages; tile lane, wide lane and TILE pages. -/
abbrev SCAN (r : Nat) : Page := ⟨.scan, r⟩
abbrev MAP (x : Nat) : Page := ⟨.tileMap, x⟩
abbrev CAL (x : Nat) : Page := ⟨.cal, x⟩
abbrev TL (n : Nat) : Page := ⟨.tileLane, n⟩
abbrev WL (n : Nat) : Page := ⟨.wide, n⟩
abbrev TILE (x : Nat) : Page := ⟨.tile, x⟩

/-! Timing (R250). -/

/-- The start of line `l` of a frame: Λ(f, L); in a step frame, lines before the last 64 run on the old grid, the last 64
before e on the new one (R259). -/
def FrameTiming.lineStart (t : FrameTiming) (l : Nat) : Nat :=
  match t.step with
  | some (_, newPeriod, e) =>
    if l + 64 < t.vTotal then t.start + l * t.period / t.vTotal else e - (t.vTotal - l) * newPeriod / t.vTotal
  | none => t.start + l * t.period / t.vTotal

/-- The end of a frame. -/
def FrameTiming.stop (t : FrameTiming) : Nat :=
  match t.step with
  | some (_, _, e) => e
  | none => t.start + t.period

/-- The timing of the frame of raster `r` that starts at beat `f` with divisor `k`, by the latched values. -/
def State.timing (s : State) (r f k : Nat) : FrameTiming :=
  { frame := f, start := beatStart s.tm.rate f + ns (s.rdL (SCAN r) Reg.SCAN_PHASE_PHASE_NS),
    period := beatStart s.tm.rate (f + k) - beatStart s.tm.rate f, div := k,
    width := s.rdL (SCAN r) Reg.SCAN_H_TIMING_H_ACTIVE, vActive := s.rdL (SCAN r) Reg.SCAN_V_TIMING_V_ACTIVE,
    vTotal := s.rdL (SCAN r) Reg.SCAN_V_TIMING_V_TOTAL, step := none }

/-! Table port (R260, R261). -/

/-- The lane I/O chiplet of a raster. -/
def rasterIo (r : Nat) : Nat := r / 16

/-- A tile map entry of chiplet `x` is in use (R261). -/
def State.mapInUse (s : State) (x e : Nat) : Bool :=
  (List.range 16).any fun j => s.anyUse (SCAN (16 * x + j)) fun f =>
    f Reg.PAGE_CTL_ENABLE = 1 && f Reg.SCAN_MAP_RANGE_MAP_FIRST ≤ e
      && e < f Reg.SCAN_MAP_RANGE_MAP_FIRST + f Reg.SCAN_MAP_RANGE_MAP_COUNT

/-- A check rectangle bank of a raster, a thermal bank of a chiplet, is in use: a raster, enabled or not, selects it (R261). -/
def State.rectInUse (s : State) (r bank : Nat) : Bool := s.anyUse (SCAN r) fun f => f Reg.SCAN_RG_CFG_CHECK_BANK = bank
def State.thermInUse (s : State) (x bank : Nat) : Bool :=
  (List.range 16).any fun j => s.anyUse (SCAN (16 * x + j)) fun f => f Reg.SCAN_RG_CFG_THERM_BANK = bank

/-- Entries and words of a table of R260. -/
def mapTable (t : Nat) : Nat × Nat := match t with | 0 => (8192, 4) | 1 => (256, 4) | 2 => (4096, 4) | _ => (128, 1)

/-- Replace word `w` of an entry of four words. -/
def setWordAt (e : List Nat) (n w v : Nat) : List Nat := (List.range n).map fun k => if k = w then v else e.getD k 0

/-- A write of TBL_DATA of a tile map port page (R261). -/
def State.mapWrite (s : State) (a : Access) (x : Nat) (v : Word) : State :=
  let q := MAP x
  let i := s.rd q Reg.MAP_TBL_INDEX_INDEX
  let t := s.rd q Reg.MAP_TBL_INDEX_TABLE
  let w := s.rd q Reg.MAP_TBL_INDEX_WORD
  let addr := pageBase q + 0x44
  let size := mapTable t
  if size.1 ≤ i then s.faulted a 0x10 true addr
  else if t = 3 || (t = 2 && 2 ≤ w) then s.faulted a 0x12 true addr
  else
    let busy := match t with
      | 0 => s.mapInUse x i
      | 1 => s.rectInUse (16 * x + i / 16) (i / 8 % 2)
      | _ => s.thermInUse x (i / 2048)
    let s1 :=
      if busy then s.occur q 0x20 t i
      else
        let c := s.scn
        match t with
        | 0 =>
          let e := setWordAt (tget [] c.map (x * 8192 + i)) 4 w v.toNat
          { s with scn := { c with map := tins (x * 8192 + i) e c.map } }
        | 1 =>
          let e := setWordAt (tget [] c.rects (x * 256 + i)) 4 w v.toNat
          { s with scn := { c with rects := tins (x * 256 + i) e c.rects, rectAge := tdel (x * 256 + i) c.rectAge } }
        | _ =>
          let e := setWordAt (tget [] c.thermal (x * 4096 + i)) 2 w v.toNat
          { s with scn := { c with thermal := tins (x * 4096 + i) e c.thermal } }
    if w + 1 < size.2 then s1.wr q Reg.MAP_TBL_INDEX_WORD (w + 1)
    else (s1.wr q Reg.MAP_TBL_INDEX_WORD 0).wr q Reg.MAP_TBL_INDEX_INDEX ((i + 1) % size.1)

/-- A read of TBL_DATA of a tile map port page (R261, R269, R275): no side effect but the record of an INDEX beyond the
table. -/
def State.mapRead (s : State) (a : Access) (x : Nat) : State × Nat :=
  let q := MAP x
  let i := s.rd q Reg.MAP_TBL_INDEX_INDEX
  let t := s.rd q Reg.MAP_TBL_INDEX_TABLE
  let w := s.rd q Reg.MAP_TBL_INDEX_WORD
  if (mapTable t).1 ≤ i then (s.faulted a 0x10 false (pageBase q + 0x44), 0)
  else
    (s, match t with
      | 0 => s.mapWord x i w
      | 1 => (tget [] s.scn.rects (x * 256 + i)).getD w 0
      | 2 =>
        let g := s.gain (x * 2048 + i % 2048)
        let off (v : Nat) : Nat := (v + 65536 - 32768) % 65536
        if w < 2 then (tget [] s.scn.thermal (x * 4096 + i)).getD w 0
        else if w = 2 then off g.1 ||| off g.2.1 <<< 16 else off g.2.2.1 ||| g.2.2.2 <<< 16
      | _ =>
        let r := tget (0, false) s.scn.results (x * 128 + i)
        if r.2 && s.roleOf a ≠ some .owner && s.roleOf a ≠ some .factory then 0 else r.1)

/-! Entries of a raster. -/

/-- The enabled entries of a raster's map range, in ascending index, by a view of its values. -/
def State.entriesBy (s : State) (f : Field → Nat) (r : Nat) : List TileEntry :=
  let x := rasterIo r
  let a := f Reg.SCAN_MAP_RANGE_MAP_FIRST
  let n := f Reg.SCAN_MAP_RANGE_MAP_COUNT
  s.scn.map.filterMap fun e =>
    let i := e.1 % 8192
    let t := tileEntry i e.2
    if e.1 / 8192 = x && a ≤ i && i < a + n && t.enabled then some t else none

/-- The entries of the frame being scanned out. -/
def State.entriesL (s : State) (r : Nat) : List TileEntry := s.entriesBy (s.rdL (SCAN r)) r

/-- Numbers of the lanes of entries, without repeats. -/
def lanesOf (es : List TileEntry) : List Nat := es.foldl (fun l e => sins e.lane l) []

/-! Calibration cells (R265-R268). -/

/-- A cell is referenced (R267). -/
def State.cellReferenced (s : State) (c : Nat) : Bool :=
  s.scn.map.any fun e => (tileEntry (e.1 % 8192) e.2).hasCell c && s.mapInUse (e.1 / 8192) (e.1 % 8192)

/-- A cell as raster `r` still latches it (R267). -/
def State.cellOf (s : State) (r c : Nat) : List Nat := tget (s.cell c) s.scn.hold (r * 2 ^ 20 + c)

/-- Store an active cell. -/
def State.setCell (s : State) (c : Nat) (w : List Nat) : State :=
  { s with scn := { s.scn with cells := tput identityCell s.scn.cells c w } }

/-- Pending cells of a chiplet. -/
def State.pendCells (s : State) (x : Nat) : List (Nat × List Nat) := s.scn.cellPend.filter fun e => e.1 / 524288 = x

/-- STAGE_STATE and STAGE_NONEMPTY of a calibration port page (R265, R277). -/
def State.calShown (s : State) (x : Nat) : State :=
  let n := (s.pendCells x).length
  let st := ((s.cm.arms.filter fun a => s.armHolds a (CAL x)).map fun a =>
    (a.cells.filter fun e => e.1 / 524288 = x).length).sum
  ((s.wr (CAL x) ⟨0x5C, 12, 0⟩ n).wr (CAL x) ⟨0x5C, 28, 16⟩ st).wr (CAL x) ⟨0xC, 0, 0⟩ (b2n (n ≠ 0))

/-- A write of CAL_DATA (R265, R267). -/
def State.calWrite (s : State) (a : Access) (x : Nat) (v : Word) : State :=
  let q := CAL x
  let c := s.rd q Reg.CAL_CAL_INDEX_CELL
  let w := s.rd q Reg.CAL_CAL_INDEX_WORD
  if c / 524288 ≠ x || 5 < w then s.faulted a 0x10 true (pageBase q + 0x44)
  else
    let s1 :=
      if s.cellReferenced c then
        if (tfind s.scn.cellPend c).isNone && 4096 ≤ (s.pendCells x).length then s.occur q 0x20 0 c
        else
          let e := setWordAt ((tfind s.scn.cellPend c).getD (s.cell c)) 6 w v.toNat
          { s with scn := { s.scn with cellPend := tins c e s.scn.cellPend, touched := sins c s.scn.touched },
                   dirty := sins (pageBase q) s.dirty }
      else s.setCell c (setWordAt (s.cell c) 6 w v.toNat)
    let s2 := if w < 5 then s1.wr q Reg.CAL_CAL_INDEX_WORD (w + 1)
      else (s1.wr q Reg.CAL_CAL_INDEX_WORD 0).wr q Reg.CAL_CAL_INDEX_CELL ((c + 1) % 2 ^ 20)
    s2.calShown x

/-- A read of CAL_DATA: the pending copy where the cell has one. -/
def State.calRead (s : State) (a : Access) (x : Nat) : State × Nat :=
  let q := CAL x
  let c := s.rd q Reg.CAL_CAL_INDEX_CELL
  let w := s.rd q Reg.CAL_CAL_INDEX_WORD
  if c / 524288 ≠ x || 5 < w then (s.faulted a 0x10 false (pageBase q + 0x44), 0)
  else (s, ((tfind s.scn.cellPend c).getD (s.cell c)).getD w 0)

/-- Staged cells become active (R267): a raster that runs keeps the old ones until its next latch; pending cells not
written since the arm go. -/
def State.applyCells (s : State) (cells : List (Nat × List Nat)) : State :=
  let s1 := s.each cells fun t e =>
    let rs := (List.range 16).filter fun j =>
      (t.ras (16 * (e.1 / 524288) + j)).scan.isSome
    let held := rs.foldl (fun h j =>
      let k := (16 * (e.1 / 524288) + j) * 2 ^ 20 + e.1
      if (tfind h k).isSome then h else tins k (t.cell e.1) h) t.scn.hold
    ({ t with scn := { t.scn with hold := held } }).setCell e.1 e.2
  let keep := s1.scn.cellPend.filter fun e => !(cells.any fun c => c.1 = e.1) || s1.scn.touched.contains e.1
  ({ s1 with scn := { s1.scn with cellPend := keep } }).each [0, 1] State.calShown

/-- A cell as it lies in the host pool: 24 bytes, six words, each least significant byte first (assumption log 12). -/
def State.cellAt (s : State) (a : Nat) : List Nat := (List.range 6).map fun k => leNat (s.bytesAt (a + 4 * k) 4)

/-- Copy `n` cells of a load from its source. -/
def State.loadCells (s : State) (src first n : Nat) : State :=
  s.each (List.range n) fun t k => t.setCell (first + k) (s.cellAt (src * 65536 + 24 * k))

/-- START of a calibration load (R268). -/
def State.calStart (s : State) (x : Nat) : State :=
  let q := CAL x
  s.opStart q 0x58 0 fun t =>
    let src := t.rd q Reg.CAL_LOAD_SRC % 2 ^ 21
    let first := t.rd q Reg.CAL_LOAD_FIRST % 2 ^ 20
    let n := t.rd q Reg.CAL_LOAD_COUNT % 2 ^ 20
    if n = 0 || 524288 < n || poolSize < src * 65536 + 24 * n || first / 524288 ≠ x || (first + n - 1) / 524288 ≠ x
        || (List.range n).any fun k => t.cellReferenced (first + k)
    then t.setOp q 0x58 4 0
    else { t.setOp q 0x58 1 0 with scn := { t.scn with loads := tins x (src, first, n) t.scn.loads } }

/-- ABORT of a calibration load (R268): the cells already written remain; how many is a free value. -/
def State.calAbort (s : State) (x : Nat) : State :=
  let q := CAL x
  match tfind s.scn.loads x with
  | some (src, first, n) =>
    if s.opState q 0x58 = 1 then
      let k := s.free 32 % (n + 1)
      let t := (s.drawn).loadCells src first k
      { t.setOp q 0x58 3 k with scn := { t.scn with loads := tdel x t.scn.loads } }
    else s.opAbort q 0x58 0
  | none => s.opAbort q 0x58 0

/-- The load has written its last cell. -/
def State.calDone (s : State) (x : Nat) : State :=
  let q := CAL x
  match tfind s.scn.loads x with
  | some (src, first, n) =>
    if s.opState q 0x58 = 1 then
      let t := s.loadCells src first n
      { t.setOp q 0x58 2 n with scn := { t.scn with loads := tdel x t.scn.loads } }
    else s
  | none => s

/-- CAL_LOAD_DONE (R268). -/
def execCalLoadDone (x : Nat) (s : State) : Host.Outcome State Fault Refusal := live s (s.calDone x)

/-! The scanned pixel (R264, R266, R270, R272). -/

/-- Cell of a pixel at local (u, v) of an entry (R264). -/
def TileEntry.cellAt (e : TileEntry) (u v : Nat) : Nat :=
  e.cellBase + v / 2 ^ (e.cellSize + 2) * e.cellsX + u / 2 ^ (e.cellSize + 2)

/-- Calibrated components of wall components by a cell (R266). -/
def calibrate (cell : List Nat) (w : Rgb) : Rgb :=
  let m (k : Nat) : Int := cellValue cell k
  let row (c : Nat) : Nat := clamp16 (asr (m (3 * c) * w.1 + m (3 * c + 1) * w.2.1 + m (3 * c + 2) * w.2.2 + 8192) 14 + m (9 + c))
  (row 0, row 1, row 2)

/-- Thermal gain applied (R270). -/
def withGain (g : Nat × Nat × Nat) (v : Rgb) : Rgb :=
  let f (a b : Nat) : Nat := min 65535 ((a * b + 32768) / 65536)
  (f v.1 g.1, f v.2.1 g.2.1, f v.2.2 g.2.2)

/-- The value handed to framing (R272). -/
def quantise (d v : Nat) : Nat := if d = 16 then v else min (2 ^ d - 1) ((v + 2 ^ (15 - d)) / 2 ^ (16 - d))

/-- The composed pixel of a raster's frame at (x, y). -/
def Composed.at (c : Composed) (x y : Nat) : Rgb :=
  match c.lines.find? fun e => e.1 = y with
  | some e => (match e.2[x]? with | some p => (p.r, p.g, p.b) | none => c.bg)
  | none => c.bg

/-- Calibrated components of raster pixel (x, y) in an entry. -/
def State.calibrated (s : State) (r : Nat) (c : Composed) (e : TileEntry) (x y : Nat) : Rgb :=
  calibrate (s.cellOf r (e.cellAt (x - e.x) (y - e.y))) (s.wall r (c.at x y))

/-- The gains of an entry in the frame being scanned out. -/
def State.entryGain (s : State) (r : Nat) (e : TileEntry) : Nat × Nat × Nat :=
  if e.therm && s.rdL (SCAN r) Reg.SCAN_RG_CFG_THERMAL_EN = 1 then
    let g := s.gain e.thermalIdx
    (g.1, g.2.1, g.2.2.1)
  else (65536, 65536, 65536)

/-- The value that framing takes for raster pixel (x, y) of an entry. -/
def State.wirePixel (s : State) (r : Nat) (c : Composed) (e : TileEntry) (x y : Nat) : Rgb :=
  (withGain (s.entryGain r e) (s.calibrated r c e x y)).map (quantise (depthBits e.depth))

/-! Check rectangles (R273-R275). -/

/-- The remainder of a polynomial division, one bit: CRC-16/CCITT. -/
def crc16Bit (c : Nat) : Nat := if c.testBit 15 then ((c <<< 1) ^^^ 0x1021) % 65536 else (c <<< 1) % 65536

/-- CRC-16/CCITT-FALSE of one more byte. -/
def crc16Byte (c b : Nat) : Nat := (List.range 8).foldl (fun a _ => crc16Bit a) (c ^^^ (b % 256) <<< 8)

/-- CRC-16/CCITT-FALSE of bytes. -/
def crc16 (l : List Nat) : Nat := l.foldl crc16Byte 0xFFFF

/-- A check rectangle's words of raster `r`, bank and number. -/
def State.rectWords (s : State) (r bank i : Nat) : List Nat := tget [] s.scn.rects (r / 16 * 256 + r % 16 * 16 + bank * 8 + i)

/-- A rectangle: x, y, w, h. -/
def rectBox (w : List Nat) : Nat × Nat × Nat × Nat := (w.getD 0 0 % 65536, w.getD 0 0 / 65536, w.getD 1 0 % 65536, w.getD 1 0 / 65536)

/-- The lowest-numbered entry that wholly holds a rectangle (R273). -/
def rectEntry (es : List TileEntry) (b : Nat × Nat × Nat × Nat) : Option TileEntry :=
  es.find? fun e => e.x ≤ b.1 && b.1 + b.2.2.1 ≤ e.x + e.w && e.y ≤ b.2.1 && b.2.1 + b.2.2.2 ≤ e.y + e.h

/-- The check value of a rectangle in a frame (R274). -/
def State.rectValue (s : State) (r : Nat) (c : Composed) (es : List TileEntry) (w : List Nat) : Nat :=
  let b := rectBox w
  match rectEntry es b with
  | none => 0
  | some e =>
    let wire := bit (w.getD 2 0) 1
    crc16 ((List.range b.2.2.2).flatMap fun j => (List.range b.2.2.1).flatMap fun i =>
      let p := if wire then s.wirePixel r c e (b.1 + i) (b.2.1 + j)
        else (s.calibrated r c e (b.1 + i) (b.2.1 + j)).map (quantise (depthBits e.depth))
      [p.1 / 256, p.1 % 256, p.2.1 / 256, p.2.1 % 256, p.2.2 / 256, p.2.2 % 256])

/-- A rectangle meets the clipped destination rectangle of a layer whose chosen surface is sealed (R275). -/
def rectSealed (c : Composed) (b : Nat × Nat × Nat × Nat) : Bool :=
  c.shown.any fun h => h.isSealed && h.acts = 1 &&
    (let d := destOf h.geo
     let lx := max 0 d.1
     let ly := max 0 d.2.1
     let hx := min (c.width : Int) (d.1 + d.2.2.1)
     let hy := min (c.height : Int) (d.2.1 + d.2.2.2)
     lx < hx && ly < hy && (b.1 : Int) < hx && lx < (b.1 + b.2.2.1 : Nat) && (b.2.1 : Int) < hy && ly < (b.2.1 + b.2.2.2 : Nat))

/-- The check results of the frame whose last active line has been scanned out, at the latch that follows (R274, R275). CHECK_STATE holds
the form for roles below OWNER, and occurrences and counts, which every role sees, follow it; `checks` holds the form for OWNER. -/
def State.checkRects (s : State) (r : Nat) (c : Composed) : State :=
  let q := SCAN r
  let bank := s.rdL q Reg.SCAN_RG_CFG_CHECK_BANK
  let es := s.entriesL r
  let on := (List.range 8).filter fun i => bit ((s.rectWords r bank i).getD 2 0) 0
  let key (i : Nat) : Nat := r / 16 * 256 + r % 16 * 16 + bank * 8 + i
  let aged := (List.range 8).foldl (fun l i => tput 0 l (key i) (min 1024 (tget 0 l (key i) + 1))) s.scn.rectAge
  let s0 := { s with scn := { s.scn with rectAge := aged } }
  if on.isEmpty then s0
  else
    let val (i : Nat) : Nat := s.rectValue r c es (s.rectWords r bank i)
    let sealed' (i : Nat) : Bool := rectSealed c (rectBox (s.rectWords r bank i))
    let held (i : Nat) : Bool := sealed' i && tget 0 aged (key i) < 1024
    let good (i : Nat) : Bool := val i = (s.rectWords r bank i).getD 3 0 % 65536
    let mask (f : Nat → Bool) : Nat := ((on.filter f).map fun i => 2 ^ i).sum
    let bad := on.filter fun i => !held i && !good i
    let res := on.foldl (fun l i => tins (r * 8 + i) (val i ||| (c.frame % 65536) <<< 16, sealed' i) l) s.scn.results
    let s1 := { s0 with scn := { s0.scn with results := res, checks := tput 0 s0.scn.checks r (mask good ||| mask (fun i => !good i) <<< 8) } }
    let s2 := (((s1.wr q Reg.SCAN_CHECK_STATE_MATCH (mask fun i => !held i && good i)).wr q Reg.SCAN_CHECK_STATE_MISMATCH
      (mask fun i => !held i && !good i)).wr q Reg.SCAN_CHECK_STATE_WITHHELD (mask held)).wr q Reg.SCAN_CHECK_STATE_FRAME c.frame
    let s3 := s2.each bad fun t i => t.occur q 0x20 i c.frame
    let m := MAP (rasterIo r)
    (s3.addTo m Reg.MAP_CHECK_TOTAL on.length).addTo m Reg.MAP_MISMATCH_TOTAL bad.length

/-! Live thermal gain (R270, R271). -/

/-- One gain moves towards its target by at most 0.1 %. -/
def slew (k : Int) (t tref : Int) (g : Nat) : Nat :=
  let gt := clampI 32768 98303 (65536 + asr (k * (t - tref) + 8) 4)
  let step : Int := max 1 (g / 1024 : Nat)
  ((g : Int) + clampI (-step) step (gt - g)).toNat

/-- The thermal entries of a raster: index and the lowest-numbered entry that feeds it. -/
def State.thermalEntries (s : State) (r : Nat) : List (Nat × TileEntry) :=
  (s.entriesL r).foldr (fun e l => if e.therm then tins e.thermalIdx e l else l) []

/-- A tile lane; replaced. -/
def State.tlane (s : State) (n : Nat) : TileLane := tget {} s.scn.lanes n
def State.setTlane (s : State) (n : Nat) (x : TileLane) : State := { s with scn := { s.scn with lanes := tput {} s.scn.lanes n x } }

/-- The kept report of an entry's tile. -/
def State.entryReport (s : State) (e : TileEntry) : Option TileReport := tfind (s.tlane e.lane).reports e.chain

/-- THERMAL_STALE of a raster's PAGE_STATUS: some thermal entry of it is stale (R276). -/
def State.showStale (s : State) (r : Nat) : State :=
  s.wr (SCAN r) ⟨0xC, 4, 4⟩ (b2n ((s.thermalEntries r).any fun e => s.scn.stale.contains e.1))

/-- One thermal entry at the latch of a raster that latches THERMAL_EN 1: `temp` is the report in force and whether it is
new since the last latch. An entry without a report for STALE_FRAMES frames becomes stale, once, until a report comes (R271). -/
def State.thermalMove (s : State) (r idx : Nat) (temp : Option (Nat × Bool)) : State :=
  let q := SCAN r
  let m := MAP (rasterIo r)
  let bank := s.rdL q Reg.SCAN_RG_CFG_THERM_BANK
  let fresh := match temp with | some (_, f) => f | none => false
  let n := if fresh then 0 else tget 0 s.scn.silent idx + 1
  let was := s.scn.stale.contains idx && !fresh
  let isStale := was || max 1 (s.rdL q Reg.SCAN_THERMAL_CFG_STALE_FRAMES) ≤ n
  let s1 := { s with scn := { s.scn with
    silent := tput 0 s.scn.silent idx n, stale := if isStale then sins idx s.scn.stale else sdel idx s.scn.stale } }
  if isStale then
    if was then s1 else (s1.occur q 0x23 0 (idx <<< 32 ||| s.frameNo % 2 ^ 32)).inc m Reg.MAP_THERM_STALE_TOTAL
  else
    match temp with
    | none => s1
    | some (t, _) =>
      let w0 := s.thermalWord bank idx 0
      let w1 := s.thermalWord bank idx 1
      let g := s.gain idx
      let t' := sgn 16 t
      let tref := sgn 16 w0
      let g1 := (slew (sgn 16 (w0 / 65536)) t' tref g.1, slew (sgn 16 w1) t' tref g.2.1,
        slew (sgn 16 (w1 / 65536)) t' tref g.2.2.1, t)
      let s2 := { s1 with scn := { s1.scn with gains := tput (65536, 65536, 65536, 0) s1.scn.gains idx g1 } }
      if fresh then s2.inc m Reg.MAP_THERM_REPORTS else s2

/-- The thermal gains of a raster at its latch, from `report` (R270). -/
def State.thermalLatch (s : State) (r : Nat) (report : Nat × TileEntry → Option (Nat × Bool)) : State :=
  let es := s.thermalEntries r
  let s1 := if s.rdL (SCAN r) Reg.SCAN_RG_CFG_THERMAL_EN = 1 then s.each es fun t e => t.thermalMove r e.1 (report e) else s
  let s2 := s1.each (lanesOf (s.entriesL r)) fun t n =>
    t.setTlane n { t.tlane n with reports := (t.tlane n).reports.map fun e => (e.1, { e.2 with fresh := false }) }
  s2.showStale r

/-- The report of a thermal entry from its own tile, and whether no latch has used it yet. -/
def State.ownReport (s : State) (e : Nat × TileEntry) : Option (Nat × Bool) :=
  (s.entryReport e.2).map fun t => (t.temp, t.fresh)

/-! Read-only counts of the port pages (R260). -/

/-- Enabled entries in the map ranges of the enabled rasters of a chiplet. -/
def State.enabledEntries (s : State) (x : Nat) : List TileEntry :=
  ((List.range 16).filter fun j => s.enabled (SCAN (16 * x + j))).flatMap fun j => s.entriesBy (s.rd (SCAN (16 * x + j))) (16 * x + j)

/-! Validation (R251, R263, R268, R273). -/

/-- Bits per second of a tile lane's RATE (R304); 0 for the reserved code. -/
def tileRate (code : Nat) : Nat :=
  match code with
  | 0 => 1250000000 | 1 => 2500000000 | 2 => 3125000000 | 3 => 5000000000 | 4 => 6250000000 | 5 => 10000000000
  | 6 => 12500000000 | _ => 0

/-- Lane capacity (R263): bits that the line period of a raster of divisor `k` allows on a lane at a rate. -/
def laneCapacity (beat k vTotal rate : Nat) : Nat :=
  let nd := rateND beat
  9 * rate * 64 * k * nd.2 / (10 * 66 * nd.1 * max 1 vTotal)

/-- Bits that the entries of a lane need on the lines of entry `e`'s top line. -/
def laneNeed (es : List TileEntry) (lane y : Nat) : Nat :=
  ((es.filter fun e => e.lane = lane && e.y ≤ y && y < e.y + e.h).map fun e => e.w * 3 * depthBits e.depth + 256).sum

/-- The lanes whose capacity a raster's entries exceed. -/
def overfull (v : Values) (beat k vTotal : Nat) (es : List TileEntry) : List Nat :=
  (lanesOf es).filter fun l =>
    es.any fun e => e.lane = l &&
      laneCapacity beat k vTotal (tileRate (v (TL l) Reg.TL_LANE_CFG_RATE)) < laneNeed es l e.y

/-- Peak active rate of a raster exceeds `limit` px/s (R16): width × V_TOTAL × N / (k × D). -/
def peakAbove (v : Values) (beat r k limit : Nat) : Bool :=
  let nd := rateND beat
  limit * (k * nd.2) < v (SCAN r) Reg.SCAN_H_TIMING_H_ACTIVE * v (SCAN r) Reg.SCAN_V_TIMING_V_TOTAL * nd.1

/-- Pixels per second of a raster, × 1,001 × 840. -/
def rasterLoad (v : Values) (beat r : Nat) : Nat :=
  let nd := rateND beat
  v (SCAN r) Reg.SCAN_H_TIMING_H_ACTIVE * v (SCAN r) Reg.SCAN_V_TIMING_V_ACTIVE * (nd.1 * 1001 / max 1 nd.2)
    * (840 / (v (SCAN r) Reg.SCAN_RG_CFG_DIVISOR_M1 + 1))

/-- The checks on one enabled raster generator page (R251, R263, R273). `beat` is the beat rate code in force. -/
def State.scanChecks (s : State) (v active : Values) (beat r : Nat) : List Charge :=
  let q := SCAN r
  let x := rasterIo r
  let k := v q Reg.SCAN_RG_CFG_DIVISOR_M1 + 1
  let w := v q Reg.SCAN_H_TIMING_H_ACTIVE
  let va := v q Reg.SCAN_V_TIMING_V_ACTIVE
  let vt := v q Reg.SCAN_V_TIMING_V_TOTAL
  let nd := rateND beat
  let margin := v q Reg.SCAN_RG_CFG_COMMIT_MARGIN
  let first := v q Reg.SCAN_MAP_RANGE_MAP_FIRST
  let count := v q Reg.SCAN_MAP_RANGE_MAP_COUNT
  let es := s.entriesBy (v q) r
  let two := s.rd (COMP r) Reg.CRASTER_COMP_STATE_TWO_PIPES = 1
  let same (e f : TileEntry) : Bool := e.index ≠ f.index && e.lane = f.lane && e.chain = f.chain && e.region = f.region
  let others := (enabledOf v .scan 32).filter fun o => o / 16 = x && o ≠ r
  let shared := others.filter fun o =>
    let f := v (SCAN o) Reg.SCAN_MAP_RANGE_MAP_FIRST
    let n := v (SCAN o) Reg.SCAN_MAP_RANGE_MAP_COUNT
    overlaps first count f n
  let laneShare := others.filter fun o => (s.entriesBy (v (SCAN o)) o).any fun f => es.any fun e => e.lane = f.lane
  let full := overfull v beat k vt es
  let bank := v q Reg.SCAN_RG_CFG_CHECK_BANK
  let rects := ((List.range 8).map fun i => s.rectWords r bank i).filter fun e => bit (e.getD 2 0) 0
  let encs := (enabledOf v .enc 128).filter fun c => v ⟨.enc, c⟩ Reg.ENC_CH_CFG_RASTER = r && (v ⟨.enc, c⟩ Reg.ENC_CH_CFG_DIVISOR_M1 + 1) % k ≠ 0
  charge1 q (margin = 0 || 64 < margin || w < 64 || 16384 < w || va < 64 || 8640 < va || v q Reg.SCAN_THERMAL_CFG_STALE_FRAMES = 0
      || 16383 < vt || 8192 < count || k * nd.2 * 1000000000 ≤ v q Reg.SCAN_PHASE_PHASE_NS * nd.1) 0x01 ++
  charge1 q (vt < va + 64) 0x09 ++
  charge1 q (peakAbove v beat r k 7200000000 ||
    (active q Reg.PAGE_CTL_ENABLE = 1 && !two && peakAbove v beat r k 3600000000) ||
    (active q Reg.PAGE_CTL_ENABLE = 0 && (s.compChiplets (peakAbove v beat r k 3600000000)).isEmpty)) 0x0A ++
  charge1 q (8192 < first + count) 0x01 ++
  (if shared.isEmpty then [] else [{ pages := q :: shared.map SCAN, reason := 0x01 }]) ++
  (if v (COMP r) Reg.PAGE_CTL_ENABLE = 0 then [{ pages := [q, COMP r], reason := 0x01 }] else []) ++
  (if encs.isEmpty then [] else [{ pages := q :: encs.map fun c => ⟨.enc, c⟩, reason := 0x01 }]) ++
  charge1 q (es.any fun e => 4 < e.cellSize || e.reserved ≠ 0 || e.w = 0 || 4096 < e.w || e.h = 0 || 4096 < e.h
      || w < e.x + e.w || va < e.y + e.h || 896 ≤ e.lane) 0x01 ++
  charge1 q (es.any fun e => e.lane / 448 ≠ x) 0x0B ++
  charge1 q (es.any fun e => e.cellBase / 524288 ≠ x || (e.cellBase + e.cellsX * e.cellsY - 1) / 524288 ≠ x) 0x0C ++
  charge1 q (es.any fun e => e.thermalIdx / 2048 ≠ x) 0x0C ++
  charge1 q (es.any fun e => es.any fun f => same e f) 0x01 ++
  (if laneShare.isEmpty then [] else [{ pages := q :: laneShare.map SCAN, reason := 0x01 }]) ++
  (if full.isEmpty then [] else [{ pages := q :: full.map TL, reason := 0x01 }]) ++
  charge1 q (rects.any fun e =>
    let b := rectBox e
    b.2.2.1 = 0 || b.2.2.2 = 0 || e.getD 2 0 / 4 ≠ 0 || e.getD 3 0 / 65536 ≠ 0 || (rectEntry es b).isNone) 0x01 ++
  charge1 q (s.scn.loads.any fun l => s.scn.map.any fun e =>
    let t := tileEntry (e.1 % 8192) e.2
    e.1 / 8192 = x && first ≤ t.index && t.index < first + count && overlaps t.cellBase (t.cellsX * t.cellsY) l.2.2.1 l.2.2.2) 0x01

/-- The rate sum of one lane I/O chiplet: 8.05 Gpx/s (R251). -/
def scanBudget (v : Values) (beat x : Nat) : List Charge :=
  let on := (enabledOf v .scan 32).filter fun r => r / 16 = x
  if 8050000000 * 1001 * 840 < (on.map (rasterLoad v beat)).sum then [{ pages := on.map SCAN, reason := 0x0A }] else []

end Sys2Proof.Machine
end

