-- ==== Sys2Proof/Machine/Hints.lean ====
section
/-!
DEFINITION. Source preparation and composition hints (07_encoder_pipeline.md R155, 09_guided_coding.md R204-R214;
05_composition.md R131): what the source writer hands to an encode channel with each coded row.
-/

namespace Sys2Proof.Machine

/-- A pixel of a composed frame: of its composed line, or as composition would give it. -/
def State.pixAt (s : State) (r : Nat) (c : Composed) (x y : Nat) : Pix :=
  match tfind c.lines y with
  | some l => l.getD x { r := 0, g := 0, b := 0, owner := 255, alpha := 0 }
  | none => s.composePixel r c x y

/-! The raster hint map (R204-R209). -/

/-- The pixels of raster block (bx, by) inside the active area. -/
def blockPixels (c : Composed) (bx by' : Nat) : List (Nat × Nat) :=
  (List.range 64).flatMap fun j => (List.range 64).filterMap fun i =>
    if 64 * bx + i < c.width ∧ 64 * by' + j < c.height then some (64 * bx + i, 64 * by' + j) else none

/-- The first of a list with the greatest key, and the key. -/
def mostBy (key : Nat → Nat) : List Nat → Nat × Nat
  | [] => (255, 0)
  | x :: t => let b := mostBy key t; if b.2 ≤ key x then (x, key x) else b

/-- The dominant layer of a block and the pixels it owns (R207): ties go to the higher owner, the background is lowest. -/
def State.dominant (s : State) (r : Nat) (c : Composed) (bx by' : Nat) : Nat × Nat :=
  let owners := (blockPixels c bx by').map fun p => (s.pixAt r c p.1 p.2).owner
  mostBy (fun o => (owners.filter (· = o)).length) ((c.shown.map (·.layer)).reverse ++ [255])

/-- A layer's contribution to a frame. -/
def Composed.shownOf (c : Composed) (l : Nat) : Option Shown := c.shown.find? fun h => h.layer = l

/-- DOM_KIND of an owner (R205). -/
def Composed.kindOf (c : Composed) (l : Nat) : Nat :=
  match c.shownOf l with
  | some h => if geoField h.geo Reg.LAYER_LAYER_CFG_SOURCE = 2 then 2 else 1
  | none => 0

/-- EDGE of a block (R208). -/
def State.edgeBlock (s : State) (r : Nat) (c : Composed) (bx by' : Nat) : Bool :=
  (blockPixels c bx by').any fun p =>
    let a := s.pixAt r c p.1 p.2
    let near := (if p.1 = 0 then [] else [(p.1 - 1, p.2)]) ++ (if p.2 = 0 then [] else [(p.1, p.2 - 1)]) ++
      (if p.1 + 1 < c.width then [(p.1 + 1, p.2)] else []) ++ (if p.2 + 1 < c.height then [(p.1, p.2 + 1)] else [])
    a.owner ≠ 255 && c.kindOf a.owner = 2 && near.any fun q =>
      let b := s.pixAt r c q.1 q.2
      b.owner ≠ a.owner || 256 ≤ (a.alpha - b.alpha) + (b.alpha - a.alpha)

/-- A layer's clipped destination rectangle meets a raster block. -/
def meetsBlock (geo : List Nat) (c : Composed) (bx by' : Nat) : Bool :=
  let d := destOf geo
  let x0 : Int := max d.1 (64 * bx : Nat)
  let y0 : Int := max d.2.1 (64 * by' : Nat)
  let x1 : Int := min (min (d.1 + d.2.2.1) (64 * bx + 64 : Nat)) c.width
  let y1 : Int := min (min (d.2.1 + d.2.2.2) (64 * by' + 64 : Nat)) c.height
  x0 < x1 && y0 < y1

/-- The layer is line-following by its latched values. -/
def Shown.lineFollows (h : Shown) : Bool :=
  geoField h.latched.1 Reg.LAYER_LAYER_CFG_SOURCE = 0 && geoField h.latched.1 Reg.LAYER_LAYER_CFG_LINE_FOLLOW = 1

/-- A block of frame `c` is IDENTICAL to that of the frame `p` before it (R131). -/
def identical (p c : Composed) (bx by' : Nat) : Bool :=
  let layers := (p.shown ++ c.shown).filter fun h => meetsBlock h.geo c bx by' || meetsBlock h.geo p bx by'
  !p.first && !c.first && p.words = c.words && p.curve = c.curve && p.cause = c.cause && p.safeFrom = c.safeFrom &&
    !p.errored && !c.errored && p.width = c.width && p.height = c.height &&
    layers.all fun h =>
      match p.shownOf h.layer, c.shownOf h.layer with
      | some a, some b =>
        a.latched = b.latched && a.outcome = b.outcome && a.surf = b.surf && a.fell = b.fell && !a.lineFollows && !b.lineFollows
      | _, _ => false

/-- Where IDENT_RUN of a block is kept. -/
def identKey (bx by' : Nat) : Nat := by' * 1024 + bx

/-- IDENT_RUN of a completed hint map row (R206), of the frame being composed. -/
def State.identRow (s : State) (r by' : Nat) : State :=
  let x := s.ras r
  match x.composed with
  | c :: rest =>
    let run (bx : Nat) : Nat :=
      match rest with
      | p :: _ => if identical p c bx by' then min 15 (tget 0 p.ident (identKey bx by') + 1) else 0
      | [] => 0
    let t := (List.range (cdiv c.width 64)).foldl (fun t bx => tput 0 t (identKey bx by') (run bx)) c.ident
    s.setRas r { x with composed := { c with ident := t } :: rest }
  | [] => s

/-- A raster hint map entry (R205). -/
structure RasterHint where
  ident : Nat
  edge : Bool
  mvValid : Bool
  mvExact : Bool
  dom : Nat
  kind : Nat
  cover : Nat
  mvx : Int
  mvy : Int
  deriving DecidableEq, Repr

/-- One coordinate of a motion hint (R209): source origin and size, destination origin and size, in the frame and in the
earlier one. -/
def motionOf (c : Nat) (sx sw : Nat) (dx : Int) (dw : Nat) (px pw : Nat) (qx : Int) (qw : Nat) : Int :=
  let u := (sx : Int) * 16 + ((c : Int) - dx) * sw * 16 / dw
  qx * 16 + (u - (px : Int) * 16) * qw / pw - (c : Int) * 16

/-- The raster hint of a block of frame `c`; `p` is the frame of the channel's previous picture (R209), with the values latched for each
frame, whatever surface a REPEAT draws. -/
def State.rasterHint (s : State) (r : Nat) (c : Composed) (p : Option Composed) (bx by' : Nat) : RasterHint :=
  let d := s.dominant r c bx by'
  let base : RasterHint := { ident := tget 0 c.ident (identKey bx by'), edge := s.edgeBlock r c bx by', mvValid := false,
                             mvExact := false, dom := d.1, kind := c.kindOf d.1, cover := d.2 / 16, mvx := 0, mvy := 0 }
  match c.shownOf d.1, p.bind (·.shownOf d.1) with
  | some a, some b =>
    if a.acts = 1 && b.acts = 1 then
      let sa := sourceOfLayer a.latched.1
      let da := destOf a.latched.1
      let sb := sourceOfLayer b.latched.1
      let db := destOf b.latched.1
      let mx := motionOf (64 * bx + 32) sa.1 sa.2.2.1 da.1 da.2.2.1 sb.1 sb.2.2.1 db.1 db.2.2.1
      let my := motionOf (64 * by' + 32) sa.2.1 sa.2.2.2 da.2.1 da.2.2.2 sb.2.1 sb.2.2.2 db.2.1 db.2.2.2
      let ok := -32768 ≤ mx && mx ≤ 32767 && -32768 ≤ my && my ≤ 32767
      let still := a.surf = b.surf && a.latched.2 = b.latched.2 && a.latched.1.set 5 0 = b.latched.1.set 5 0
      if ok then { base with mvValid := true, mvExact := still, mvx := mx, mvy := my } else base
    else base
  | _, _ => base

/-- The entry's 64 bits (R205). -/
def hintWord (h : RasterHint) : Nat :=
  h.ident ||| b2n h.edge <<< 4 ||| b2n h.mvValid <<< 5 ||| b2n h.mvExact <<< 6 ||| h.dom <<< 8 ||| h.kind <<< 16
    ||| h.cover <<< 18 ||| twos 16 h.mvx <<< 32 ||| twos 16 h.mvy <<< 48

/-! The coded picture. -/

/-- What of a channel's latched ENC words shapes its picture: source x, y, width, height, SCALE_LOG2, CHROMA, HEVC, 8-bit,
CTU size, coded width and height without and with padding, columns and rows of CTUs, tile columns. -/
structure CodedGeo where
  x : Nat
  y : Nat
  w : Nat
  h : Nat
  scale : Nat
  chroma : Nat
  hevc : Bool
  main8 : Bool
  ctu : Nat
  w0 : Nat
  h0 : Nat
  w8 : Nat
  h8 : Nat
  wc : Nat
  v : Nat
  cols : Nat
  deriving DecidableEq, Repr

/-- A field of the words 0x040-0x058 of an ENC page. -/
def encField (words : List Nat) (f : Field) : Nat := bits (words.getD ((f.off - 0x40) / 4) 0) f.hi f.lo

/-- The shape of a channel's picture (R150, R155, R157). -/
def codedGeo (words : List Nat) : CodedGeo :=
  let g := encField words
  let sz := g Reg.ENC_SRC_SIZE
  let k := g Reg.ENC_CH_CFG_SCALE_LOG2
  let ctu := if g Reg.ENC_CH_CFG_CTU128 = 1 then 128 else 64
  let w0 := sz % 65536 / 2 ^ k
  let h0 := sz / 65536 / 2 ^ k
  { x := g Reg.ENC_SRC_ORIGIN % 65536, y := g Reg.ENC_SRC_ORIGIN / 65536, w := sz % 65536, h := sz / 65536, scale := k,
    chroma := g Reg.ENC_CH_CFG_CHROMA, hevc := g Reg.ENC_CH_CFG_CODEC = 1,
    main8 := g Reg.ENC_CH_CFG_CODEC = 1 && g Reg.ENC_CH_CFG_PROFILE = 0, ctu := ctu, w0 := w0, h0 := h0,
    w8 := roundUp w0 8, h8 := roundUp h0 8, wc := cdiv (roundUp w0 8) ctu, v := cdiv (roundUp h0 8) ctu,
    cols := g Reg.ENC_SLICE_CFG_TILE_COLS_M1 + 1 }

/-- The first CTU column of tile column `i`; that of the next is its end (R157). -/
def CodedGeo.tileStart (g : CodedGeo) (i : Nat) : Nat := i * g.wc / g.cols

/-- The raster lines, from the source's top, on which coded row `row` depends: the last of them (R155, R210). -/
def CodedGeo.lastSourceLine (g : CodedGeo) (row : Nat) : Nat :=
  let k := min ((row + 1) * g.ctu) g.h0
  min (g.h - 1) (2 ^ g.scale * k + 2 ^ g.scale - 2)

/-! Source samples (R155). -/

/-- A plane of samples while it is prepared. -/
structure Plane where
  w : Nat
  h : Nat
  at' : Nat → Nat → Nat

/-- A sample with its indices replaced by the nearest inside. -/
def Plane.near (p : Plane) (x y : Int) : Nat := p.at' (clampIdx x p.w) (clampIdx y p.h)

/-- One scale stage: the width, then the height, halved. -/
def Plane.halve (p : Plane) : Plane :=
  let a : Plane := { w := p.w / 2, h := p.h, at' := fun x y =>
    (p.near (2 * x - 1) y + 3 * p.near (2 * x) y + 3 * p.near (2 * x + 1) y + p.near (2 * x + 2) y + 4) / 8 }
  { w := a.w, h := p.h / 2, at' := fun x y =>
    (a.near x (2 * y - 1) + 3 * a.near x (2 * y) + 3 * a.near x (2 * y + 1) + a.near x (2 * y + 2) + 4) / 8 }

/-- SCALE_LOG2 stages. -/
def Plane.scale (p : Plane) : Nat → Plane
  | 0 => p
  | n + 1 => p.halve.scale n

/-- The chroma step of 4:2:2 (1) and 4:2:0 (0); 4:4:4 keeps the plane. -/
def Plane.chroma (p : Plane) (chroma : Nat) : Plane :=
  let a : Plane := { w := p.w / 2, h := p.h, at' := fun x y =>
    (p.near (2 * x - 1) y + 2 * p.near (2 * x) y + p.near (2 * x + 1) y + 2) / 4 }
  if chroma = 2 then p
  else if chroma = 1 then a
  else { w := a.w, h := p.h / 2, at' := fun x y => (a.near x (2 * y) + a.near x (2 * y + 1) + 1) / 2 }

/-- Component `k` of the coded source of a frame: cropped, scaled, chroma-reduced and at its depth. -/
def State.sourcePlane (s : State) (r : Nat) (c : Composed) (g : CodedGeo) (k : Nat) : Plane :=
  let px (x y : Nat) : Nat :=
    let p := s.pixAt r c (g.x + x) (g.y + y)
    axis (s.bcast r c.curve (p.r, p.g, p.b)) k
  let crop : Plane := { w := g.w, h := g.h, at' := px }
  let a := crop.scale g.scale
  let b := if k = 0 then a else a.chroma g.chroma
  if g.main8 then { b with at' := fun x y => (b.at' x y + 2) / 4 } else b

/-- The lines of coded row `row`, luma then both chroma components, padded (R155 step 5). -/
def State.sourceRow (s : State) (r : Nat) (c : Composed) (g : CodedGeo) (row : Nat) : List (List Nat) :=
  (List.range 3).flatMap fun k =>
    let p := s.sourcePlane r c g k
    let sx := if k = 0 || g.chroma = 2 then 1 else 2
    let sy := if k = 0 || g.chroma ≠ 0 then 1 else 2
    (List.range ((min g.h8 ((row + 1) * g.ctu) - row * g.ctu) / sy)).map fun j =>
      (List.range (g.w8 / sx)).map fun x => p.near (x : Nat) (row * g.ctu / sy + j : Nat)

/-! The map buffers of a channel (R204, R205). -/

/-- The raster blocks that a channel's map covers: those that meet its source rectangle, the union of the footprints (R204, R210). -/
def CodedGeo.mapBlock (g : CodedGeo) (bx by' : Nat) : Bool :=
  g.x < 64 * bx + 64 && 64 * bx < g.x + g.w && g.y < 64 * by' + 64 && 64 * by' < g.y + g.h

/-- A map with entries added: those of an earlier frame in the buffer go. -/
def HintMap.add (m : HintMap) (frame : Nat) (l : List (Nat × Nat)) : HintMap :=
  l.foldl (fun m e => { m with words := tput 0 m.words e.1 e.2 }) (if m.frame = frame then m else { frame := frame, words := [] })

/-- The compositor writes the row `by'` of the raster hint map of the frame being composed for channel `c`, into the buffer of its
frame's number mod 2 (R204); `k` is that of R214. -/
def State.writeMapRow (s : State) (r by' k : Nat) (g : CodedGeo) (x : EncChannel) : EncChannel :=
  match (s.ras r).composed with
  | f :: rest =>
    let m := (tfind x.maps (f.count % 2)).getD { frame := f.frame, words := [] }
    let l := ((List.range (cdiv f.width 64)).filter fun bx => g.mapBlock bx by').map fun bx =>
      (identKey bx by', hintWord (s.rasterHint r f rest[k - 1]? bx by'))
    { x with maps := tins (f.count % 2) (m.add f.frame l) x.maps }
  | [] => x

/-- The entry of a block in the map of a channel's frame (R204, R205): 0 where the map has none. -/
def HintMap.entry (m : HintMap) (b : Nat × Nat) : Nat := tget 0 m.words (identKey b.1 b.2)

/-! Coded hints (R210-R212). -/

/-- A raster hint in coded luma units (R212). -/
def codedMv (g : CodedGeo) (v : Int) : Int :=
  let a := if g.scale = 0 then v else asr (v + (2 ^ (g.scale - 1) : Nat)) g.scale
  if g.hevc then asr (a + 2) 2 else a

/-- Raster blocks of an area, by block column and row: from (x0, y0) to (x1, y1), exclusive. -/
def blocksOf (x0 y0 x1 y1 : Nat) : List (Nat × Nat) :=
  (List.range (cdiv y1 64 - y0 / 64)).flatMap fun j => (List.range (cdiv x1 64 - x0 / 64)).map fun i => (x0 / 64 + i, y0 / 64 + j)

/-- The coded hint of coded block (cbx, cby), reduced from the raster hint map of its frame (R210, R211); `k` is that of R214. -/
def codedHint (k : Nat) (m : HintMap) (g : CodedGeo) (cbx cby : Nat) : CodedHint :=
  let n := 64 * 2 ^ g.scale
  let mh := 2 ^ (g.scale + 1) - 1
  let mv := 2 ^ g.scale - 1
  let x0 := g.x + n * cbx
  let y0 := g.y + n * cby
  let x1 := min (x0 + n) (g.x + g.w)
  let y1 := min (y0 + n) (g.y + g.h)
  let foot := blocksOf (max g.x (x0 - mh)) (max g.y (y0 - mv)) (min (x0 + n + mh) (g.x + g.w)) (min (y0 + n + mv) (g.y + g.h))
  let w := m.entry (min (x0 + n / 2) (g.x + g.w - 1) / 64, min (y0 + n / 2) (g.y + g.h - 1) / 64)
  { isStatic := foot.all fun b => k ≤ bits (m.entry b) 3 0,
    edge := (blocksOf x0 y0 x1 y1).any fun b => bit (m.entry b) 4,
    dom := bits w 15 8, kind := bits w 17 16, cover := bits w 26 18, mvValid := bit w 5, mvExact := bit w 6,
    mvx := codedMv g (sgn 16 (bits w 47 32)), mvy := codedMv g (sgn 16 (bits w 63 48)) }

/-- Coded 64 × 64 blocks across a picture, and block rows of a CTU row. -/
def CodedGeo.blocksAcross (g : CodedGeo) : Nat := cdiv g.w8 64
def CodedGeo.blockRows (g : CodedGeo) (row : Nat) : List Nat :=
  (List.range (g.ctu / 64)).filterMap fun j => if (row * (g.ctu / 64) + j) * 64 < g.h8 then some (row * (g.ctu / 64) + j) else none

/-- The blocks of a CTU row, in raster order. -/
def CodedGeo.rowBlocks (g : CodedGeo) (row : Nat) : List (Nat × Nat) :=
  (g.blockRows row).flatMap fun by' => (List.range g.blocksAcross).map fun bx => (bx, by')

/-- The coded hints of a CTU row. -/
def codedHints (k : Nat) (m : HintMap) (g : CodedGeo) (row : Nat) : List CodedHint :=
  (g.rowBlocks row).map fun b => codedHint k m g b.1 b.2

end Sys2Proof.Machine
end

