-- ==== Sys2Proof/Machine/RateModel.lean ====
section
/-!
DEFINITION. The rate-control arithmetic of an encode channel (08_rate_control.md R184-R198): decoding units, removal times,
limits, floor costs and the release check, all on the words latched for a picture.
-/

namespace Sys2Proof.Machine

/-- A field of the words 0x044-0x060 of a rate-control entry. -/
def rcField (rc : List Nat) (f : Field) : Nat := bits (rc.getD ((f.off - 0x44) / 4) 0) f.hi f.lo

/-- What the buffer model needs of a channel: beat rate N and D, m, V, rows per decoding unit, rate R in bits per second, C in
bits, INIT_DELAY in ticks, REMOVAL_OFFSET in µs, CBR, and the FRAME_NO of the first picture. -/
structure HrdModel where
  n : Nat
  d : Nat
  m : Nat
  v : Nat
  duRows : Nat
  rate : Nat
  size : Nat
  init : Nat
  offset : Nat
  cbr : Bool
  first : Nat
  deriving DecidableEq, Repr

/-- CTU rows per slice, at most the picture. -/
def sliceRows (words : List Nat) : Nat := max 1 (encField words Reg.ENC_SLICE_CFG_SLICE_ROWS)

/-- The model of a channel (R186, R187) at a beat rate. -/
def hrdModel (beat first : Nat) (words rc : List Nat) : HrdModel :=
  let nd := rateND beat
  let g := codedGeo words
  { n := nd.1, d := nd.2, m := encField words Reg.ENC_CH_CFG_DIVISOR_M1 + 1, v := max 1 g.v,
    duRows := if rcField rc Reg.RC_RC_CFG_DU_MODE = 1 then sliceRows words else max 1 g.v,
    rate := rcField rc Reg.RC_MAX_RATE * 64, size := rcField rc Reg.RC_CPB_SIZE * 16,
    init := rcField rc Reg.RC_INIT_DELAY % 2 ^ 24, offset := rcField rc Reg.RC_REMOVAL_OFFSET % 2 ^ 20,
    cbr := rcField rc Reg.RC_RC_CFG_MODE = 0, first := first }

/-- Decoding units per picture; one more than the last row of unit `k`; the unit of a row (R186). -/
def HrdModel.dus (h : HrdModel) : Nat := cdiv h.v h.duRows
def HrdModel.duEnd (h : HrdModel) (k : Nat) : Nat := min ((k + 1) * h.duRows) h.v
def HrdModel.duOf (h : HrdModel) (row : Nat) : Nat := row / h.duRows

/-- The time scale T of the model: instants are kept as numerators over T seconds after t_s. -/
def HrdModel.scale (h : HrdModel) : Nat := max 1 (h.n * h.v * 90000)

/-- t_r(k) − t_s of decoding unit `k` of the picture of frame `f`, over T (R187). -/
def HrdModel.removal (h : HrdModel) (f k : Nat) : Nat :=
  ((f - h.first) * h.d * h.v + (h.duEnd k - h.duEnd 0) * h.m * h.d) * 90000 + h.init * h.n * h.v

/-- Start of arrival of a unit in VBR, scaled by R × T (R188). -/
def HrdModel.arrivalStart (h : HrdModel) (f k before : Nat) : Nat :=
  max before (h.rate * h.removal f k - h.rate * h.init * h.n * h.v)

/-- U_k: the upper limit on S(k), with S and the arrival of the unit before it (R188). -/
def HrdModel.upper (h : HrdModel) (f k sBefore aBefore : Nat) : Nat :=
  if h.cbr then h.rate * h.removal f k / h.scale
  else sBefore + (h.rate * h.removal f k - h.arrivalStart f k aBefore) / h.scale

/-- Final arrival of a unit of which S(k) is `s`, scaled by R × T. -/
def HrdModel.arrivalEnd (h : HrdModel) (f k sBefore aBefore s : Nat) : Nat :=
  if h.cbr then h.scale * s else h.arrivalStart f k aBefore + h.scale * (s - sBefore)

/-- L_k in CBR: U_{k+1} − C, where unit k + 1 may open the next picture (R188). -/
def HrdModel.lower (h : HrdModel) (f k : Nat) : Nat :=
  let next := if k + 1 < h.dus then h.removal f (k + 1) else h.removal (f + h.m) 0
  if h.cbr then h.rate * next / h.scale - h.size else 0

/-- The denominator of exact model times. -/
def HrdModel.over (h : HrdModel) : Nat := max 1 (h.rate * h.scale)

/-- Final arrival as an exact SYSTIME, a numerator over `h.over` (R187, R200). -/
def HrdModel.arrivalTime (h : HrdModel) (beat a : Nat) : Int :=
  let start : Nat := h.rate * ((h.v - h.duEnd 0) * h.m * h.d * 90000 + h.init * h.n * h.v)
  (((beatStart beat h.first + us h.offset) * h.over : Nat) : Int) + ((a : Int) - start) * 65536000000000

/-! Overheads and floor costs (R191, R192). -/

/-- Kind of a picture for its overhead: 0 IDR, 1 first of a sweep, 2 other. -/
def overheadKind (kind : Nat) (sweep : Option (Nat × Nat)) : Nat :=
  if kind = 0 then 0 else match sweep with | some (0, _) => 1 | _ => 2

/-- The non-VCL NAL units that precede a picture's first slice, in order, as EncNal.code numbers them, by HEVC and the picture's kind (R149,
R161, R190). DESIGN CHOICE (log 90): an ALF APS and the SEI messages stand between the PPS and the picture header. -/
def picNals (hevc : Bool) (k : Nat) : List Nat :=
  [0] ++ (if k < 2 then (if hevc then [1] else []) ++ [2, 3] else []) ++ (if hevc then [] else [4]) ++
    (if k < 2 then [5] else []) ++ [6] ++ (if hevc && k = 1 then [7] else []) ++ (if hevc then [] else [8])

/-- The channel codes HEVC. -/
def isHevc (words : List Nat) : Bool := encField words Reg.ENC_CH_CFG_CODEC = 1

/-- The sizes in bytes of those that a picture sends: an APS of 0 bytes is not sent. -/
def picSizes (words rc : List Nat) (k : Nat) : List (Nat × Nat) :=
  ((picNals (isHevc words) k).map fun c => (c, Config.nalBytes words rc k c)).filter fun e => e.2 ≠ 0

/-- H_pic in bits. -/
def picOverhead (words rc : List Nat) (k : Nat) : Nat := 8 * ((picSizes words rc k).map (·.2)).sum

/-- Bytes of a decoding unit information SEI message's NAL unit (R190). -/
def unitInfoBytes (words rc : List Nat) : Nat := Config.nalBytes words rc 2 9

/-- Slices that one row of slices holds: one, or one per tile column (R157-R159). -/
def slicesAcross (words : List Nat) : Nat :=
  if isHevc words || encField words Reg.ENC_SLICE_CFG_SUBPIC = 1
  then encField words Reg.ENC_SLICE_CFG_TILE_COLS_M1 + 1 else 1

/-- Rows of slices of a picture; its slices (R157-R159). -/
def sliceRowCount (words : List Nat) : Nat := cdiv (codedGeo words).v (sliceRows words)
def sliceCount (words : List Nat) : Nat := sliceRowCount words * slicesAcross words

/-- The row of slices that slice `i`, in emission order, lies in. -/
def sliceRowOf (words : List Nat) (i : Nat) : Nat :=
  if slicesAcross words = 1 then i
  else if isHevc words then i % sliceRowCount words
  else i / slicesAcross words

/-- First row, and one more than the last row, of slice `i`. -/
def sliceSpan (words : List Nat) (i : Nat) : Nat × Nat :=
  (sliceRowOf words i * sliceRows words, min ((sliceRowOf words i + 1) * sliceRows words) (codedGeo words).v)

/-- Entry points of slice `i`: one for each of its tiles but the first (R157, R159, R191); an HEVC slice lies in one tile (R158). -/
def entryPoints (words : List Nat) (i : Nat) : Nat :=
  let (a, b) := sliceSpan words i
  if isHevc words then 0 else (b - a) * (if slicesAcross words = 1 then (codedGeo words).cols else 1) - 1

/-- Bits of slice `i` before its rows: start code, NAL header and slice header with its 32-bit entry points (R191). -/
def sliceHeadBits (words rc : List Nat) (i : Nat) : Nat := Config.sliceHead words rc i + 32 * entryPoints words i

/-- Decoding unit `k` is preceded by a decoding unit information SEI message: each but the last, with DU_MODE 1 (R190). -/
def HrdModel.informs (h : HrdModel) (rc : List Nat) (k : Nat) : Bool := rcField rc Reg.RC_RC_CFG_DU_MODE = 1 && k + 1 < h.dus

/-- H_slice terms that begin with row `r`: the slices', and the SEI message of a decoding unit that begins there. -/
def sliceTerms (words rc : List Nat) (r : Nat) : Nat :=
  if r % sliceRows words = 0 then
    (((List.range (sliceCount words)).filter fun i => (sliceSpan words i).1 = r).map (sliceHeadBits words rc)).sum +
      (if (hrdModel 0 0 words rc).informs rc (r / sliceRows words) then 8 * unitInfoBytes words rc else 0)
  else 0

/-- φ of a CTU (R192). -/
def phi (g : CodedGeo) (intra : Bool) : Nat :=
  match g.hevc, intra, g.ctu with
  | true, false, _ => 20
  | true, true, _ => 48
  | false, false, 64 => 24
  | false, false, _ => 28
  | false, true, 64 => 48
  | false, true, _ => 176

/-- CTU columns that a picture's floor mode codes intra: all of an IDR picture, the intra columns and the refreshed area of
a sweep picture (R161, R192). -/
def intraColumns (g : CodedGeo) (kind : Nat) (sweep : Option (Nat × Nat)) : Nat :=
  if kind = 0 then g.wc
  else match sweep with
    | some (j, p) => (j + 1) * g.wc / max 1 p
    | none => 0

/-- Floor cost of row `r` with `intra` intra columns (R192). -/
def rowFloor (words : List Nat) (intra r : Nat) : Nat :=
  let g := codedGeo words
  let ends := (r + 1) % sliceRows words = 0 || r + 1 = g.v
  intra * phi g true + (g.wc - intra) * phi g false +
    (if !g.hevc || ends then 40 * g.cols else 0)

/-- Φ(r, j): floor cost of the rows after `r` through unit `j`, with their slice terms (R195). -/
def floorAfter (h : HrdModel) (words rc : List Nat) (intra r j : Nat) : Nat :=
  ((List.range (h.duEnd j)).filter fun q => r < q).foldl (fun a q => a + rowFloor words intra q + sliceTerms words rc q) 0

/-- The margins U_j − s − Φ(r, j) of the units `j` from `k` on, with S and arrival of the unit before (R195): later units
are taken at floor cost. -/
def margins (h : HrdModel) (words rc : List Nat) (f intra r s : Nat) : Nat → Nat → Nat → Nat → List Int
  | 0, _, _, _ => []
  | n + 1, k, sb, ab =>
    if h.dus ≤ k then []
    else
      let e := s + floorAfter h words rc intra r k
      ((h.upper f k sb ab : Int) - e) :: margins h words rc f intra r s n (k + 1) e (h.arrivalEnd f k sb ab e)

/-- Filler bytes after unit `k` of which S(k) is `s` (R198). -/
def fillerBytes (h : HrdModel) (f k sBefore aBefore s : Nat) : Nat :=
  let l := h.lower f k
  if h.cbr && s < l then min (max 7 (cdiv (l - s) 8)) ((h.upper f k sBefore aBefore - s) / 8) else 0

/-- Floor cost of unit `k`, overhead included, at its costliest (R192). -/
def duFloor (h : HrdModel) (words rc : List Nat) (k : Nat) : Nat :=
  ((List.range (h.duEnd k)).filter fun q => k * h.duRows ≤ q).foldl
    (fun a q => a + rowFloor words (codedGeo words).wc q + sliceTerms words rc q)
    (if k = 0 then [0, 1, 2].foldl (fun a j => max a (picOverhead words rc j)) 0 else 0)

/-- Feasibility (R193). -/
def feasible (h : HrdModel) (words rc : List Nat) : Bool :=
  let gap (k : Nat) : Nat := if k = 0 then h.duEnd 0 * h.m * h.d * 90000 else (h.duEnd k - h.duEnd (k - 1)) * h.m * h.d * 90000
  (List.range h.dus).all (fun k => duFloor h words rc k ≤ h.rate * gap k / h.scale) &&
    (!h.cbr || (List.range h.dus).all fun k => h.rate * gap k + 64 * h.scale ≤ h.size * h.scale)

/-- FLOOR_COST_ROW and FLOOR_COST_DU (R184). -/
def floorCostRow (words : List Nat) : Nat :=
  let g := codedGeo words
  ((List.range g.v).map fun r => rowFloor words g.wc r).foldl max 0 % 2 ^ 24

def floorCostDu (h : HrdModel) (words rc : List Nat) : Nat := ((List.range h.dus).map (duFloor h words rc)).foldl max 0

/-- Trailing zero bits of a number, at most 15. -/
def trailing (x : Nat) : Nat := ((List.range 16).filter fun k => x % 2 ^ k = 0).foldl max 0

/-- HRD_INFO (R184, R190). -/
def hrdInfo (h : HrdModel) (rc : List Nat) : Nat :=
  trailing (rcField rc Reg.RC_MAX_RATE) ||| trailing (rcField rc Reg.RC_CPB_SIZE) <<< 4 ||| (h.dus % 256) <<< 8

/-- The HRD parameters that a stream signals (R190): NAL only, one schedule, MAX_RATE × 64 and CPB_SIZE × 16 exactly with the largest
scales; with DU_MODE 1 tick_divisor = V. -/
def HrdModel.signal (h : HrdModel) (rc : List Nat) : HrdFields :=
  let rs := trailing (rcField rc Reg.RC_MAX_RATE)
  let cs := trailing (rcField rc Reg.RC_CPB_SIZE)
  { nal := 1, vcl := 0, rateScale := rs, rateValue := rcField rc Reg.RC_MAX_RATE / 2 ^ rs, sizeScale := cs,
    sizeValue := rcField rc Reg.RC_CPB_SIZE / 2 ^ cs, cbr := b2n h.cbr, lowDelay := 0,
    tickDivisor := if rcField rc Reg.RC_RC_CFG_DU_MODE = 1 then some h.v else none }

/-- The initial removal delay of a buffering period in 90 kHz ticks, rounded down (R190): from the arrival of the picture's first bit in the
model, with S and arrival before it, to the removal of its first decoding unit. -/
def HrdModel.initialDelay (h : HrdModel) (f sBefore aBefore : Nat) : Nat :=
  let start := if h.cbr then h.scale * sBefore else h.arrivalStart f 0 aBefore
  (h.rate * h.removal f 0 - start) * 90000 / h.over

/-- The removal delay of a picture, in ticks of D × m / N (R187, R190). DEDUCED (log 90): counted from the picture of the latest buffering
period, as Annex C counts it. -/
def HrdModel.removalTicks (h : HrdModel) (f period : Nat) : Nat := (f - period) / max 1 h.m

/-- The removal delay increment of a decoding unit, in sub-ticks: V − e_k (R190). -/
def HrdModel.increment (h : HrdModel) (k : Nat) : Nat := h.v - h.duEnd k

/-- STEP[k] for k in −12..12: 4,096 × 2^(−k/6) rounded under R133 (R194). -/
def stepOf (k : Int) : Nat := if k ≤ 0 then rootRound 6 (4096 ^ 6 * 2 ^ (-k).toNat) 1 else rootRound 6 (4096 ^ 6) (2 ^ k.toNat)

/-- The QP change of a plan: the smallest k in −12..12 with w × STEP[k] ≤ τ × 4,096, else 12 (R194). -/
def qpStep (w tau : Nat) : Int :=
  ((List.range 25).map fun (i : Nat) => (i : Int) - 12).find? (fun k => w * stepOf k ≤ tau * 4096) |>.getD 12

end Sys2Proof.Machine
end

