-- ==== Sys2Proof/Machine/Coding.lean ====
section
/-!
DEFINITION. What the spec fixes of a coded picture: tools and NAL units (07_encoder_pipeline.md R148, R149, R159, R161, R190), the coding of
each block in floor mode and by hints (08_rate_control.md R192; 09_guided_coding.md R216-R223), the shared motion analysis (R226, R227), the
inputs of a pixel job (R164), and the reconstruction (R162, R163, R217).
-/

namespace Sys2Proof.Machine

open Config (BlockCode RefSearch BlockPlan StaticCu JobInput Tool)

/-! Pictures and rows. -/

/-- A row; a picture with a row changed. -/
def EncPicture.row (p : EncPicture) (r : Nat) : EncRow := p.rows.getD r {}
def EncPicture.setRow (p : EncPicture) (r : Nat) (x : EncRow) : EncPicture := { p with rows := p.rows.set r x }

/-- A picture's shape. -/
def EncPicture.geo (p : EncPicture) : CodedGeo := codedGeo p.words

/-- The channel of rung 0 of a picture's ladder, and the refinement range of rungs 1-7 (R177), by the words latched for the picture. -/
def EncPicture.lead (p : EncPicture) : Nat := p.ladder.getD 1 0 % 128
def EncPicture.refine (p : EncPicture) : Nat := bits (p.ladder.getD 0 0) 7 4

/-- A picture by number; a channel with a picture changed. -/
def EncChannel.pic (x : EncChannel) (n : Nat) : Option EncPicture := x.pictures.find? fun p => p.number = n
def EncChannel.setPic (x : EncChannel) (p : EncPicture) : EncChannel :=
  { x with pictures := x.pictures.map fun q => if q.number = p.number then p else q }

/-! Tools (R148). -/

/-- A tool that a codec's streams may use, with the raster's latched OUT_TCS (0 PQ): LMCS only with PQ (R148). -/
def toolAllowed (hevc : Bool) (tcs : Nat) : Tool → Bool
  | .quadTree | .merge | .tmvp | .transformSkip | .deblocking | .sao | .tiles | .idr => true
  | .binarySplit | .ternarySplit | .intra67 | .mrl | .isp | .mip | .cclm | .mmvd | .sbTmvp | .amvr | .smvd | .bcw | .bdof | .dmvr
  | .ciip | .gpm | .affine4 | .mts | .lfnst | .sbt | .dependentQuantisation | .jointCbCr | .alf | .ccAlf | .subpictures | .gdr => !hevc
  | .lmcs => !hevc && tcs = 0
  | .asymmetric | .intra35 | .signHiding | .recoveryPoint => hevc
  | .amvp => true
  | .ibc | .palette | .act | .rpr | .affine6 | .wavefront | .scalingLists | .weightedPrediction | .longTermReferences | .reordering
  | .fieldCoding | .lossless | .dependentSlices | .pcm | .transquantBypass | .rangeExtensions => false

/-- Every tool of the table. -/
def allTools : List Tool :=
  [.quadTree, .binarySplit, .ternarySplit, .asymmetric, .intra67, .mrl, .isp, .mip, .cclm, .intra35, .merge, .mmvd, .sbTmvp, .tmvp, .amvp,
   .amvr, .smvd, .bcw, .bdof, .dmvr, .ciip, .gpm, .affine4, .mts, .lfnst, .sbt, .transformSkip, .dependentQuantisation, .jointCbCr] ++
  [.signHiding, .deblocking, .sao, .alf, .ccAlf, .lmcs, .tiles, .subpictures, .idr, .gdr, .recoveryPoint, .ibc, .palette, .act, .rpr,
   .affine6, .wavefront, .scalingLists, .weightedPrediction, .longTermReferences, .reordering, .fieldCoding, .lossless, .dependentSlices,
   .pcm, .transquantBypass, .rangeExtensions]

/-- The tools that a picture may use: temporal motion vector prediction as its header says (R197). -/
def EncPicture.tools (p : EncPicture) : List Tool :=
  allTools.filter fun t => toolAllowed (isHevc p.words) p.tcs t && (p.tmvp || t ≠ .tmvp)

/-! NAL units (R149, R159, R161, R190, R222). -/

/-- colour_primaries, transfer_characteristics and matrix_coeffs for an OUT_TCS (R149). -/
def vuiColour (tcs : Nat) : Nat × Nat × Nat := match tcs with | 0 => (9, 16, 9) | 1 => (9, 18, 9) | _ => (1, 1, 1)

/-- The VUI of a picture's parameter sets at a beat rate (R149). -/
def EncPicture.vui (p : EncPicture) (beat k : Nat) : VuiFields :=
  let c := vuiColour p.tcs
  let nd := rateND beat
  { primaries := c.1, transfer := c.2.1, matrix := c.2.2, fullRange := 0, chromaLoc := 0, unitsInTick := nd.2 * k, timeScale := nd.1 }

/-- With SUBPIC 1, subpic_treated_as_pic_flag 1 and loop_filter_across_subpic_enabled_flag 0 (R159). -/
def subpicFlags (words : List Nat) : Option (Nat × Nat) :=
  if encField words Reg.ENC_SLICE_CFG_SUBPIC = 1 then some (1, 0) else none

/-- cu_qp_delta_subdiv of VVC, or diff_cu_qp_delta_depth of HEVC, for a quantisation group of 64 × 64 (R222). -/
def qpGroup (words : List Nat) : Nat := if encField words Reg.ENC_CH_CFG_CTU128 = 1 then 2 else 0

/-- ph_recovery_poc_cnt, or recovery_poc_cnt: PERIOD − 1, of the first picture of a sweep (R161). -/
def EncPicture.recovery (p : EncPicture) : Option Nat :=
  match p.sweep with | some (0, n) => some (n - 1) | _ => none

/-- The NAL unit of number `code` that precedes a picture's first slice; `n` is the count of R187's D × m / N ticks in its picture
timing, `delay` the initial removal delay. -/
def EncPicture.nal (p : EncPicture) (h : HrdModel) (beat n delay : Nat) (code : Nat) : EncNal :=
  match code with
  | 0 => .aud
  | 1 => .vps
  | 2 => .sps (p.vui beat h.m) (h.signal p.rc) (subpicFlags p.words)
  | 3 => .pps 1 (qpGroup p.words) 0
  | 4 => .aps
  | 5 => .bufferingPeriod delay
  | 6 => .pictureTiming n
  | 7 => .recoveryPoint (p.recovery.getD 0) 1 0
  | _ => .picHeader p.poc p.recovery p.tmvp

/-! The coding of a block (R192, R216-R223). -/

/-- A field of a picture's latched ENC words. -/
def EncPicture.enc (p : EncPicture) (f : Field) : Nat := encField p.words f

/-- The CTU column of a block. -/
def CodedGeo.columnOf (g : CodedGeo) (b : Nat × Nat) : Nat := b.1 * 64 / g.ctu

/-- A CTU column that a picture codes intra: all of an IDR picture, the intra columns of a sweep picture (R161). -/
def EncPicture.intraAt (p : EncPicture) (col : Nat) : Bool :=
  p.kind = 0 || (match p.sweep with
    | some (j, q) => j * p.geo.wc / max 1 q ≤ col && col < (j + 1) * p.geo.wc / max 1 q
    | none => false)

/-- A CTU column of the refreshed area of a sweep picture (R161). -/
def EncPicture.refreshedAt (p : EncPicture) (col : Nat) : Bool :=
  match p.sweep with | some (j, q) => col < j * p.geo.wc / max 1 q | none => false

/-- The base QP of a block's CUs (R220). -/
def EncPicture.baseQp (p : EncPicture) (row : EncRow) (h : CodedHint) : Nat :=
  if p.enc Reg.ENC_CODING_CFG_HINT_EDGE = 1 && h.edge then
    clampN (rcField p.rc Reg.RC_RC_CFG_QP_MIN) (rcField p.rc Reg.RC_RC_CFG_QP_MAX) (row.qp - p.enc Reg.ENC_CODING_CFG_EDGE_QP_DELTA)
  else row.qp

/-- The block is STATIC (R214). -/
def EncPicture.staticAt (p : EncPicture) (h : CodedHint) : Bool := h.isStatic && p.sameOrigin

/-- Where the quality record of a block is kept. -/
def qualityKey (b : Nat × Nat) : Nat := b.2 * 1024 + b.1

/-- A STATIC block that is not static-coded (R218): the refresh margin, or the quality record of the reference. -/
def EncPicture.excepted (p : EncPicture) (x : EncChannel) (row : EncRow) (b : Nat × Nat) (h : CodedHint) : Bool :=
  let g := p.geo
  (match p.sweep with
    | some (j, q) => (b.1 + 1) * 64 = j * g.wc / max 1 q * g.ctu
    | none => false) ||
  !(match tfind x.quality (qualityKey b) with | some (fl, q) => !fl && q ≤ p.baseQp row h + 6 | none => false)

/-- The line of R216 that governs a block, with the floor kinds of R192 (R197: an overrun picture is an inter region throughout). -/
def EncPicture.blockCode (p : EncPicture) (x : EncChannel) (row : EncRow) (b : Nat × Nat) (h : CodedHint) : BlockCode :=
  let col := p.geo.columnOf b
  if p.overrun then .floorInter
  else if row.floored then if col < intraColumns p.geo p.kind p.sweep then .floorIntra else .floorInter
  else if p.intraAt col then .intra
  else if p.staticAt h && p.enc Reg.ENC_CODING_CFG_HINT_SKIP = 1 && !p.excepted x row b h then .still
  else .normal

/-- The quality record that a block keeps (R218). -/
def EncPicture.record (p : EncPicture) (x : EncChannel) (row : EncRow) (b : Nat × Nat) (h : CodedHint) : Bool × Nat :=
  match p.blockCode x row b h with
  | .floorInter | .floorIntra => (true, row.qp)
  | .still => (false, ((tfind x.quality (qualityKey b)).map (·.2)).getD (p.baseQp row h))
  | .intra | .normal => (false, p.baseQp row h)

/-- Units of a vector in a luma sample: quarters in HEVC, sixteenths in VVC (R212). -/
def CodedGeo.unit (g : CodedGeo) : Int := if g.hevc then 4 else 16

/-- The bounds of a vector of the luma area (x, y, size) in row `r` for reference index `k`, x from and to, y from and to: the search window
of R150, and in the refreshed area the 16 samples left of the reference's refresh boundary, with the 4 interpolation taps to the right (R161, R223). -/
def EncPicture.window (p : EncPicture) (r : Nat) (a : Nat × Nat × Nat) (k : Nat) : Int × Int × Int × Int :=
  let g := p.geo
  let u := g.unit
  let reach : Int := 64 * p.enc Reg.ENC_CODING_CFG_H_RANGE * u
  let sr := p.enc Reg.ENC_CODING_CFG_SEARCH_ROWS
  let top : Int := ((r - sr) * g.ctu : Nat)
  let bot : Int := (min g.h8 ((r + sr + 1) * g.ctu) : Nat)
  let edge : Int := match p.sweep with
    | some (j, q) => if p.refreshedAt (a.1 / g.ctu) then ((((j - k) * g.wc / max 1 q * g.ctu : Nat) : Int) - 20 - (a.1 + a.2.2 : Nat)) * u else reach
    | none => reach
  (-reach, min reach edge, (top - a.2.1) * u, (bot - min g.h8 (a.2.1 + a.2.2)) * u)

/-- A vector clamped into its bounds; (0, 0) where no vector lies in them (R219, R223). -/
def clampVector (w : Int × Int × Int × Int) (v : Int × Int) : Int × Int :=
  if w.2.1 < w.1 || w.2.2.2 < w.2.2.1 then (0, 0) else (clampI w.1 w.2.1 v.1, clampI w.2.2.1 w.2.2.2 v.2)

/-- The motion hint of a block for reference index `k`: multiplied by k + 1 before it is clamped (R212, R219). -/
def EncPicture.hintVector (p : EncPicture) (r : Nat) (a : Nat × Nat × Nat) (h : CodedHint) (k : Nat) : Option (Int × Int) :=
  if p.enc Reg.ENC_CODING_CFG_HINT_MOTION = 1 && h.mvValid then
    some (clampVector (p.window r a k) (h.mvx * (k + 1), h.mvy * (k + 1)))
  else none

/-- Where an analysis entry is kept: reference index, x and y of the 16 × 16 block of rung 0. -/
def analysisKey (k x y : Nat) : Nat := (k * 1024 + y) * 1024 + x

/-- The entry of the lowest cost among blocks of rung 0; the first of those of equal cost. -/
def bestEntry (t : List (Nat × MotionEntry)) (k : Nat) (l : List (Nat × Nat)) : Option MotionEntry :=
  (l.filterMap fun b => tfind t (analysisKey k b.1 b.2)).foldl (fun a e =>
    match a with | some b => if e.cost < b.cost then some e else some b | none => some e) none

/-- The analysis candidate of the 16 × 16 block (bx, by) of a rung, `d` above rung 0 (R227): of the blocks that cover it, in the order of
y then x, the entry with the lowest cost, in the rung's units. -/
def EncPicture.candidate (p : EncPicture) (d r bx by' k : Nat) : Option (Int × Int) :=
  let cover := (List.range (2 ^ d)).flatMap fun j => (List.range (2 ^ d)).map fun i => (bx * 2 ^ d + i, by' * 2 ^ d + j)
  (bestEntry p.analysis k cover).map fun e =>
    let at' (v : Int) : Int :=
      let a := if d = 0 then v else asr (v + (2 ^ (d - 1) : Nat)) d
      if p.geo.hevc then asr (a + 2) 2 else a
    clampVector (p.window r (16 * bx, 16 * by', 16) k) (at' e.mvx, at' e.mvy)

/-- The searches of a block in row `r` that takes the normal decision (R218, R219, R223, R227). -/
def EncPicture.searches (p : EncPicture) (x : EncChannel) (r : Nat) (row : EncRow) (b : Nat × Nat) (h : CodedHint) : List RefSearch :=
  let a := (64 * b.1, 64 * b.2, 64)
  let zero := p.staticAt h && p.excepted x row b h
  (List.range p.refs.length).flatMap fun k =>
    match p.shift with
    | none =>
      let hint := p.hintVector r a h k
      let exact := h.mvExact && hint.isSome && !zero
      [{ ref := k, area := a, centre := if zero then some (0, 0) else hint, reach := if exact then some 8 else none, first := exact,
         candidates := [], window := p.window r a k }]
    | some d =>
      (List.range 16).map fun i =>
        let c := (4 * b.1 + i % 4, 4 * b.2 + i / 4)
        let area := (16 * c.1, 16 * c.2, 16)
        let cand := p.candidate d r c.1 c.2 k
        { ref := k, area := area, centre := some (if zero then (0, 0) else cand.getD (0, 0)), reach := some p.refine, first := false,
          candidates := (p.hintVector r area h k).toList ++ (if zero then cand.toList else []), window := p.window r area k }

/-- What is fixed of the coding of a block of row `r`, its CTU apart (R216-R221). -/
def EncPicture.blockPlan (p : EncPicture) (x : EncChannel) (r : Nat) (row : EncRow) (b : Nat × Nat) (h : CodedHint) : BlockPlan :=
  let code := p.blockCode x row b h
  let edge := p.enc Reg.ENC_CODING_CFG_HINT_EDGE = 1 && h.edge
  let decides := code = .normal || code = .intra
  { code := code, qp := p.baseQp row h, allPartitions := decides && edge,
    transformSkip := decides && (edge || h.kind = 2 || p.enc Reg.ENC_CH_CFG_EFFORT = 2),
    filtersOff := false, split := false,
    searches := if code = .normal then p.searches x r row b h else [] }

/-- The CTU of a block, by column and row. -/
def CodedGeo.ctuOf (g : CodedGeo) (b : Nat × Nat) : Nat × Nat := (b.1 * 64 / g.ctu, b.2 * 64 / g.ctu)

/-- A block whose coding turns its CTU's SAO, ALF and CC-ALF off: floor coding (R192) or static coding (R217). -/
def filtersOffFor (c : BlockCode) : Bool := c = .still || c = .floorInter || c = .floorIntra

/-- Block plans with what their CTU decides: its filters, and whether a CTU of 128 is split once (R192, R216). -/
def CodedGeo.joined (g : CodedGeo) (l : List ((Nat × Nat) × BlockPlan)) : List ((Nat × Nat) × BlockPlan) :=
  l.map fun e =>
    let same := l.filter fun f => g.ctuOf f.1 = g.ctuOf e.1
    let still := same.any fun f => f.2.code = .still
    (e.1, { e.2 with
      filtersOff := same.any fun f => filtersOffFor f.2.code,
      split := g.ctu = 128 && ((still && !(same.all fun f => f.2.code = .still)) || e.2.code = .floorIntra) })

/-- The blocks of row `r` with their hints. -/
def EncPicture.hinted (p : EncPicture) (r : Nat) (row : EncRow) : List ((Nat × Nat) × CodedHint) :=
  (p.geo.rowBlocks r).zip (row.hints ++ List.replicate (p.geo.rowBlocks r).length ({} : CodedHint))

/-- What is fixed of the coding of every block of row `r`. -/
def EncPicture.plans (p : EncPicture) (x : EncChannel) (r : Nat) (row : EncRow) : List ((Nat × Nat) × BlockPlan) :=
  p.geo.joined ((p.hinted r row).map fun e => (e.1, p.blockPlan x r row e.1 e.2))

/-! Pixel jobs (R162, R164, R226). -/

/-- A block of tile column `col`. -/
def CodedGeo.inColumn (g : CodedGeo) (col : Nat) (b : Nat × Nat) : Bool :=
  g.tileStart col ≤ g.columnOf b && g.columnOf b < g.tileStart (col + 1)

/-- The inputs of the pixel job of row `r` and tile column `col`, with the reference pictures `refs` by number (R164). -/
def EncPicture.inputs (p : EncPicture) (x : EncChannel) (r col : Nat) (refs : List Nat) : JobInput :=
  let row := p.row r
  let sr := p.enc Reg.ENC_CODING_CFG_SEARCH_ROWS
  { words := p.words, rc := p.rc, ladder := p.ladder, tools := p.tools, poc := p.poc, kind := p.kind, sweep := p.sweep, tmvp := p.tmvp,
    row := r, col := col, qp := row.qp, src := row.src,
    plans := (p.plans x r row).filter fun e => p.geo.inColumn col e.1,
    refs := refs.map fun n => match x.pic n with
      | some o => ((List.range o.rows.length).filter fun k => k ≤ r + sr && r ≤ k + sr).map fun k => (k, (o.row k).recon)
      | none => [],
    above := if p.geo.hevc && r % sliceRows p.words ≠ 0 then (tfind (p.row (r - 1)).results col).map (·.1) else none }

/-- The syntax of a static block (R217): the lowest merge index whose candidate is exactly its prediction, else predictor 0 with the
difference minus that predictor. -/
def staticCu (i : JobInput) (b : Nat × Nat) : StaticCu :=
  match (Config.mergeIsStill i b).findIdx? id with
  | some k => .skip k
  | none => .amvp (-(Config.predictor0 i b).1) (-(Config.predictor0 i b).2)

/-- The floor coding of a CTU in an intra or an inter region, of 64 or 128 (R192). -/
def floorCtu (intra : Bool) (ctu : Nat) : Config.FloorCtu :=
  { cus := if intra && ctu = 128 then 4 else 1, skip := if intra then none else some 0, intraDc := intra, derivedChroma := intra,
    residual := false, sao := false, alf := false }

/-- The floor coding of the CTUs of tile column `col` (R192): the intra regions of the picture's kind; none under source overrun (R197). -/
def EncPicture.floorCtus (p : EncPicture) (col : Nat) : List (Nat × Config.FloorCtu) :=
  let g := p.geo
  ((List.range g.wc).filter fun c => g.tileStart col ≤ c && c < g.tileStart (col + 1)).map fun c =>
    (c, floorCtu (!p.overrun && c < intraColumns g p.kind p.sweep) g.ctu)

/-- The result of a pixel job, and of the floor coding of its CTUs: functions of its inputs alone (R164, R196). -/
def EncPicture.results (p : EncPicture) (x : EncChannel) (r col : Nat) : Nat × Nat :=
  let i := p.inputs x r col p.refs
  (Config.pixelJob i ((i.plans.filter fun e => e.2.code = .still).map fun e => (e.1, staticCu i e.1)), Config.floorJob i (p.floorCtus col))

/-- A: the pictures of rung 0 coded before this one since start, at most its MAX_REFS (R226). -/
def EncPicture.analysed (p : EncPicture) : Nat := min p.number (p.enc Reg.ENC_GOP_CFG_MAX_REFS)

/-- The analysis that the job of row `r` and tile column `col` of a rung-0 picture publishes (R226). -/
def EncPicture.analysisOf (p : EncPicture) (x : EncChannel) (r col : Nat) : List (Nat × MotionEntry) :=
  let i := p.inputs x r col ((List.range p.analysed).map fun k => p.number - 1 - k)
  (List.range p.analysed).flatMap fun k => i.plans.flatMap fun e => (List.range 16).filterMap fun n =>
    let c := (4 * e.1.1 + n % 4, 4 * e.1.2 + n / 4)
    if 16 * c.1 < p.geo.w8 ∧ 16 * c.2 < p.geo.h8 then
      let v := Config.foundMotion i k c.1 c.2
      some (analysisKey k c.1 c.2,
        if e.2.code = .still then { mvx := 0, mvy := 0, cost := 0, isStatic := true }
        else { mvx := v.1.1, mvy := v.1.2, cost := min 65535 v.2, isStatic := false })
    else none

/-! Reconstruction (R162, R163, R217). -/

/-- Row `r` was coded from its references alone (R197, R217): static, or in a picture under source overrun. -/
def EncPicture.copied (p : EncPicture) (bx by' : Nat) : Bool :=
  let r := by' * 64 / p.geo.ctu
  let i := (p.geo.rowBlocks r).findIdx? (· = (bx, by'))
  p.overrun || (match i.bind fun k => (p.row r).plans[k]? with | some e => e.code = .still | none => false)

/-- The block at a luma position is copied, and so is every block within 8 luma samples, beyond which deblocking changes nothing. -/
def EncPicture.keeps (p : EncPicture) (x y : Nat) : Bool :=
  [x - 8, x, min (x + 8) (p.geo.w8 - 1)].all fun a => [y - 8, y, min (y + 8) (p.geo.h8 - 1)].all fun b => p.copied (a / 64) (b / 64)

/-- The results of a row by tile column: floor coding where the row is floored. -/
def EncPicture.rowResults (p : EncPicture) (r : Nat) : List Nat :=
  (List.range p.geo.cols).map fun c => match tfind (p.row r).results c with
    | some e => if (p.row r).floored then e.2 else e.1
    | none => 0

/-- Filtering crosses the boundary above row `r`, the one below it, and those of its tile columns (R157-R159). -/
def EncPicture.crosses (p : EncPicture) (r : Nat) : List Bool :=
  let n := sliceRows p.words
  if (subpicFlags p.words).isSome then [r % n ≠ 0, (r + 1) % n ≠ 0, false] else [true, true, true]

/-- Luma samples across and down of one sample of a component. -/
def CodedGeo.stepOf (g : CodedGeo) (k : Nat) : Nat × Nat :=
  (if k = 0 || g.chroma = 2 then 1 else 2, if k = 0 || g.chroma ≠ 0 then 1 else 2)

/-- The lines of each component of row `r`: for each, component and line of the picture, with its width in samples. -/
def CodedGeo.rowLines (g : CodedGeo) (r : Nat) : List (Nat × Nat × Nat) :=
  (List.range 3).flatMap fun k =>
    let d := g.stepOf k
    (List.range ((min g.h8 ((r + 1) * g.ctu) - r * g.ctu) / d.2)).map fun j => (k, r * g.ctu / d.2 + j, g.w8 / d.1)

/-- The final reconstruction of row `r`, once its seams are filtered (R163): a block that is copied equals the reference (R217), except near
blocks that are not and, with LMCS, through its mapping; other samples are those of the results. `o` is the picture of reference index 0. -/
def EncPicture.finalRow (p : EncPicture) (o : Option EncPicture) (r : Nat) : List (List Nat) :=
  let results := (if r = 0 then [] else p.rowResults (r - 1)) :: p.rowResults r :: [if r + 1 < p.rows.length then p.rowResults (r + 1) else []]
  let old := (o.map fun q => (q.row r).recon).getD []
  (p.geo.rowLines r).zipIdx.map fun e =>
    let (k, y, w) := e.1
    let d := p.geo.stepOf k
    (List.range w).map fun x =>
      let v := (old.getD e.2 []).getD x 0
      if o.isSome && p.keeps (x * d.1) (y * d.2) then
        if k = 0 && !p.overrun && p.tools.contains .lmcs then Config.lmcsTrip ((p.rowResults r).headD 0) v else v
      else Config.finalSample results (p.crosses r) k x y

/-- Samples that a pixel job leaves to the seam filter: within 8 luma samples of a boundary with another job's area (R162). -/
def CodedGeo.inSeam (g : CodedGeo) (rows r col x y : Nat) : Bool :=
  (0 < r && y < r * g.ctu + 8) || (r + 1 < rows && (r + 1) * g.ctu < y + 9) ||
    (0 < col && x < g.tileStart col * g.ctu + 8) || (col + 1 < g.cols && g.tileStart (col + 1) * g.ctu < x + 9)

/-! The work area (R154, R155). -/

/-- The surface format of a channel's source and reconstruction (R83, R155). -/
def CodedGeo.format (g : CodedGeo) : Nat := decFormat g.chroma

/-- The byte offset of a sample in a surface of Y′CbCr (R83, R84). -/
def sampleOffset (fmt w h k x y : Nat) : Nat :=
  let pitch := pitchOf fmt w
  match fmt, k with
  | 0, 0 => y * pitch + x / 2 * 8 + 2 + x % 2 * 4
  | 0, _ => y * pitch + 8 * x + 4 * (k - 1)
  | 1, _ => y * pitch + 6 * x + 2 * k
  | _, 0 => y * pitch + 2 * x
  | _, _ => pitch * h + y * pitch + 4 * x + 2 * (k - 1)

/-- The bytes of a sample, MSB-aligned in a 16-bit container (R83), at their offsets. -/
def CodedGeo.sampleBytes (g : CodedGeo) (k x y v : Nat) : List (Nat × Byte) :=
  let a := v * (if g.main8 then 256 else 64)
  let o := sampleOffset g.format g.w8 g.h8 k x y
  [(o, BitVec.ofNat 8 a), (o + 1, BitVec.ofNat 8 (a / 256))]

/-- The bytes of lines of row `r`, as the source writer and the filters give them. -/
def CodedGeo.rowBytes (g : CodedGeo) (r : Nat) (lines : List (List Nat)) : List (Nat × Byte) :=
  ((g.rowLines r).zip lines).flatMap fun e => e.2.zipIdx.flatMap fun v => g.sampleBytes e.1.1 v.2 e.1.2.1 v.1

/-- The bytes of a pixel job's own samples, seams apart (R162). -/
def EncPicture.jobBytes (p : EncPicture) (r col result : Nat) : List (Nat × Byte) :=
  let g := p.geo
  (g.rowLines r).flatMap fun e => (List.range e.2.2).flatMap fun x =>
    let d := g.stepOf e.1
    if g.inColumn col (x * d.1 / 64, 0) && !g.inSeam p.rows.length r col (x * d.1) (e.2.1 * d.2) then
      g.sampleBytes e.1 x e.2.1 (Config.jobSample result e.1 x e.2.1)
    else []

/-- The bytes of a row's motion field, 16 for each 8 × 8 block of a result (DESIGN CHOICE, log 91). -/
def EncPicture.motionBytes (p : EncPicture) (r : Nat) : List (Nat × Byte) :=
  let n := 16 * cdiv p.geo.w8 8 * (p.geo.ctu / 8)
  (p.rowResults r).zipIdx.flatMap fun e => (List.range n).map fun i => ((r * p.geo.cols + e.2) * n + i, Config.motionByte e.1 i)

end Sys2Proof.Machine
end

