-- ==== Sys2Proof/Machine/Encoder.lean ====
section
/-!
DEFINITION. The encoder (07_encoder_pipeline.md R153-R176, 08_rate_control.md R194-R198, 09_guided_coding.md R213-R230):
pictures, rows, pixel and entropy jobs, the release of rows and the planning of their QP.
-/

namespace Sys2Proof.Machine

/-- ENC channel, rate-control entry, TSK and ENC ladder pages. -/
abbrev ENC (c : Nat) : Page := ⟨.enc, c⟩
abbrev RCE (c : Nat) : Page := ⟨.rcEntry, c⟩
abbrev TSK : Page := ⟨.tsk, 0⟩
abbrev LADDER (l : Nat) : Page := ⟨.ladder, l⟩

/-- Hidden state of a channel. -/
def State.chan (s : State) (c : Nat) : EncChannel := tget {} s.enc.channels c
def State.setChan (s : State) (c : Nat) (x : EncChannel) : State :=
  { s with enc := { s.enc with channels := tput {} s.enc.channels c x } }

/-- The words 0x040-0x058 of an ENC page and 0x044-0x060 of an entry, by a view of the registers. -/
def encWordsOf (w : Page → Nat → Word) (c : Nat) : List Nat := (List.range 7).map fun k => (w (ENC c) (0x40 + 4 * k)).toNat
def rcWordsOf (w : Page → Nat → Word) (c : Nat) : List Nat := (List.range 8).map fun k => (w (RCE c) (0x44 + 4 * k)).toNat

/-- Counts of the OBS registers (R173). -/
def obsKey (kind i w : Nat) : Nat := kind * 65536 + i * 16 + w
def State.obs (s : State) (kind i w : Nat) : Nat := tget 0 s.enc.obs (obsKey kind i w)
def State.setObs (s : State) (kind i w v : Nat) : State :=
  { s with enc := { s.enc with obs := tput 0 s.enc.obs (obsKey kind i w) v } }
def State.obsAdd (s : State) (kind i w n : Nat) : State := s.setObs kind i w (s.obs kind i w + n)

/-- The task scheduler cycle of an instant. -/
def tskCycle (t : Nat) : Nat := t * 8 / 327680

/-- A command of the same task scheduler cycle waits behind this one (R168): a pixel job's completion or its error on engine `e`. -/
def State.completesNow (s : State) (e : Nat) : Bool :=
  s.pending.any fun c => match c with | .pixelJobComplete x k _ t => 24 * x + k = e && tskCycle t = tskCycle s.tm.sys | _ => false
def State.failsNow (s : State) (u : Nat) : Bool :=
  s.pending.any fun c => match c with | .jobError k t => k = u && tskCycle t = tskCycle s.tm.sys | _ => false

/-- Task scheduler cycles (1.6 GHz) between two instants. -/
def tskCycles (t0 t : Nat) : Nat := (t - t0) * 8 / 327680

/-! Pictures and rows. -/

/-- Every pixel job of a row, of a picture, has completed. -/
def EncPicture.rowDone (p : EncPicture) (r : Nat) : Bool := p.geo.cols ≤ (p.row r).finished.length
def EncPicture.jobsDone (p : EncPicture) : Bool := (List.range p.rows.length).all p.rowDone

/-- The picture is reconstructed through row `q` (R163, R196). -/
def EncPicture.through (p : EncPicture) (q : Nat) : Bool :=
  (p.rows.take (q + 1)).all fun x => x.released.isSome && x.seamed && !x.recoding

/-- The rows of a channel in sequence: picture and row. -/
def EncChannel.allRows (x : EncChannel) : List (EncPicture × Nat) :=
  x.pictures.flatMap fun p => (List.range p.rows.length).map fun r => (p, r)

/-- Sequence number of the oldest unreleased row (R166). -/
def EncChannel.oldest (x : EncChannel) : Nat :=
  match x.allRows.find? fun e => (e.1.row e.2).released.isNone with
  | some (p, r) => p.seq + r
  | none => x.nextSeq

/-- Rows in the reorder window; hand-offs that wait outside it (R166). -/
def EncChannel.windowRows (x : EncChannel) : Nat :=
  (x.allRows.filter fun e => (e.1.row e.2).entered && (e.1.row e.2).released.isNone).length
def EncChannel.held (x : EncChannel) : Bool := x.allRows.any fun e => (e.1.row e.2).handed.isSome && !(e.1.row e.2).entered

/-- The buffer model of a picture. -/
def State.modelOf (s : State) (x : EncChannel) (p : EncPicture) : HrdModel := hrdModel s.tm.rate (x.first.getD 0) p.words p.rc

/-! Refresh (R160, R224). -/

/-- Kind, sweep index and refresh records of the channel's next picture, and what the channel keeps of it. DESIGN CHOICE (log 44): with
REFRESH 0, PERIOD pictures lie between the starts of two IDR periods, so every PERIOD-th picture is IDR. -/
def refreshNext (x : EncChannel) (words : List Nat) (overrun : Bool) :
    Nat × Option (Nat × Nat) × List (Nat × Nat) × EncChannel :=
  let g := encField words
  let req := g Reg.ENC_GOP_CFG_REFRESH_REQ = 1
  let period := g Reg.ENC_GOP_CFG_PERIOD
  let cur := match x.sweep with | some (j, q) => if j < q then some (j, q) else none | none => none
  let counted := { x with sinceIdr := (x.sinceIdr.1 + 1, x.sinceIdr.2) }
  let idr (notes : List (Nat × Nat)) : Nat × Option (Nat × Nat) × List (Nat × Nat) × EncChannel :=
    (0, none, notes, { x with request := req, sinceIdr := (0, period), sweep := none, restart := false })
  if overrun then (2, none, [], { counted with sweep := none, restart := x.restart || cur.isSome })
  else if x.nextPicture = 0 then idr []
  else
    let forced := req ≠ x.request
    if g Reg.ENC_GOP_CFG_REFRESH = 0 then
      if forced then idr [(0x21, 0)]
      else if 0 < x.sinceIdr.2 && x.sinceIdr.2 ≤ x.sinceIdr.1 + 1 then idr []
      else (2, none, [], { counted with request := req })
    else
      let fresh (sub : Nat) (notes : List (Nat × Nat)) : Nat × Option (Nat × Nat) × List (Nat × Nat) × EncChannel :=
        (1, some (0, max 1 period), notes ++ [(0x40, sub)],
          { counted with request := req, sweep := some (1, max 1 period), restart := false })
      if forced then fresh 1 ((if cur.isSome then [(0x42, 1)] else []) ++ [(0x21, 1)])
      else match cur with
        | some (j, q) => (1, some (j, q), [], { counted with sweep := some (j + 1, q) })
        | none => fresh (if x.restart then 2 else 0) []

/-- The words 0x040-0x048 of a rung's ladder page as latched (R62). -/
def State.ladderWordsL (s : State) (x : EncChannel) : List Nat :=
  match x.rung with
  | some (l, _) => (List.range 3).map fun k => (s.wordL (LADDER l) (0x40 + 4 * k)).toNat
  | none => []

/-- A frame of raster `r` that a channel codes begins to be composed (R30 step 4, R153, R156): its picture exists; a slot that
is not free is a source overrun. -/
def State.encPicture (s : State) (c : Nat) (f : Composed) : State :=
  let x := s.chan c
  let words := encWordsOf s.wordL c
  let n := x.nextPicture
  let late := x.pictures.any fun q => q.number + 3 ≤ n && !q.jobsDone
  let (kind, sweep, notes, x1) := refreshNext x words late
  let rows := (codedGeo words).v
  let period := if kind = 0 || (match sweep with | some (0, _) => true | _ => false) then f.frame else x.period
  let p : EncPicture := {
    number := n, frame := f.frame, words := words, rc := rcWordsOf s.wordL c, ladder := s.ladderWordsL x, kind := kind, notes := notes, sweep := sweep,
    overrun := late, blocked := if f.blocked then some f.frame else none, isSealed := f.isSealed,
    sameOrigin := 0 < n && x.origin = words.getD 1 0 && !x.overran, seq := x.nextSeq, rows := List.replicate rows {},
    floorFrom := if late then some 0 else none, slices := List.replicate (sliceCount words) {},
    poc := x1.sinceIdr.1, isB := kind ≠ 0 && encField words Reg.ENC_GOP_CFG_REF_MODE = 1,
    refs := (List.range (min (encField words Reg.ENC_GOP_CFG_MAX_REFS) x1.sinceIdr.1)).map fun k => n - 1 - k,
    tcs := s.rdL (COL (encField words Reg.ENC_CH_CFG_RASTER)) Reg.COLOUR_BCAST_CFG_OUT_TCS, tmvp := !late, period := period,
    shift := match x.rung with
      | some (l, _ + 1) =>
        some ((codedGeo words).scale - (codedGeo (encWordsOf s.wordL ((s.wordL (LADDER l) 0x44).toNat % 128))).scale)
      | _ => none }
  let going := match x.sweep with | some (j, q) => j < q | none => false
  let abandoned := late && going
  let x2 := { x1 with first := some (x.first.getD f.frame), nextPicture := n + 1, nextSeq := x.nextSeq + rows,
                      pictures := x.pictures ++ [p], origin := words.getD 1 0, overran := late, lastFrame := f.frame, period := period }
  let s0 := if going && !(match sweep with | some (j, _) => 0 < j | none => false) then s.wr (ENC c) ⟨0xC, 16, 16⟩ 0 else s
  let s1 := (s0.setChan c x2).wr (ENC c) ⟨0xC, 2, 2⟩ (b2n late)
  let s2 := if late then s1.occur (ENC c) 0x20 (n % 3) f.frame else s1
  let s3 := if abandoned then s2.occur (ENC c) 0x42 0 f.frame else s2
  if f.isSealed then { s3 with sec := { s3.sec with codedSealed := sins c s3.sec.codedSealed } } else s3

/-- Step 4 of R30 for every channel of raster `r`. -/
def State.encFrameStart (s : State) (r : Nat) : State :=
  match (s.ras r).composed with
  | f :: _ =>
    s.each ((List.range 128).filter fun c =>
      (s.chan c).running && s.rdL (ENC c) Reg.ENC_CH_CFG_RASTER = r &&
        f.frame % (s.rdL (ENC c) Reg.ENC_CH_CFG_DIVISOR_M1 + 1) = 0) fun t c => t.encPicture c f
  | [] => s

/-! Planning (R194). -/

/-- A row numbered `q'` counts as known when row `q` enters. -/
def knownAt (q q' : Nat) : Bool := q' + 64 ≤ q

/-- S and arrival before a picture's first unit. -/
def EncChannel.beforeOf (x : EncChannel) (p : EncPicture) : Nat × Nat := p.before.getD (x.total, x.arrival)

/-- The size at which row `r` of a picture counts when row `q` enters. -/
def EncPicture.countedSize (p : EncPicture) (q r : Nat) : Nat := if knownAt q (p.seq + r) then (p.row r).size else (p.row r).tau

/-- S and arrival after a picture, as modelled when row `q` enters. -/
def EncPicture.estimate (h : HrdModel) (p : EncPicture) (q : Nat) (sa : Nat × Nat) : Nat × Nat :=
  (List.range h.dus).foldl (fun a k =>
    let rows := (List.range (h.duEnd k)).filter fun r => k * h.duRows ≤ r
    let filler := if rows.all fun r => knownAt q (p.seq + r) then ((p.dus[k]?).map (·.filler)).getD 0 else 0
    let n := rows.foldl (fun t r => t + p.countedSize q r + sliceTerms p.words p.rc r) filler +
      (if k = 0 then picOverhead p.words p.rc (overheadKind p.kind p.sweep) else 0)
    (a.1 + n, h.arrivalEnd p.frame k a.1 a.2 (a.1 + n))) sa

/-- The picture target g (R194). -/
def State.planTarget (s : State) (x : EncChannel) (p : EncPicture) : Int :=
  let h := s.modelOf x p
  let earlier := x.pictures.filter fun o => o.number < p.number
  let open' := earlier.dropWhile fun o => knownAt p.seq (o.seq + o.rows.length - 1)
  let sa := match open' with
    | o :: _ => open'.foldl (fun a (k : EncPicture) => k.estimate h p.seq a) (x.beforeOf o)
    | [] => x.beforeOf p
  let est : Int := (h.upper p.frame 0 sa.1 sa.2 : Int) - sa.1
  let tgt : Int := (rcField p.rc Reg.RC_RC_TUNE_TARGET_FULL * h.size / 256 : Nat)
  (rcField p.rc Reg.RC_BIT_RATE * 64 * h.m * h.d / max 1 h.n : Nat) + (est - tgt) / 4

/-- QP and size of the co-located row of the newest earlier picture of the same kind whose row is known. -/
def EncChannel.refRow (x : EncChannel) (p : EncPicture) (q r : Nat) : Option (Nat × Nat) :=
  match (x.pictures.reverse.find? fun o => o.number < p.number && o.kind = p.kind && r < o.rows.length && knownAt q (o.seq + r)) with
  | some o => some ((o.row r).qp, (o.row r).size)
  | none => tfind x.known (p.kind * 65536 + r)

/-- ROW_PLAN: target and planned QP of row `r`, with the picture's target. -/
def State.planRow (s : State) (x : EncChannel) (p : EncPicture) (r : Nat) : Int × Nat × Nat :=
  let q := p.seq + r
  let g := if r = 0 then s.planTarget x p else p.target
  let w (k : Nat) : Nat := match x.refRow p q k with | some (_, n) => max 1 n | none => 1
  let qpRef := match x.refRow p q r with | some (v, _) => v | none => rcField p.rc Reg.RC_RC_CFG_QP_INIT
  let spent := (List.range r).foldl (fun a k => a + p.countedSize q k + sliceTerms p.words p.rc k)
    (picOverhead p.words p.rc (overheadKind p.kind p.sweep))
  let left := (((List.range p.rows.length).filter fun k => r ≤ k).map w).sum
  let share : Int := (g - spent) * w r / max 1 left
  let tau := (max ((rowFloor p.words (intraColumns p.geo p.kind p.sweep) r : Nat) : Int) share).toNat
  let a := clampI (rcField p.rc Reg.RC_RC_CFG_QP_MIN) (rcField p.rc Reg.RC_RC_CFG_QP_MAX) ((qpRef : Int) + qpStep (w r) tau)
  let sw := rcField p.rc Reg.RC_RC_TUNE_ROW_SWING
  let qp := match x.lastQp with
    | some l => clampI ((l : Int) - sw) ((l : Int) + sw) a
    | none => a
  (g, tau, qp.toNat)

/-- Rows handed off enter the reorder window while it has room (R166). A row that a release of the same task scheduler cycle lets in was not
held (R168). -/
def State.enterRows (c : Nat) : Nat → State → State
  | 0, s => s
  | n + 1, s =>
    let x := s.chan c
    match x.allRows.find? fun e => !(e.1.row e.2).entered with
    | some (p, r) =>
      let row := p.row r
      if row.handed.isSome && p.seq + r < x.oldest + 64 then
        let (g, tau, qp) := s.planRow x p r
        let p1 := { p.setRow r { row with entered := true, tau := tau, qp := qp } with target := g }
        let s1 := s.setChan c { x.setPic p1 with lastQp := some qp }
        let k := (s1.chan c).windowRows
        let s0 := if row.held && row.handed.map tskCycle = some (tskCycle s1.tm.sys)
          then (s1.addTo TSK Reg.TSK_HELD_TOTAL 0xFFFFFFFF).obsAdd 0 c 12 65535 else s1
        let s2 := if s0.obs 0 c 13 < k then s0.setObs 0 c 13 k else s0
        State.enterRows c n ((s2.wr (RCE c) Reg.RC_PLAN_QP qp).wr (ENC c) ⟨0xC, 10, 10⟩
          (b2n (qp = rcField p.rc Reg.RC_RC_CFG_QP_MAX)))
      else s
    | none => s

/-! Eligibility (R165). -/

/-- Rung-0 jobs whose lines overlap row `r` of a rung's picture have all published (R165 condition 5). -/
def State.analysisReady (s : State) (x : EncChannel) (p : EncPicture) (r : Nat) : Bool :=
  match x.rung with
  | some (_, _ + 1) =>
    match (s.chan p.lead).pic p.number with
    | some o =>
      let d := p.geo.scale - o.geo.scale
      let top := r * p.geo.ctu * 2 ^ d
      let bot := (r + 1) * p.geo.ctu * 2 ^ d
      (List.range o.rows.length).all fun k =>
        !(k * o.geo.ctu < bot && top < (k + 1) * o.geo.ctu) ||
          (if o.overrun then (o.row k).handed.isSome else o.geo.cols ≤ (o.row k).published.length)
    | none => true
  | _ => true

/-- Conditions 1-4 of R165 for a job. -/
def EncChannel.jobReady (x : EncChannel) (p : EncPicture) (r col : Nat) : Bool :=
  let row := p.row r
  let sr := encField p.words Reg.ENC_CODING_CFG_SEARCH_ROWS
  row.entered && !row.sent.contains col &&
    (p.kind = 0 || (match x.pictures.find? fun o => o.number + 1 = p.number with
      | some o => o.through (min (r + sr + 1) (o.rows.length - 1))
      | none => true)) &&
    (!p.geo.hevc || r % sliceRows p.words = 0 || (p.row (r - 1)).sent.contains col)

/-- The jobs that are eligible but not yet waiting. -/
def State.newJobs (s : State) (t : Nat) : List PixelJob :=
  s.enc.channels.flatMap fun e => e.2.pictures.flatMap fun p =>
    (List.range p.rows.length).flatMap fun r => (List.range p.geo.cols).filterMap fun col =>
      if e.2.jobReady p r col && s.analysisReady e.2 p r &&
          !s.enc.waiting.any (fun j => j.ch = e.1 && j.picture = p.number && j.row = r && j.col = col)
      then some { ch := e.1, picture := p.number, row := r, col := col, since := t } else none

/-- Some job of a channel waits for analysis alone (R177). -/
def State.behind (s : State) (c : Nat) : Bool :=
  let x := s.chan c
  x.pictures.any fun p => (List.range p.rows.length).any fun r => (List.range p.geo.cols).any fun col =>
    x.jobReady p r col && !s.analysisReady x p r

/-- Bit `i mod 32` of each number of a list, in word `i / 32`. -/
def wordBits (l : List Nat) (k : Nat) : Nat := ((l.filter fun i => i / 32 = k).map fun i => 2 ^ (i % 32)).sum

/-- Pixel engine `e` is available for dispatch (R171, R172, R480). -/
def State.engineAvail (s : State) (e : Nat) : Bool :=
  e < 96 && !s.enc.withdrawn.contains e && !s.enc.lent.contains e && !s.enc.parked.contains (e / 24)

/-- Entropy engine `e` is available (R171, R172). -/
def State.entropyAvail (s : State) (e : Nat) : Bool :=
  e < 16 && !s.enc.withdrawn.contains (128 + e) && !s.enc.lent.contains (128 + e)

/-- Σ D, Σ E, Σ job slots of the admitted channels and their number (R181). -/
def State.demandSum (s : State) (f : EncChannel → Nat) : Nat :=
  ((s.enc.channels.filter fun e => e.2.grant.isSome).map fun e => f e.2).sum
def State.admitted (s : State) : Nat := (s.enc.channels.filter fun e => e.2.grant.isSome).length

/-- The rung-0 rows of a ladder that are analysed and not yet used by every rung. -/
def State.analysedAhead (s : State) (l : Nat) : Nat :=
  let rungs := (s.enc.channels.filter fun e => match e.2.rung with | some (k, i) => k = l && i ≠ 0 | none => false).map (·.2)
  let lead := s.enc.channels.flatMap fun e => if e.2.rung = some (l, 0) then e.2.allRows else []
  (lead.filter fun e =>
    e.1.geo.cols ≤ (e.1.row e.2).published.length && rungs.any fun x =>
      match x.pic e.1.number with
      | some p => !(List.range p.rows.length).all fun r =>
          !(r * p.geo.ctu * 2 ^ (p.geo.scale - e.1.geo.scale) < (e.2 + 1) * e.1.geo.ctu &&
            e.2 * e.1.geo.ctu < (r + 1) * p.geo.ctu * 2 ^ (p.geo.scale - e.1.geo.scale)) || p.rowDone r
      | none => x.nextPicture ≤ e.1.number).length

/-- Registers and levels that show the encoder's state (R172, R174, R175, R177). -/
def State.encShown (s : State) : State :=
  let jobs := s.enc.pixel.map (·.1)
  let held := (s.enc.channels.filter fun e => e.2.held).map (·.1)
  let avail := (List.range 96).filter s.engineAvail
  let eAvail := (List.range 16).filter s.entropyAvail
  let s1 := s.each (List.range 3) fun t k =>
    (t.wr TSK (Reg.TSK_ENGINE_AVAIL k) (wordBits avail k)).wr TSK (Reg.TSK_ENGINE_BUSY k) (wordBits jobs k)
  let s2 := (s1.wr TSK Reg.TSK_ENTROPY_STATE (wordBits eAvail 0 ||| wordBits (s.enc.entropy.map (·.1)) 0 <<< 16)).wr TSK
    Reg.TSK_JOB_COUNTS (min 32767 s.enc.waiting.length ||| s.enc.pixel.length <<< 16)
  let s3 := s2.each (List.range 4) fun t k => t.wr TSK (Reg.TSK_HELD k) (wordBits held k)
  let s4 := s3.each (List.range 128) fun t c =>
    let x := s.chan c
    (t.wr TSK ⟨0xC0 + 4 * (c / 4), 8 * (c % 4) + 7, 8 * (c % 4)⟩ x.windowRows).wr (ENC c) ⟨0xC, 1, 1⟩ (b2n x.held)
  let s5 := s4.each (s.enc.ladders.map (·.1)) fun t l =>
    ((t.wr (LADDER l) ⟨0x4C, 31, 16⟩ (s.analysedAhead l)).wr (LADDER l) Reg.LADDER_LADDER_STATE_RUNNING
      (b2n (s.enc.channels.any fun e => (match e.2.rung with | some (k, _) => k = l | none => false) && e.2.running))).wr (LADDER l) ⟨0xC, 0, 0⟩
      (b2n (s.enc.channels.any fun e => (match e.2.rung with | some (k, _) => k = l | none => false) && s.behind e.1))
  ((s5.wr TSK ⟨0xC, 0, 0⟩ (b2n (!held.isEmpty))).wr TSK ⟨0xC, 1, 1⟩
    (b2n (93000 < s.demandSum (·.d) + 1000 * (96 - avail.length)))).wr TSK ⟨0xC, 2, 2⟩
    (b2n (s.enc.channels.any fun e => 64 ≤ e.2.windowRows))

/-- The jobs held by condition 5 of R165 alone. -/
def State.behindJobs (s : State) (t : Nat) : List PixelJob :=
  s.enc.channels.flatMap fun e => if e.2.rung.isNone then [] else e.2.pictures.flatMap fun p =>
    (List.range p.rows.length).flatMap fun r => (List.range p.geo.cols).filterMap fun col =>
      if e.2.jobReady p r col && !s.analysisReady e.2 p r
      then some { ch := e.1, picture := p.number, row := r, col := col, since := t } else none

/-- The same job, whatever its instant. -/
def PixelJob.same (a b : PixelJob) : Bool := a.ch = b.ch && a.picture = b.picture && a.row = b.row && a.col = b.col

/-- Slices that wait for an entropy engine: channel, picture, slice, instant. -/
def State.readySlices (s : State) : List (Nat × Nat × Nat × Nat) :=
  s.enc.channels.flatMap fun e => e.2.pictures.flatMap fun p => (List.range p.slices.length).filterMap fun i =>
    let z := p.slices.getD i {}
    match z.ready with
    | some t => if z.engine.isNone && z.assembled.isNone then some (e.1, p.number, i, t) else none
    | none => none

/-- Jobs that have become eligible join those that wait, and the registers follow; ANALYSIS_WAIT counts the cycles that rung
jobs were held for analysis alone (R165, R177). -/
def State.encSettle (s : State) : State :=
  let fresh := s.newJobs s.tm.sys
  let now := s.behindJobs s.tm.sys
  let ended := s.enc.behind.filter fun (j : PixelJob) => !now.any j.same
  let all := s.enc.waiting ++ fresh
  let s1 := { s with enc := { s.enc with
    waiting := all, lastJob := if all.isEmpty then s.enc.lastJob else s.tm.sys,
    lastSlice := if s.readySlices.isEmpty then s.enc.lastSlice else s.tm.sys,
    behind := now.map fun (j : PixelJob) => (s.enc.behind.find? j.same).getD j } }
  let s2 := s1.each ended fun t j =>
    match (s.chan j.ch).rung with
    | some (l, _) =>
      let u := t.obsAdd 3 l 0 (tskCycles j.since s.tm.sys)
      u.wr (LADDER l) Reg.LADDER_ANALYSIS_WAIT (u.obs 3 l 0 / 1024)
    | none => t
  s2.encShown

/-! Hand-off (R155, R166, R211). -/

/-- k of R214: the channel's divisor over the raster's own. -/
def State.pictureStep (s : State) (words : List Nat) : Nat :=
  max 1 ((encField words Reg.ENC_CH_CFG_DIVISOR_M1 + 1) /
    (s.rdL (SCAN (encField words Reg.ENC_CH_CFG_RASTER)) Reg.SCAN_RG_CFG_DIVISOR_M1 + 1))

/-- Row `by'` of the raster hint map of the frame being composed is complete: the compositor writes it for every channel that the raster
feeds (R130, R204). -/
def State.hintRow (s : State) (r by' : Nat) : State :=
  s.each ((s.enc.channels.filter fun e => e.2.running && s.rdL (ENC e.1) Reg.ENC_CH_CFG_RASTER = r).map (·.1)) fun t c =>
    let w := encWordsOf t.wordL c
    t.setChan c (t.writeMapRow r by' (t.pictureStep w) (codedGeo w) (t.chan c))

/-- The next row of a channel to be handed off. -/
def EncChannel.nextHandoff (x : EncChannel) : Option (EncPicture × Nat) :=
  x.allRows.find? fun e => (e.1.row e.2).handed.isNone

/-- The row's raster lines and hint map row are complete (R130, R155, R211). -/
def rowComposed (f : Composed) (g : CodedGeo) (row : Nat) : Bool :=
  let line := g.y + g.lastSourceLine row
  let need := min (line / 64 * 64 + 63) (f.height - 1)
  (tfind f.lines need).isSome

/-- Bytes of a picture of channel `c` are written into its work area, where firmware's layout has them (R154): of a source slot (0), a
reconstructed picture (1), its motion field (2) or the coded slice buffer (3), with the slot. -/
def State.workPut (s : State) (c : Nat) (p : EncPicture) (area slot : Nat) (l : List (Nat × Byte)) : State :=
  match tfind s.areas c with
  | some (base, n) => s.each l fun t e => t.putByte (base * 65536 + Config.workPlace p.words area slot e.1 % (n * 65536)) e.2
  | none => s

/-- Row `r` of picture `p` of channel `c` is handed off, with its source and hints; the source writer writes the source into its slot. -/
def State.handRow (s : State) (c : Nat) (p : EncPicture) (r : Nat) : State :=
  let x := s.chan c
  let ras := encField p.words Reg.ENC_CH_CFG_RASTER
  let k := s.pictureStep p.words
  let frames := (s.ras ras).composed
  let i := (frames.findIdx? fun f => f.frame = p.frame).getD 0
  let row := p.row r
  let row1 : EncRow := match frames[i]? with
    | some f =>
      if p.overrun then { row with handed := some s.tm.sys }
      else
        let m := (tfind x.maps (f.count % 2)).getD { frame := f.frame, words := [] }
        { row with handed := some s.tm.sys, hints := codedHints k m p.geo r, src := s.sourceRow ras f p.geo r }
    | none => { row with handed := some s.tm.sys }
  let s1 := (s.setChan c (x.setPic (p.setRow r row1))).workPut c p 0 (p.number % 3) (p.geo.rowBytes r row1.src)
  let s2 := if r = 0 then
      (s1.each p.notes fun t n => t.occur (ENC c) n.1 n.2 p.frame).wr (ENC c) ⟨0xC, 16, 16⟩ (b2n (p.kind = 1))
    else s1
  let s3 := State.enterRows c 65 s2
  match (s3.chan c).pic p.number with
  | some o =>
    if (o.row r).entered then s3
    else ((s3.setChan c ((s3.chan c).setPic (o.setRow r { o.row r with held := true }))).inc TSK Reg.TSK_HELD_TOTAL).obsAdd 0 c 12 1
  | none => s3

/-- ROW_HANDOFF (R155, R211): the next row of a channel is handed off once its source and hints are complete. -/
def execRowHandoff (c t : Nat) (s0 : State) : Host.Outcome State Fault Refusal :=
  let s := s0.advance t
  live s0 (match (s.chan c).nextHandoff with
    | some (p, r) =>
      let ras := encField p.words Reg.ENC_CH_CFG_RASTER
      match (s.ras ras).composed.find? fun f => f.frame = p.frame with
      | some f => if !p.overrun && rowComposed f p.geo r then (s.handRow c p r).encSettle else s
      | none => s
    | none => s)

/-- At a beat boundary the rows of a picture of this frame under source overrun are handed off (R156). -/
def State.encBeat (s : State) : State :=
  s.each (s.enc.channels.map (·.1)) fun t c =>
    t.each ((t.chan c).pictures.filter fun p => p.overrun && p.frame ≤ t.tm.frame) fun u p =>
      u.each (List.range p.rows.length) fun w r =>
        match (w.chan c).nextHandoff with
        | some (q, k) => if q.number = p.number && k = r then (w.handRow c q r).encSettle else w
        | none => w

/-! Pixel jobs (R164-R171). -/

/-- The order of eligible jobs: oldest first, then channel, row, tile column. -/
def jobBefore (a b : PixelJob) : Bool :=
  a.since < b.since || (a.since = b.since && (a.ch < b.ch || (a.ch = b.ch && (a.row < b.row || (a.row = b.row && a.col < b.col)))))

/-- Insertion into a sorted list of jobs. -/
def jobInsert (j : PixelJob) : List PixelJob → List PixelJob
  | [] => [j]
  | k :: t => if jobBefore j k then j :: k :: t else k :: jobInsert j t

/-- Jobs in order. -/
def jobSort : List PixelJob → List PixelJob
  | [] => []
  | j :: t => jobInsert j (jobSort t)

/-- A job's preferred engine (R167). -/
def State.preferred (s : State) (j : PixelJob) : Option Nat :=
  if j.retried then none
  else match tfind (s.chan j.ch).preferred (j.row * 16 + j.col) with
    | some e => if s.engineAvail e then some e else none
    | none => none

/-- The pixel cluster of an engine is asleep: in NAP or DARK, or on its way out of one (R479). -/
def State.clusterAsleep (s : State) (e : Nat) : Bool :=
  let d := s.slack (7 + e / 24)
  2 ≤ d.st || (2 ≤ d.leaving && s.tm.sys < d.exitEnd)

/-- The lowest idle engine among some; an engine of a cluster in NAP or DARK does not count as idle (R479). -/
def State.idleEngine (s : State) (f : Nat → Bool) : Option Nat :=
  (List.range 96).find? fun e => f e && s.engineAvail e && (tfind s.enc.pixel e).isNone && !s.clusterAsleep e

/-- The engine that takes a job now, if one does (R167). A preferred engine that becomes idle in this very cycle takes precedence over the end
of the wait for it (R168): the job is left to it. -/
def State.engineFor (s : State) (j : PixelJob) : Option Nat :=
  let home (x : Nat) : Option Nat :=
    match s.idleEngine fun e => e / 24 = x with
    | some e => some e
    | none => s.idleEngine fun _ => true
  match s.preferred j with
  | some e =>
    if (tfind s.enc.pixel e).isNone && !s.clusterAsleep e then some e
    else if s.rd TSK Reg.TSK_TSK_CFG_AFFINITY_WAIT ≤ tskCycles j.since s.tm.sys && !s.completesNow e then home (e / 24) else none
  | none => home (s.rd (COMP (s.rdL (ENC j.ch) Reg.ENC_CH_CFG_RASTER)) Reg.CRASTER_COMP_STATE_CHIPLET)

/-- The histogram bin of a wait (R173). -/
def waitBin (shift w : Nat) : Nat :=
  if w < 2 ^ shift then 0 else min 11 (((List.range 11).filter fun b => 2 ^ (shift + b) ≤ w).length)

/-- A job starts on engine `e`. -/
def State.startJob (s : State) (j : PixelJob) (e : Nat) : State :=
  let x := s.chan j.ch
  let w := tskCycles j.since s.tm.sys
  let pref := s.preferred j
  let home := match pref with
    | some k => k / 24
    | none => s.rd (COMP (s.rdL (ENC j.ch) Reg.ENC_CH_CFG_RASTER)) Reg.CRASTER_COMP_STATE_CHIPLET
  let s1 := s.obsAdd 0 j.ch (waitBin (s.rd TSK Reg.TSK_HIST_CFG_HIST_SHIFT) w) 1
  let s2 := if pref = some e then (s1.inc TSK Reg.TSK_AFF_PREFERRED).obsAdd 1 e 3 1
    else if e / 24 = home then s1.inc TSK Reg.TSK_AFF_CHIPLET else s1.inc TSK Reg.TSK_AFF_ANY
  match x.pic j.picture with
  | some p =>
    let row := p.row j.row
    let empty := !p.overrun && (match x.rung with
      | some (_, i) => i ≠ 0 && (match (s.chan p.lead).pic j.picture with
        | some o => o.overrun
        | none => false)
      | none => false)
    let p1 := { p.setRow j.row { row with sent := sins j.col row.sent } with noAnalysis := p.noAnalysis || empty }
    let s3 := s2.setChan j.ch { x.setPic p1 with preferred := tins (j.row * 16 + j.col) e x.preferred }
    let s4 := if empty && !p.noAnalysis then s3.occur (ENC j.ch) 0x43 0 p.frame else s3
    { s4 with enc := { s4.enc with waiting := s4.enc.waiting.filter (· ≠ j), pixel := tins e (j, s4.tm.sys) s4.enc.pixel } }
  | none => { s2 with enc := { s2.enc with waiting := s2.enc.waiting.filter (· ≠ j) } }

/-- One cycle of dispatch: at most one job (R167). -/
def State.dispatch (s : State) : State :=
  if s.enc.sentPixel = tskCycle s.tm.sys + 1 then s
  else
    match (jobSort s.enc.waiting).find? fun j => (s.engineFor j).isSome with
    | some j =>
      match s.engineFor j with
      | some e =>
        let s1 := s.startJob j e
        { s1 with enc := { s1.enc with sentPixel := tskCycle s1.tm.sys + 1 } }.encSettle
      | none => s
    | none => s

/-- PIXEL_JOB_DISPATCH (R167). -/
def execPixelJobDispatch (t : Nat) (s : State) : Host.Outcome State Fault Refusal := live s (s.advance t).dispatch

/-- AFFINITY_WAIT_EXPIRY (R167): a job has waited AFFINITY_WAIT for its preferred engine and takes another idle one. -/
def execAffinityWaitExpiry (t : Nat) (s : State) : Host.Outcome State Fault Refusal := live s (s.advance t).dispatch

/-- A rung's picture with analysis entries written into its source slot; under source overrun it receives none (R226). -/
def EncPicture.analyse (p : EncPicture) (l : List (Nat × MotionEntry)) : EncPicture :=
  if p.overrun then p else { p with analysis := l.foldl (fun t e => tins e.1 e.2 t) p.analysis }

/-- The rungs of ladder `l` other than rung 0 of which a slot holds picture `n` receive analysis entries. -/
def State.giveAnalysis (s : State) (l n : Nat) (entries : List (Nat × MotionEntry)) : State :=
  s.each ((s.enc.channels.filter fun e => match e.2.rung with | some (k, i) => k = l && i ≠ 0 | none => false).map (·.1)) fun t c =>
    match (t.chan c).pic n with
    | some p => t.setChan c ((t.chan c).setPic (p.analyse entries))
    | none => t

/-- ANALYSIS_PUBLISH (R226): the rung-0 job on engine `e` publishes its analysis into the slots of the other rungs. A job that is retried
publishes the same again (R228). -/
def State.publishAnalysis (s : State) (e : Nat) : State :=
  match tfind s.enc.pixel e with
  | some (j, _) =>
    let x := s.chan j.ch
    match x.rung, x.pic j.picture with
    | some (l, 0), some p =>
      let row := p.row j.row
      let p1 := p.setRow j.row { row with published := sins j.col row.published }
      let s1 := (s.setChan j.ch (x.setPic p1)).giveAnalysis l p.number (if p.overrun then [] else p.analysisOf x j.row j.col)
      if p.geo.cols ≤ (p1.row j.row).published.length && row.published.length < p.geo.cols
      then s1.inc (LADDER l) Reg.LADDER_ROWS_ANALYSED else s1
    | _, _ => s
  | none => s

/-- ANALYSIS_PUBLISH (R226). -/
def execAnalysisPublish (e t : Nat) (s : State) : Host.Outcome State Fault Refusal :=
  live s ((s.advance t).publishAnalysis e).encSettle

/-! Release (R169, R195-R198, R216-R218). -/

/-- A released row's exact size, whether it is coded in floor mode, whether the floor recoder produces it, the first floored
row of its picture, and the smallest margin of the check with the row as coded (R195, R196). -/
def State.releaseSize (s : State) (x : EncChannel) (p : EncPicture) (r : Nat) : Nat × Bool × Bool × Option Nat × Int :=
  let h := s.modelOf x p
  let row := p.row r
  let intra := intraColumns p.geo p.kind p.sweep
  let coded := (row.finished.map fun e => e.2.1).sum
  let floor := min (row.finished.map fun e => e.2.2).sum (rowFloor p.words intra r)
  let b := x.beforeOf p
  let k := h.duOf r
  let before := match (p.dus.getLast?) with | some d => (d.total, d.arrival) | none => b
  let head := (List.range (r + 1)).foldl (fun a q => a + sliceTerms p.words p.rc q + (if q < r then (p.row q).size else 0))
    (b.1 + picOverhead p.words p.rc (overheadKind p.kind p.sweep) + (p.dus.map (·.filler)).sum)
  let size := if p.floorFrom.isSome then floor else coded
  let ms := margins h p.words p.rc p.frame intra r (head + size) h.dus k before.1 before.2
  let low := match ms with | m :: t => t.foldl min m | [] => 0
  match p.floorFrom with
  | some q => (floor, true, !p.overrun, some q, low)
  | none => if low < 0 then (floor, true, true, some r, low) else (coded, false, false, none, low)

/-- The decoding unit that ends with row `r` is decided, with its filler (R189, R198). -/
def State.decideDu (s : State) (c : Nat) (p : EncPicture) (r : Nat) : State × EncPicture :=
  let x := s.chan c
  let h := s.modelOf x p
  let k := h.duOf r
  if h.duEnd k ≠ r + 1 then (s, p)
  else
    let b := x.beforeOf p
    let before := match (p.dus.getLast?) with | some d => (d.total, d.arrival) | none => b
    let s0 := (List.range (r + 1)).foldl (fun a q => a + sliceTerms p.words p.rc q + (p.row q).size)
      (b.1 + picOverhead p.words p.rc (overheadKind p.kind p.sweep) + (p.dus.map (·.filler)).sum)
    let n := fillerBytes h p.frame k before.1 before.2 s0
    let total := s0 + 8 * n
    let a := h.arrivalEnd p.frame k before.1 before.2 total
    let p1 := { p with dus := p.dus ++ [{ total := total, filler := 8 * n, arrival := a }] }
    let s1 := s.setChan c { x.setPic p1 with total := total, arrival := a }
    (((s1.wr (RCE c) Reg.RC_FULLNESS (min 0xFFFFFFFF (h.upper p.frame k before.1 before.2 - before.1))).addTo (RCE c)
      Reg.RC_FILLER_BYTES n).wr (ENC c) ⟨0xC, 9, 9⟩ (b2n (0 < n)), p1)

/-- A picture's last row is released (R184, R224, R229); SWEEPING falls with the end of a sweep of which no later picture has been handed off. -/
def State.picEnd (s : State) (c : Nat) (p : EncPicture) : State :=
  let q := ENC c
  let b := ((s.chan c).beforeOf p).1
  let n := (p.rows.filter (·.floored)).length
  let s1 := (s.inc q Reg.ENC_CH_STATE_PICTURES).addTo (RCE c) Reg.RC_FLOOR_PICS (b2n p.floorFrom.isSome)
  let s2 := ((s1.wr (RCE c) Reg.RC_RC_STATE_FLOOR_LAST (b2n p.floorFrom.isSome)).wr (RCE c) Reg.RC_RC_STATE_FIRST_FLOOR_ROW
    (p.floorFrom.getD 0 % 256)).wr (RCE c) Reg.RC_RC_STATE_FLOOR_ROWS_LAST (if p.floorFrom.isSome then n else 0)
  let s3 := (s2.wr (RCE c) Reg.RC_LAST_PIC_BITS (min 0xFFFFFFFF (((p.dus.getLast?).map (·.total)).getD b - b))).wr (RCE c)
    Reg.RC_LAST_FILLER (p.dus.map (·.filler)).sum
  let s4 := ((s3.wr q ⟨0xC, 17, 17⟩ (b2n p.allStatic)).wr q ⟨0xC, 18, 18⟩ (b2n p.noAnalysis)).wr q ⟨0xC, 19, 19⟩ (b2n p.hintError)
  match p.sweep with
  | some (j, n) =>
    if j + 1 = n then
      let later := (s4.chan c).pictures.any fun o => p.number < o.number && (o.row 0).handed.isSome
      (if later then s4 else s4.wr q ⟨0xC, 16, 16⟩ 0).occur q 0x41 0 p.frame
    else s4
  | none => s4

/-- Row `r` of picture `p`, the oldest unreleased row of channel `c`, is released. RC_FLOOR's sub-unit is 1 where the first floored row has an
intra region (R203). -/
def State.releaseRow (s : State) (c : Nat) (p0 : EncPicture) (r : Nat) : State :=
  let x := s.chan c
  let p := if r = 0 then { p0 with before := some (x.total, x.arrival) } else p0
  let (size, floored, recode, ff, low) := s.releaseSize x p r
  let row := { p.row r with released := some s.tm.sys, size := size, floored := floored, recoding := recode }
  let blocks := p.hinted r row
  let plans := (p.plans x r row).map (·.2)
  let starts := (List.range p.slices.length).filter fun i => (sliceSpan p.words i).1 = r
  let slices := starts.foldl (fun l i => l.set i { l.getD i {} with ready := some s.tm.sys }) p.slices
  let p1 := { p.setRow r { row with plans := plans } with
    floorFrom := ff, slices := slices, allStatic := p.allStatic && plans.all fun e => e.code = .still }
  let x1 := { x.setPic p1 with quality := blocks.foldl (fun q e => tins (qualityKey e.1) (p.record x row e.1 e.2) q) x.quality }
  let s1 := ((s.setChan c x1).wr (RCE c) Reg.RC_RC_STATE_LAST_QP row.qp).wr (RCE c) Reg.RC_BUDGET_LEFT (sat32 low)
  let s2 := (s1.addTo (RCE c) Reg.RC_FLOOR_ROWS (b2n floored)).wr (ENC c) ⟨0xC, 8, 8⟩ (b2n ff.isSome)
  let s3 := if p.floorFrom.isNone && ff.isSome then
      s2.occur (ENC c) 0x30 (b2n (0 < intraColumns p.geo p.kind p.sweep)) ((r % 256) <<< 40 ||| p.frame % 2 ^ 32)
    else s2
  let (s4, p2) := s3.decideDu c p1 r
  let s5 := match x.rung with
    | some (l, i) => if i ≠ 0 && !p.noAnalysis && !p.overrun then s4.inc (LADDER l) Reg.LADDER_ROWS_REUSED else s4
    | none => s4
  State.enterRows c 65 (if r + 1 = p.rows.length then s5.picEnd c p2 else s5)

/-- Rows are released in sequence while their jobs are complete (R169). -/
def State.releaseRows (c : Nat) : Nat → State → State
  | 0, s => s
  | n + 1, s =>
    match (s.chan c).allRows.find? fun e => (e.1.row e.2).released.isNone with
    | some (p, r) => if (p.row r).entered && p.rowDone r then State.releaseRows c n (s.releaseRow c p r) else s
    | none => s

/-- The job of a row waits for the job above it in the same HEVC slice (R162). -/
def EncPicture.follows (p : EncPicture) (r col : Nat) : Bool :=
  p.geo.hevc && r % sliceRows p.words ≠ 0 && (tfind (p.row (r - 1)).finished col).isNone

/-- A pixel engine's job has ended: its engine is idle, with the cycles that it was busy and the misses of its cache (R173). -/
def State.engineEnds (s : State) (e t0 misses : Nat) : State :=
  let s1 := { s with enc := { s.enc with pixel := tdel e s.enc.pixel, idle := tput 0 s.enc.idle e s.tm.sys } }
  (s1.obsAdd 1 e 0 (tskCycles t0 s.tm.sys)).obsAdd 1 e 4 misses

/-- PIXEL_JOB_COMPLETE (R164, R169, R191): the job on engine `e` completes with its exact size in bits and the exact size that floor
coding of its CTUs has, both functions of its inputs; its samples are in the work area, seams apart. A rung-0 job has published before
(R176); an HEVC job ends after the one above it (R162); an error in the same cycle goes first (R168). -/
def State.jobComplete (s0 : State) (e misses : Nat) : State :=
  let s := s0.publishAnalysis e
  match tfind s.enc.pixel e with
  | some (j, t0) =>
    match (s.chan j.ch).pic j.picture with
    | some p =>
      if s.failsNow e || p.follows j.row j.col then s0
      else
        let x := s.chan j.ch
        let row := p.row j.row
        let v := p.results x j.row j.col
        let p1 := p.setRow j.row { row with finished := tins j.col (Config.jobBits v.1, Config.jobBits v.2) row.finished,
                                            results := tins j.col v row.results }
        let s1 := ((s.engineEnds e t0 misses).obsAdd 1 e 1 1).setChan j.ch (x.setPic p1)
        let s2 := s1.workPut j.ch p1 1 (p.number % (p.enc Reg.ENC_GOP_CFG_MAX_REFS + 1)) (p1.jobBytes j.row j.col v.1)
        State.releaseRows j.ch (s2.chan j.ch).allRows.length s2
    | none => s.engineEnds e t0 misses
  | none => s

/-- PIXEL_JOB_COMPLETE (R164). -/
def execPixelJobComplete (x e misses t : Nat) (s : State) : Host.Outcome State Fault Refusal :=
  live s ((s.advance t).jobComplete (24 * x + e) misses).encSettle

/-- The oldest row of a channel that satisfies a test is changed. -/
def State.changeRow (s : State) (c : Nat) (f : EncRow → Bool) (g : EncRow → EncRow) : State :=
  let x := s.chan c
  match x.allRows.find? fun e => f (e.1.row e.2) with
  | some (p, r) => s.setChan c (x.setPic (p.setRow r (g (p.row r))))
  | none => s

/-- FLOOR_RECODE_DONE (R196): the floor recoder has produced the oldest floored row of a channel that it had not. -/
def execFloorRecodeDone (c t : Nat) (s : State) : Host.Outcome State Fault Refusal :=
  live s ((s.advance t).changeRow c (·.recoding) fun r => { r with recoding := false }).encSettle

/-- Row `r` of picture `n` of channel `c` is final: its reconstruction and motion field are in the work area (R154, R163). -/
def State.finishRow (s : State) (c n r : Nat) : State :=
  let x := s.chan c
  match x.pic n with
  | some p =>
    let slot := n % (p.enc Reg.ENC_GOP_CFG_MAX_REFS + 1)
    let lines := p.finalRow (p.refs.head?.bind x.pic) r
    let s1 := s.setChan c (x.setPic (p.setRow r { p.row r with recon := lines }))
    (s1.workPut c p 1 slot (p.geo.rowBytes r lines)).workPut c p 2 slot (p.motionBytes r)
  | none => s

/-- The seam filter completes row `r` of picture `p`: the row above is final, and the last row too (R163). -/
def State.seamDone (s : State) (c : Nat) (p : EncPicture) (r : Nat) : State :=
  let s1 := s.setChan c ((s.chan c).setPic (p.setRow r { p.row r with seamed := true }))
  let s2 := if r = 0 then s1 else s1.finishRow c p.number (r - 1)
  if r + 1 = p.rows.length then s2.finishRow c p.number r else s2

/-- SEAM_FILTER_DONE (R163): the seam filter has completed the oldest released row that it had not. -/
def execSeamFilterDone (c t : Nat) (s0 : State) : Host.Outcome State Fault Refusal :=
  let s := s0.advance t
  live s0 (match (s.chan c).allRows.find? fun e => (e.1.row e.2).released.isSome && !(e.1.row e.2).recoding && !(e.1.row e.2).seamed with
    | some (p, r) => (s.seamDone c p r).encSettle
    | none => s.encSettle)

/-! Entropy jobs (R169). -/

/-- The first slice with the least instant. -/
def oldestSlice : List (Nat × Nat × Nat × Nat) → Option (Nat × Nat × Nat × Nat)
  | [] => none
  | a :: t => match oldestSlice t with
    | some b => if a.2.2.2 ≤ b.2.2.2 then some a else some b
    | none => some a

/-- A slice of a picture of a channel changed. -/
def State.setSlice (s : State) (c n i : Nat) (f : EncSlice → EncSlice) : State :=
  let x := s.chan c
  match x.pic n with
  | some p => s.setChan c (x.setPic { p with slices := p.slices.set i (f (p.slices.getD i {})) })
  | none => s

/-- ENTROPY_JOB_DISPATCH (R169): the oldest slice goes to the lowest idle entropy engine, one in a cycle. -/
def State.entropyDispatch (s : State) : State :=
  if s.enc.sentEntropy = tskCycle s.tm.sys + 1 then s else
  match oldestSlice s.readySlices, (List.range 16).find? fun e => s.entropyAvail e && (tfind s.enc.entropy e).isNone with
  | some (c, n, i, _), some e =>
    let s1 := s.setSlice c n i fun z => { z with engine := some (e, s.tm.sys) }
    ({ s1 with enc := { s1.enc with entropy := tins e (c, n, i, s1.tm.sys) s1.enc.entropy, sentEntropy := tskCycle s1.tm.sys + 1,
                                    lastSlice := s1.tm.sys } }).encShown
  | _, _ => s

/-- ENTROPY_JOB_DISPATCH (R169). -/
def execEntropyJobDispatch (t : Nat) (s : State) : Host.Outcome State Fault Refusal := live s (s.advance t).entropyDispatch

/-! Engine errors and loans (R171). -/

/-- An entropy engine's job has ended: its engine is idle, with the cycles that it was busy and the bins that it coded, a free value (R173). -/
def State.entropyEnds (s : State) (e t0 : Nat) : State :=
  let s1 := { s with enc := { s.enc with entropy := tdel e s.enc.entropy, idle := tput 0 s.enc.idle (128 + e) s.tm.sys } }
  ((s1.obsAdd 2 e 0 (tskCycles t0 s.tm.sys)).obsAdd 2 e 3 (s1.free 20)).drawn

/-- An uncorrectable error on an engine, coded as in R174 (R171): its job is retried and the engine is withdrawn. -/
def State.jobError (s : State) (u : Nat) : State :=
  let withdraw (t : State) (c r : Nat) : State :=
    let t1 := t.occur TSK 0x20 u (c <<< 40 ||| (r % 256) <<< 32 ||| t.frameNo % 2 ^ 32)
    ({ t1 with enc := { t1.enc with withdrawn := sins u t1.enc.withdrawn } }).occurF TSK 0x21 u
  if u < 128 then
    match tfind s.enc.pixel u with
    | some (j, t0) =>
      let s1 := (s.engineEnds u t0 (s.free 20)).drawn
      withdraw { s1 with enc := { s1.enc with waiting := s1.enc.waiting ++ [{ j with since := s.tm.sys, retried := true }] } } j.ch j.row
    | none => s
  else
    match tfind s.enc.entropy (u - 128) with
    | some (c, n, i, t0) =>
      match (s.chan c).pic n with
      | some p => withdraw ((s.setSlice c n i fun z => { z with engine := none }).entropyEnds (u - 128) t0) c (sliceSpan p.words i).1
      | none => s
    | none => s

/-- JOB_ERROR (R171). -/
def execJobError (u t : Nat) (s : State) : Host.Outcome State Fault Refusal := live s ((s.advance t).jobError u).encSettle

/-- An engine, coded as in R174, has been idle with no eligible job of its kind for twice AFFINITY_WAIT (R171). -/
def State.restful (s : State) (u : Nat) : Bool :=
  let since := max (tget 0 s.enc.idle u) (if u < 128 then s.enc.lastJob else s.enc.lastSlice)
  (if u < 128 then s.engineAvail u && (tfind s.enc.pixel u).isNone && s.enc.waiting.isEmpty
   else s.entropyAvail (u - 128) && (tfind s.enc.entropy (u - 128)).isNone && s.readySlices.isEmpty) &&
    2 * s.rd TSK Reg.TSK_TSK_CFG_AFFINITY_WAIT ≤ tskCycles since s.tm.sys

/-- ENGINE_SELFTEST_LOAN (R171): an engine that has been idle with no eligible job for twice AFFINITY_WAIT is lent. -/
def execEngineSelftestLoan (u t : Nat) (s0 : State) : Host.Outcome State Fault Refusal :=
  let s := s0.advance t
  live s0 (if s.restful u then ({ s with enc := { s.enc with lent := sins u s.enc.lent } }).encShown else s)

/-- ENGINE_RETURN (R171): a withdrawn engine, recorded, or a lent one returns to dispatch. -/
def execEngineReturn (u t : Nat) (s0 : State) : Host.Outcome State Fault Refusal :=
  let s := s0.advance t
  live s0 (if s.enc.withdrawn.contains u then
      (({ s with enc := { s.enc with withdrawn := sdel u s.enc.withdrawn } }).occurF TSK 0x22 u).encShown
    else if s.enc.lent.contains u then ({ s with enc := { s.enc with lent := sdel u s.enc.lent } }).encShown
    else s)

/-- Blocks of a row, by their place in it, whose pixel job has not completed: those whose coded hint is still to be read. -/
def EncPicture.unread (p : EncPicture) (r : Nat) (blocks : List Nat) : List Nat :=
  blocks.filter fun i => match (p.geo.rowBlocks r)[i]? with
    | some b => (List.range p.geo.cols).all fun c => !p.geo.inColumn c b || (tfind (p.row r).finished c).isNone
    | none => false

/-- HINT_ERROR (R213): an uncorrectable HBM error makes coded hints of a row of picture `n` all zero, blocks by their place in the row; it is
recorded once per picture, with the first affected block row (R230). -/
def State.hintError (s : State) (c n row : Nat) (blocks : List Nat) : State :=
  let x := s.chan c
  match x.pic n with
  | some p =>
    let r := p.row row
    let l := p.unread row blocks
    if r.handed.isNone || p.overrun || l.isEmpty then s
    else
      let p1 := { p.setRow row { r with hints := l.foldl (fun h i => h.set i {}) r.hints } with hintError := true }
      let s1 := s.setChan c (x.setPic p1)
      let first := (l.filterMap fun i => ((p.geo.rowBlocks row)[i]?).map (·.2)).foldl min (((p.geo.rowBlocks row).getLastD (0, 0)).2)
      if p.hintError then s1 else s1.occur (ENC c) 0x44 (first % 256) p.frame
  | none => s

/-- HINT_ERROR (R213). -/
def execHintError (c : Nat) (row : Nat × Nat) (blocks : List Nat) (s : State) : Host.Outcome State Fault Refusal :=
  live s (s.hintError c row.1 row.2 blocks)

/-! Latches (R62, R153). -/

/-- What a channel keeps once it stops: its grant. -/
def EncChannel.rest (x : EncChannel) : EncChannel :=
  { grant := x.grant, d := x.d, e := x.e, slots := x.slots, units := x.units, rung := x.rung }

/-- A channel that drains with nothing left to emit returns to ADMITTED (R153). -/
def State.encStopped (s : State) (c : Nat) : State :=
  let x := s.chan c
  if s.rd (ENC c) Reg.ENC_CH_STATE_STATE = 3 && x.pictures.all fun p => p.slices.length ≤ p.emitted then
    let s1 := { s.setChan c x.rest with areas := tdel c s.areas }
    (((s1.wr (ENC c) Reg.ENC_CH_STATE_STATE 1).wr (ENC c) ⟨0xC, 0, 0⟩ 0).occur (ENC c) 0x22 0 x.lastFrame)
  else s

/-- The latch of a raster for its frame that follows, at a channel (R153). -/
def State.encLatched (s : State) (c : Nat) : State :=
  let x := s.chan c
  let on := s.enabledL (ENC c)
  if on && !x.running && s.rd (ENC c) Reg.ENC_CH_STATE_STATE = 1 then
    let s1 := { s.setChan c { x.rest with running := true } with
      areas := tins c (s.rdL (ENC c) Reg.ENC_WORK_BASE % 2 ^ 21, x.units) s.areas }
    let h := hrdModel s.tm.rate 0 (encWordsOf s.wordL c) (rcWordsOf s.wordL c)
    ((s1.wr (ENC c) Reg.ENC_CH_STATE_STATE 2).wr (ENC c) ⟨0xC, 0, 0⟩ 1).wr (RCE c) Reg.RC_HRD_INFO
      (hrdInfo h (rcWordsOf s.wordL c))
  else if !on && x.running then
    ((s.setChan c { x with running := false }).wr (ENC c) Reg.ENC_CH_STATE_STATE 3).encStopped c
  else s

/-- Some channel of raster `r` has pixel jobs of frame `f` to complete (R33). -/
def State.encodeReads (s : State) (r f : Nat) : Bool :=
  s.enc.channels.any fun e => e.2.pictures.any fun p =>
    p.frame = f && encField p.words Reg.ENC_CH_CFG_RASTER = r && !p.overrun && !p.jobsDone

/-- OBS_DATA (R173). -/
def State.obsWord (s : State) (k : Nat) : Nat :=
  let i := s.rd TSK Reg.TSK_OBS_INDEX_INDEX
  match s.rd TSK Reg.TSK_OBS_INDEX_KIND with
  | 0 =>
    if 128 ≤ i then 0
    else if k < 12 then s.obs 0 i k % 2 ^ 32
    else (s.chan i).windowRows ||| min 127 (s.obs 0 i 13) <<< 8 ||| (s.obs 0 i 12 % 65536) <<< 16
  | 1 =>
    if 96 ≤ i then 0
    else
      match k with
      | 0 => s.obs 1 i 0 / 1024 % 2 ^ 32
      | 1 => s.obs 1 i 1 % 2 ^ 32
      | 2 =>
        let w := b2n (s.enc.withdrawn.contains i) <<< 17
        (match tfind s.enc.pixel i with
         | some (j, _) => w ||| j.ch ||| (j.row % 256) <<< 8 ||| 1 <<< 16
         | none => w)
      | 3 => s.obs 1 i 3 % 2 ^ 32
      | 4 => s.obs 1 i 4 / 1024 % 2 ^ 32
      | _ => 0
  | 2 =>
    if 16 ≤ i then 0
    else
      match k with
      | 0 => s.obs 2 i 0 / 1024 % 2 ^ 32
      | 1 => s.obs 2 i 1 % 2 ^ 32
      | 2 =>
        let w := b2n (s.enc.withdrawn.contains (128 + i)) <<< 17
        (match tfind s.enc.entropy i with | some (c, _) => w ||| c ||| 1 <<< 16 | none => w)
      | 3 => s.obs 2 i 3 / 1024 % 2 ^ 32
      | _ => 0
  | _ => 0

/-- HIST_CLEAR (R173): every histogram bin and every maximum becomes 0. -/
def State.histClear (s : State) : State :=
  { s with enc := { s.enc with obs := s.enc.obs.filter fun e =>
      !(e.1 / 65536 = 0 && (e.1 % 16 < 12 || e.1 % 16 = 13)) } }

/-- RC_CTL.CLEAR of an entry (R184). -/
def State.rcClear (s : State) (c : Nat) : State :=
  s.each (List.range 4) (fun t k => t.wr (RCE c) (Reg.RC_LAT_MAX k) 0) |>.wr (RCE c) Reg.RC_MIN_SLACK 0x7FFFFFFF

end Sys2Proof.Machine
end

