-- ==== Sys2Proof/Machine/Mbx.lean ====
section
/-!
DEFINITION. The firmware mailbox (21_power_reset_boot.md R493, R494): how a command starts, ends and answers. Each command's
effect stands in the file of its chapter.
-/

namespace Sys2Proof.Machine

/-- The MBX page; the offset of CMD_OP_STATUS. -/
abbrev MBX : Page := ⟨.mbx, 0⟩
abbrev mbxOp : Nat := 0xC8

/-- The codes of the mailbox commands (R182, R243, R455, R495). -/
def mbxCodes : List Nat :=
  [0x0101, 0x0110, 0x0111, 0x0112, 0x0113, 0x0114, 0x0120, 0x0130, 0x0140, 0x0150, 0x0201, 0x0202, 0x0203, 0x0204, 0x0301, 0x0302,
   0x0501, 0x0502, 0x0503, 0x0504]

/-- A command is running, with this code. -/
def State.mbxRunning (s : State) (code : Nat) : Bool := s.opState MBX mbxOp = 1 && s.mbx.code = code

/-- The running command ends in a STATE: its code is the latest ended, and CMD_ENDED is recorded (R494). -/
def State.mbxEnd (s : State) (st : Nat) (unknown : Bool) : State :=
  let s1 := ((s.wr MBX ⟨mbxOp, 2, 0⟩ st).wr MBX ⟨0xCC, 15, 0⟩ s.mbx.code).wr MBX Reg.MBX_CMD_RESULT_UNKNOWN (b2n unknown)
  (s1.wr MBX ⟨0xC, 0, 0⟩ 0).occur MBX 0x20 st ((s.mbx.code % 65536) <<< 32 ||| s.frameNo % 2 ^ 32)

/-- The running command ends DONE with its response words; the words beyond them are 0. -/
def State.mbxReply (s : State) (rsp : List Nat) : State :=
  (s.each (List.range 16) fun t k => t.wr MBX (Reg.MBX_RSP k) (rsp.getD k 0)).mbxEnd 2 false

/-- Where the running command has a code, it takes effect on its sampled request words, answers and ends DONE, unless its
effect itself has ended it. -/
def State.mbxRun (s : State) (code : Nat) (f : State → List Nat → State × List Nat) : State :=
  if s.mbxRunning code then
    let r := f s s.mbx.req
    if r.1.mbxRunning code then r.1.mbxReply r.2 else r.1
  else s

/-- CMD_OP_CTL.START of a requester (R49, R494): code and request words are sampled; an unknown code ends FAILED with UNKNOWN set.
In RECOVERY only RECOVERY_BOOT is known (R491). -/
def State.mbxStart (s : State) (a : Access) : State :=
  s.opStart MBX mbxOp 0 fun t =>
    let code := t.rd MBX ⟨0xC0, 15, 0⟩
    let u := ({ t with mbx := { code := code, req := (List.range 16).map fun k => t.rd MBX (Reg.MBX_REQ k), by' := a.path } }).inc MBX
      Reg.MBX_CMDS_TOTAL
    let v := (u.setOp MBX mbxOp 1 0).wr MBX ⟨0xC, 0, 0⟩ 1
    let known := mbxCodes.contains code && (t.rd MBX Reg.MBX_BOOT_STATE_RECOVERY = 0 || code = 0x0114)
    if known then v else v.mbxEnd 4 true

/-- A host pool offset of two request words (R495). -/
def reqOffset (req : List Nat) (k : Nat) : Nat := req.getD k 0 + (req.getD (k + 1) 0 % 32) * 2 ^ 32

end Sys2Proof.Machine
end

