-- ==== Sys2Proof/Machine/EncAdmit.lean ====
section
/-!
DEFINITION. Admission of encode channels and ladders, and the checks of a commit on them (07_encoder_pipeline.md R147-R152,
R178-R183, 08_rate_control.md R185); sealed content on outputs (20_security.md R464).
-/

namespace Sys2Proof.Machine

/-- The words of an ENC page and of an entry, by a view of fields. -/
def encWordsV (v : Values) (c : Nat) : List Nat := (List.range 7).map fun k => v (ENC c) ⟨0x40 + 4 * k, 31, 0⟩
def rcWordsV (v : Values) (c : Nat) : List Nat := (List.range 8).map fun k => v (RCE c) ⟨0x44 + 4 * k, 31, 0⟩

/-- The grant fields of a channel (R151, R181). -/
def grantWords (v : Values) (c : Nat) : List Nat :=
  let w := encWordsV v c
  [w.getD 0 0 &&& 0x0FFF7FFF, w.getD 2 0, w.getD 3 0 % 2 ^ 13, w.getD 4 0 % 32, w.getD 5 0 &&& 0xF7, w.getD 6 0 % 2 ^ 21,
   v (RCE c) Reg.RC_MAX_RATE]

/-- general_level_idc values (R147). -/
def levelListed (hevc : Bool) (l : Nat) : Bool :=
  if hevc then [30, 60, 63, 90, 93, 120, 123, 150, 153, 156, 180, 183, 186].contains l
  else [16, 32, 35, 48, 51, 64, 67, 80, 83, 86, 96, 99, 102].contains l

/-- A chroma format that a profile allows (R147). -/
def chromaAllowed (hevc : Bool) (profile chroma : Nat) : Bool :=
  if hevc then chroma = 0 || (profile = 2 && chroma = 1) else chroma = 0 || profile = 1

/-- Some limit of Annex A is exceeded (R152). -/
def levelExceeded (beat : Nat) (words : List Nat) : Bool :=
  let g := codedGeo words
  let f := encField words
  let nd := rateND beat
  let m := f Reg.ENC_CH_CFG_DIVISOR_M1 + 1
  let lim := Config.levelLimit (f Reg.ENC_CH_CFG_CODEC) (f Reg.ENC_CH_CFG_PROFILE) (f Reg.ENC_CH_CFG_TIER) (f Reg.ENC_CH_CFG_LEVEL_IDC)
  lim 0 < g.w8 * g.h8 || lim 1 < g.w8 || lim 1 < g.h8 || lim 2 * nd.2 * m < g.w8 * g.h8 * nd.1 || lim 3 < g.cols ||
    lim 4 < (if g.hevc then g.cols else g.cols * g.v) || lim 5 < sliceCount words ||
    (f Reg.ENC_SLICE_CFG_SUBPIC = 1 && lim 6 < sliceCount words)

/-- A BAD_VALUE check of R152 fails on a channel page. -/
def encBad (v : Values) (beat c : Nat) : Bool :=
  let w := encWordsV v c
  let f := encField w
  let g := codedGeo w
  let r := f Reg.ENC_CH_CFG_RASTER
  let k := 2 ^ (g.scale + 1)
  let own := v (SCAN r) Reg.SCAN_RG_CFG_DIVISOR_M1 + 1
  f Reg.ENC_CH_CFG_PROFILE = 3 || (!g.hevc && f Reg.ENC_CH_CFG_PROFILE = 2) || f Reg.ENC_CH_CFG_CHROMA = 3 || f Reg.ENC_CH_CFG_EFFORT = 3 ||
    !levelListed g.hevc (f Reg.ENC_CH_CFG_LEVEL_IDC) || f Reg.ENC_GOP_CFG_MAX_REFS = 0 || 4 < f Reg.ENC_GOP_CFG_MAX_REFS ||
    f Reg.ENC_CODING_CFG_SEARCH_ROWS = 0 || 4 < f Reg.ENC_CODING_CFG_SEARCH_ROWS || f Reg.ENC_SLICE_CFG_SLICE_ROWS = 0 ||
    f Reg.ENC_CODING_CFG_H_RANGE = 0 || (f Reg.ENC_GOP_CFG_PERIOD = 0 && f Reg.ENC_GOP_CFG_REFRESH = 1) ||
    !chromaAllowed g.hevc (f Reg.ENC_CH_CFG_PROFILE) g.chroma ||
    (g.hevc && (f Reg.ENC_CH_CFG_CTU128 = 1 || f Reg.ENC_SLICE_CFG_SUBPIC = 1)) ||
    v (SCAN r) Reg.SCAN_H_TIMING_H_ACTIVE < g.x + g.w || v (SCAN r) Reg.SCAN_V_TIMING_V_ACTIVE < g.y + g.h ||
    g.w % k ≠ 0 || g.h % k ≠ 0 || g.w8 < 64 || g.h8 < 64 || g.wc < g.cols ||
    (f Reg.ENC_CH_CFG_DIVISOR_M1 + 1) % own ≠ 0 || levelExceeded beat w

/-- A BAD_VALUE check of R185 fails on an entry; `o` gives the active values, `busy` a running or draining channel. -/
def rcBad (v o : Values) (beat : Nat) (busy : Bool) (c : Nat) : Bool :=
  let w := encWordsV v c
  let rc := rcWordsV v c
  let f := rcField rc
  let e := encField w
  let hevc := e Reg.ENC_CH_CFG_CODEC = 1
  let top := if hevc then 51 else 63
  let h := hrdModel beat 0 w rc
  let lim := Config.levelLimit (e Reg.ENC_CH_CFG_CODEC) (e Reg.ENC_CH_CFG_PROFILE) (e Reg.ENC_CH_CFG_TIER) (e Reg.ENC_CH_CFG_LEVEL_IDC)
  let old := rcField (rcWordsV o c)
  let moved (k : Field) : Bool := f k ≠ old k
  1 < f Reg.RC_RC_CFG_MODE || f Reg.RC_RC_CFG_QP_MAX < f Reg.RC_RC_CFG_QP_MIN || top < f Reg.RC_RC_CFG_QP_MAX ||
    top < f Reg.RC_RC_CFG_QP_INIT || f Reg.RC_RC_CFG_QP_INIT < f Reg.RC_RC_CFG_QP_MIN ||
    f Reg.RC_RC_CFG_QP_MAX < f Reg.RC_RC_CFG_QP_INIT || f Reg.RC_RC_TUNE_ROW_SWING = 0 ||
    f Reg.RC_MAX_RATE = 0 || f Reg.RC_BIT_RATE = 0 || f Reg.RC_CPB_SIZE = 0 || h.init = 0 || h.offset = 0 || 1000000 < h.offset ||
    (f Reg.RC_RC_CFG_MODE = 0 && f Reg.RC_BIT_RATE ≠ f Reg.RC_MAX_RATE) ||
    (f Reg.RC_RC_CFG_MODE = 1 && f Reg.RC_MAX_RATE < f Reg.RC_BIT_RATE) ||
    lim 7 < h.rate || lim 8 < h.size || h.size * 90000 < h.init * h.rate || !feasible h w rc ||
    (f Reg.RC_RC_CFG_DU_MODE = 1 && (h.dus < 2 || (hevc && e Reg.ENC_SLICE_CFG_TILE_COLS_M1 ≠ 0))) ||
    (f Reg.RC_DU_CAP ≠ 0 && f Reg.RC_DU_CAP < floorCostDu h w rc) ||
    (busy && (moved Reg.RC_RC_CFG_MODE || moved Reg.RC_RC_CFG_DU_MODE || moved Reg.RC_CPB_SIZE || moved Reg.RC_INIT_DELAY
      || moved Reg.RC_REMOVAL_OFFSET || (f Reg.RC_RC_CFG_MODE = 0 && moved Reg.RC_BIT_RATE)))

/-- The rungs of a ladder page: channels (R177). -/
def ladderRungs (v : Values) (l : Nat) : List Nat :=
  (List.range (v (LADDER l) Reg.LADDER_LADDER_CFG_RUNGS_M1 + 1)).map fun i =>
    bits (v (LADDER l) (if i < 4 then Reg.LADDER_RUNGS_LO else Reg.LADDER_RUNGS_HI)) (8 * (i % 4) + 6) (8 * (i % 4))

/-- A BAD_VALUE check of R178 fails on a ladder page, ENABLE apart. -/
def ladderBad (v : Values) (l : Nat) : Bool :=
  let rs := ladderRungs v l
  let w (c : Nat) : List Nat := encWordsV v c
  let f (c : Nat) : Field → Nat := encField (w c)
  let c0 := rs.headD 0
  v (LADDER l) Reg.LADDER_LADDER_CFG_RUNGS_M1 = 0 ||
    (List.range rs.length).any (fun i => (rs.take i).contains (rs.getD i 0)) ||
    (List.range 16).any (fun k => k ≠ l && v (LADDER k) Reg.PAGE_CTL_ENABLE = 1 && (ladderRungs v k).any rs.contains) ||
    rs.any fun c => f c Reg.ENC_CH_CFG_RASTER ≠ f c0 Reg.ENC_CH_CFG_RASTER || f c Reg.ENC_CH_CFG_DIVISOR_M1 ≠ f c0 Reg.ENC_CH_CFG_DIVISOR_M1
      || (w c).getD 1 0 ≠ (w c0).getD 1 0 || (w c).getD 2 0 ≠ (w c0).getD 2 0
      || f c Reg.ENC_CH_CFG_SCALE_LOG2 < f c0 Reg.ENC_CH_CFG_SCALE_LOG2

/-- The grant of a ladder: its rungs. -/
def ladderGrant (v : Values) (l : Nat) : List Nat := ladderRungs v l

/-! Sealed content on outputs (R464). -/

/-- The host pool extent of an enabled layer's source: base and bytes. -/
def layerExtent (v : Values) (l : Nat) : Nat × Nat :=
  let i := v (LAYER l) Reg.LAYER_LAYER_CFG_STREAM
  match v (LAYER l) Reg.LAYER_LAYER_CFG_SOURCE with
  | 0 => (ingestBase v i, ingestExtent v i)
  | 1 => (decBase v i, (decArea v i).2)
  | _ => hostExtent v l

/-- A layer's source overlaps sealed storage that is not CLEAR_OK. -/
def State.layerSealed (s : State) (v : Values) (l : Nat) : Bool :=
  let e := layerExtent v l
  s.sealedSpan e.1 e.2 && !s.spanClear e.1 e.2

/-- The enabled layers of raster `r` whose source is sealed and not CLEAR_OK. -/
def State.sealedLayers (s : State) (v : Values) (r : Nat) : List Nat :=
  (enabledOf v .compLayer 128).filter fun l => v (LAYER l) Reg.LAYER_LAYER_CFG_RASTER = r && s.layerSealed v l

/-- A VALID flow of some kinds and a source that may not carry sealed content. -/
def State.flowRefuses (s : State) (v : Values) (kinds : List Nat) (source : Nat) : Bool :=
  !s.sealedClear && (s.flowsOf kinds source).any fun f => !s.flowEncrypted v f

/-- The outputs of raster `r`, or of an enabled channel that it feeds, may not carry sealed content. -/
def State.rasterRefuses (s : State) (v : Values) (r : Nat) : Bool :=
  s.flowRefuses v [3] r || (enabledOf v .enc 128).any fun c =>
    v (ENC c) Reg.ENC_CH_CFG_RASTER = r && s.flowRefuses v [0, 1, 2] c

/-- The SEALED check of R102 on raster `r`, and of R152 on the channels that it feeds. -/
def State.sealedChecks (s : State) (v : Values) (r : Nat) : List Charge :=
  let ls := s.sealedLayers v r
  if ls.isEmpty then []
  else
    let cs := (enabledOf v .enc 128).filter fun c => v (ENC c) Reg.ENC_CH_CFG_RASTER = r
    (if s.rasterRefuses v r then [{ pages := ls.map LAYER, reason := 0x11 }] else []) ++
      cs.flatMap fun c => if s.flowRefuses v [0, 1, 2] c then [{ pages := [ENC c], reason := 0x11 }] else []

/-! Commit checks (R152, R178, R185). -/

/-- The checks on an enabled ENC channel page and its entry. -/
def State.encChecks (s : State) (v active : Values) (c : Nat) : List Charge :=
  let q := ENC c
  let x := s.chan c
  let busy := 2 ≤ s.rd q Reg.ENC_CH_STATE_STATE
  let r := v q Reg.ENC_CH_CFG_RASTER
  let base := v q Reg.ENC_WORK_BASE % 2 ^ 21 * 65536
  let len := x.units * 65536
  let g := codedGeo (encWordsV v c)
  let outside := v (SCAN r) Reg.SCAN_H_TIMING_H_ACTIVE < g.x + g.w || v (SCAN r) Reg.SCAN_V_TIMING_V_ACTIVE < g.y + g.h
    || (v q Reg.ENC_CH_CFG_DIVISOR_M1 + 1) % (v (SCAN r) Reg.SCAN_RG_CFG_DIVISOR_M1 + 1) ≠ 0
  let hit : List Page :=
    ((enabledOf v .ingest 64).filter fun k => overlaps base len (ingestBase v k) (ingestExtent v k)).map ING ++
    ((enabledOf v .dec 64).filter fun k => overlaps base len (decBase v k) (decArea v k).2).map DEC ++
    ((enabledOf v .compLayer 128).filter fun l => v (LAYER l) Reg.LAYER_LAYER_CFG_SOURCE = 2
      && overlaps base len (hostExtent v l).1 (hostExtent v l).2).map LAYER ++
    ((enabledOf v .enc 128).filter fun k => k ≠ c
      && overlaps base len (v (ENC k) Reg.ENC_WORK_BASE % 2 ^ 21 * 65536) ((s.chan k).units * 65536)).map ENC
  (if encBad v s.tm.rate c then [{ pages := q :: (if outside then [SCAN r] else []), reason := 0x01 }] else []) ++
  charge1 q (rcBad v active s.tm.rate busy c) 0x01 ++
  charge1 q (x.grant ≠ some (grantWords v c)) 0x0F ++
  (if poolSize < base + len || !hit.isEmpty then [{ pages := q :: hit, reason := 0x10 }] else [])

/-- The checks on a ladder page: enabled, or admitted with its rungs still enabled. -/
def State.ladderChecks (s : State) (v : Values) (l : Nat) : List Charge :=
  let q := LADDER l
  let rs := ladderRungs v l
  let on := v q Reg.PAGE_CTL_ENABLE
  let split := rs.filter fun c => v (ENC c) Reg.PAGE_CTL_ENABLE ≠ on
  let known := tfind s.enc.ladders l
  if on = 1 || known.isSome then
    (if !split.isEmpty || (on = 1 && ladderBad v l) then [{ pages := q :: rs.map ENC, named := [q], reason := 0x01 }] else []) ++
    charge1 q (on = 1 && (known.map (·.1)) ≠ some (ladderGrant v l)) 0x0F
  else []

/-! Admission (R179-R183). -/

/-- P of R179 in Mpx/s. -/
def pixelRate (effort : Nat) (hevc : Bool) : Nat :=
  match effort, hevc with
  | 0, false => 173 | 0, true => 260 | 1, false => 260 | 1, true => 390 | _, false => 115 | _, true => 173

/-- D: engine demand (R180); `rung` holds where the ladder factor applies. -/
def engineDemand (beat : Nat) (words : List Nat) (rung : Bool) : Nat :=
  let g := codedGeo words
  let nd := rateND beat
  let m := encField words Reg.ENC_CH_CFG_DIVISOR_M1 + 1
  let c : Nat × Nat := match g.chroma with | 0 => (7, 8) | 1 => (1, 1) | _ => (5, 4)
  let l : Nat × Nat := if rung then (13, 20) else (1, 1)
  cdiv (1000 * g.w8 * g.h8 * nd.1 * c.1 * l.1)
    (nd.2 * m * c.2 * l.2 * (pixelRate (encField words Reg.ENC_CH_CFG_EFFORT) g.hevc * 1000000))

/-- E: entropy demand of a maximum rate in units of 64 b/s (R180). -/
def entropyDemand (maxRate : Nat) : Nat := cdiv (maxRate * 64 * 125) 240000000

/-- Job slots of a channel (R180). -/
def jobSlots (words : List Nat) : Nat := 64 * (encField words Reg.ENC_SLICE_CFG_TILE_COLS_M1 + 1)

/-- The channel is a rung of an admitted ladder or of one whose page is pending with ENABLE 1 (R183). -/
def State.rungOf (s : State) (c : Nat) : Bool :=
  (s.chan c).rung.isSome || s.enc.ladders.any (fun e => e.2.1.contains c) || (List.range 16).any fun l =>
    s.rdP (LADDER l) Reg.PAGE_CTL_ENABLE = 1 && (ladderRungs s.rdP l).contains c

/-- A channel admitted from its pending values, without the sums. -/
def State.admitted1 (s : State) (c : Nat) (rung : Option (Nat × Nat)) : EncChannel :=
  let w := encWordsV s.rdP c
  let g := grantWords s.rdP c
  { grant := some g, d := engineDemand s.tm.rate w (match rung with | some (_, i) => i ≠ 0 | none => false),
    e := entropyDemand (s.rdP (RCE c) Reg.RC_MAX_RATE), slots := jobSlots w, units := Config.workSize g, rung := rung }

/-- CLUSTER_PARK (R480): the governor parks the highest-numbered eligible clusters that the demand does not need. -/
def State.park (s : State) : State :=
  let used (k : Nat) : Bool := (List.range 32).any fun r =>
    s.rd (SCAN r) Reg.SCAN_RG_STATE_RUNNING = 1 && s.rd (COMP r) Reg.CRASTER_COMP_STATE_CHIPLET = k
  let d := s.demandSum (·.d)
  let p := [3, 2, 1, 0].foldl (fun l k => if !used k && d + 24000 * (l.length + 1) ≤ 93000 then sins k l else l) []
  ({ s with enc := { s.enc with parked := if s.rd ⟨.pwr, 0⟩ Reg.PWR_GOV_CFG_GOV_EN = 1 then p else [] } }).encShown

/-- The capacity result of adding channels to those admitted (R181, R183). -/
def State.capacity (s : State) (xs : List EncChannel) (ladder : Bool) : Nat :=
  if 93000 < s.demandSum (·.d) + (xs.map (·.d)).sum then 2
  else if 15000 < s.demandSum (·.e) + (xs.map (·.e)).sum then 3
  else if 16384 < s.demandSum (·.slots) + (xs.map (·.slots)).sum || 128 < s.admitted + xs.length
      || (ladder && 16 ≤ s.enc.ladders.length) then 4
  else 0

/-- A channel becomes ADMITTED. -/
def State.admitChan (s : State) (c : Nat) (x : EncChannel) : State :=
  let s1 := ((s.setChan c x).wr (ENC c) Reg.ENC_CH_STATE_STATE 1).wr (ENC c) Reg.ENC_CH_STATE_LADDER (b2n x.rung.isSome)
  { s1 with sec := { s1.sec with codedSealed := sdel c s1.sec.codedSealed } }

/-- ENC_ADMIT (R182, R183): results in the order BUSY, BAD_CONFIG, capacity. -/
def State.encAdmit (s : State) (req : List Nat) : State × List Nat :=
  let c := req.getD 0 0 % 128
  let x := s.admitted1 c none
  if (s.chan c).grant.isSome || s.rungOf c then (s, [5])
  else if encBad s.rdP s.tm.rate c then (s, [1])
  else
    let k := s.capacity [x] false
    if k ≠ 0 then (s, [k])
    else
      let s1 := (s.admitChan c x).park
      (s1, [0, x.units, x.d, x.e, 93000 - s1.demandSum (·.d)])

/-- LADDER_ADMIT (R182, R183). -/
def State.ladderAdmit (s : State) (req : List Nat) : State × List Nat :=
  let l := req.getD 0 0 % 16
  let rs := ladderRungs s.rdP l
  let xs := (List.range rs.length).map fun i => (rs.getD i 0, s.admitted1 (rs.getD i 0) (some (l, i)))
  let split := rs.any fun c => s.rdP (ENC c) Reg.PAGE_CTL_ENABLE ≠ s.rdP (LADDER l) Reg.PAGE_CTL_ENABLE
  let taken := rs.any fun c => (s.chan c).grant.isSome || s.enc.ladders.any fun e => e.2.1.contains c
  if (tfind s.enc.ladders l).isSome || taken then (s, [5])
  else if ladderBad s.rdP l || split || rs.any fun c => encBad s.rdP s.tm.rate c then (s, [1])
  else
    let k := s.capacity (xs.map (·.2)) true
    if k ≠ 0 then (s, [k])
    else
      let d := (xs.map fun e => e.2.d).sum
      let e := (xs.map fun e => e.2.e).sum
      let s1 := s.each xs fun t p => t.admitChan p.1 p.2
      let s2 := { s1 with enc := { s1.enc with ladders := tins l (rs, d, e) s1.enc.ladders } }
      let s3 := ((s2.wr (LADDER l) Reg.LADDER_LADDER_STATE_ADMITTED 1).wr (LADDER l) ⟨0x5C, 16, 0⟩ d).park
      (s3, [0] ++ (List.range 8).map (fun i => ((xs[i]?).map fun p => p.2.units).getD 0) ++ [d, e, 93000 - s3.demandSum (·.d)])

/-- Zero a span of the host pool (R465). -/
def State.zeroSpan (s : State) (lo len : Nat) : State :=
  { s with mem := s.mem.filter fun e => !(lo ≤ e.1 && e.1 < lo + len) }

/-- A channel returns to IDLE, its sealed work area zeroed first (R183, R465). -/
def State.releaseChan (s : State) (c : Nat) : State :=
  let s1 := match s.workArea c with
    | some (b, n) => if s.sealedSpan (b * 65536) (n * 65536) then s.zeroSpan (b * 65536) (n * 65536) else s
    | none => s
  let s2 := { s1 with sec := { s1.sec with codedSealed := sdel c s1.sec.codedSealed }, areas := tdel c s1.areas }
  ((s2.setChan c {}).wr (ENC c) Reg.ENC_CH_STATE_STATE 0).wr (ENC c) Reg.ENC_CH_STATE_LADDER 0

/-- A released rung leaves the demand of its admitted ladder (DESIGN CHOICE, log 48). -/
def State.rungReleased (s : State) (x : EncChannel) : State :=
  match x.rung with
  | some (l, _) =>
    match tfind s.enc.ladders l with
    | some (rs, d, e) =>
      { s with enc := { s.enc with ladders := tins l (rs, d - x.d, e - x.e) s.enc.ladders } }.wr (LADDER l) ⟨0x5C, 16, 0⟩ (d - x.d)
    | none => s
  | none => s

/-- ENC_RELEASE (R182, R183): BUSY where the channel, or a rung of the ladder, is RUNNING or DRAINING. -/
def State.encRelease (s : State) (req : List Nat) : State × List Nat :=
  let i := req.getD 0 0 % 128
  if bit (req.getD 0 0) 7 then
    match tfind s.enc.ladders (i % 16) with
    | none => (s, [6])
    | some (rs, _, _) =>
      if rs.any fun c => (s.chan c).rung.isSome && s.rd (ENC c) Reg.ENC_CH_STATE_STATE ≠ 1 then (s, [5])
      else
        let s1 := s.each (rs.filter fun c => (s.chan c).rung.isSome) State.releaseChan
        let s2 := { s1 with enc := { s1.enc with ladders := tdel (i % 16) s1.enc.ladders } }
        (((s2.wr (LADDER (i % 16)) Reg.LADDER_LADDER_STATE_ADMITTED 0).wr (LADDER (i % 16)) ⟨0x5C, 16, 0⟩ 0).park, [0])
  else if (s.chan i).grant.isNone then (s, [6])
  else if s.rd (ENC i) Reg.ENC_CH_STATE_STATE ≠ 1 then (s, [5])
  else (((s.releaseChan i).rungReleased (s.chan i)).park, [0])

/-- ENC_QUERY (R182). -/
def State.encQuery (s : State) (_ : List Nat) : State × List Nat :=
  (s, [0, s.demandSum (·.d), s.demandSum (·.e), s.demandSum (·.slots), s.admitted, s.enc.ladders.length])

/-- ENC_ADMIT (R182): the running mailbox command completes. -/
def execEncAdmit (s : State) : Host.Outcome State Fault Refusal := live s (s.mbxRun 0x0201 State.encAdmit)

/-- LADDER_ADMIT (R182). -/
def execLadderAdmit (s : State) : Host.Outcome State Fault Refusal := live s (s.mbxRun 0x0202 State.ladderAdmit)

/-- ENC_RELEASE (R182). -/
def execEncRelease (s : State) : Host.Outcome State Fault Refusal := live s (s.mbxRun 0x0203 State.encRelease)

/-- ENC_QUERY (R182). -/
def execEncQuery (s : State) : Host.Outcome State Fault Refusal := live s (s.mbxRun 0x0204 State.encQuery)

end Sys2Proof.Machine
end

