-- ==== Sys2Proof/Machine/Decoder.lean ====
section
/-!
DEFINITION. Decode streams (10_decoder.md R231-R248): admission, the NAL units that arrive, closing and concealment, completion
and publication.
-/

namespace Sys2Proof.Machine

/-! Admission (R236-R239). -/

/-- The grant fields of a stream (R238). -/
def decGrant (v : Values) (d : Nat) : List Nat :=
  [v (DEC d) Reg.DEC_DEC_CFG &&& 0x0FFC03F7, v (DEC d) Reg.DEC_GEOMETRY, v (DEC d) Reg.DEC_REGION]

/-- The decode region in luma samples, clipped to the picture: left, top, width, height. -/
def decRegion (v : Values) (d : Nat) : Nat × Nat × Nat × Nat :=
  let q := DEC d
  let x0 := v q Reg.DEC_REGION_X0 * 64
  let y0 := v q Reg.DEC_REGION_Y0 * 64
  (x0, y0, min (v q Reg.DEC_GEOMETRY_WIDTH) ((v q Reg.DEC_REGION_X1 + 1) * 64) - x0,
   min (v q Reg.DEC_GEOMETRY_HEIGHT) ((v q Reg.DEC_REGION_Y1 + 1) * 64) - y0)

/-- D_d: decode demand (R238). -/
def decDemand (v : Values) (d : Nat) : Nat :=
  let q := DEC d
  let nd := rateND (v q Reg.DEC_DEC_CFG_RATE)
  let c : Nat × Nat := match v q Reg.DEC_DEC_CFG_CHROMA with | 0 => (7, 8) | 1 => (1, 1) | _ => (5, 4)
  let g := decRegion v d
  let a : Nat × Nat := if v q Reg.DEC_DEC_CFG_PARTIAL = 1 then (5 * g.2.2.1 * g.2.2.2, 4)
    else (v q Reg.DEC_GEOMETRY_WIDTH * v q Reg.DEC_GEOMETRY_HEIGHT, 1)
  cdiv (1000 * a.1 * nd.1 * c.1) (max 1 (a.2 * nd.2 * c.2 * 2075000000))

/-- A BAD_VALUE check of R236 fails, the INGEST page apart. -/
def decBad (v : Values) (d : Nat) : Bool :=
  let q := DEC d
  let f := v q
  let w := f Reg.DEC_GEOMETRY_WIDTH
  let h := f Reg.DEC_GEOMETRY_HEIGHT
  13 < f Reg.DEC_DEC_CFG_RATE || f Reg.DEC_DEC_CFG_CHROMA = 3 || 2 < f Reg.DEC_DEC_CFG_COLORIMETRY || 2 < f Reg.DEC_DEC_CFG_TCS ||
    f Reg.DEC_DEC_CFG_RANGE = 3 || f Reg.DEC_DEC_CFG_SLOTS < 3 || 16 < f Reg.DEC_DEC_CFG_SLOTS || f Reg.DEC_DEC_CFG_REFS = 0 ||
    16 < f Reg.DEC_DEC_CFG_REFS || w < 64 || 16384 < w || h < 64 || 8640 < h ||
    f Reg.DEC_REGION_X1 < f Reg.DEC_REGION_X0 || f Reg.DEC_REGION_Y1 < f Reg.DEC_REGION_Y0 ||
    cdiv w 64 ≤ f Reg.DEC_REGION_X1 || cdiv h 64 ≤ f Reg.DEC_REGION_Y1 ||
    (f Reg.DEC_DEC_CFG_PARTIAL = 1 && f Reg.DEC_DEC_CFG_CODEC = 1) ||
    (f Reg.DEC_DEC_CFG_ALIGN ≠ 0 && (f Reg.DEC_DEC_CFG_SOURCE = 0 || f Reg.DEC_DEC_CFG_SLOTS < f Reg.DEC_DEC_CFG_ALIGN + 2))

/-- The enabled COMPRESSED INGEST pages that name a stream. -/
def decFeeds (v : Values) (d : Nat) : List Nat :=
  (enabledOf v .ingest 64).filter fun i =>
    v (ING i) Reg.INGEST_STREAM_CFG_KIND = 3 && v (ING i) Reg.INGEST_STREAM_CFG_DEC_STREAM = d

/-- The INGEST page check of R236 fails. -/
def decFeedBad (v : Values) (d : Nat) : Bool :=
  let hevc := v (DEC d) Reg.DEC_DEC_CFG_CODEC = 1
  v (DEC d) Reg.DEC_DEC_CFG_SOURCE = 0 &&
    match decFeeds v d with
    | [i] => (v (ING i) Reg.INGEST_STREAM_CFG_TRANSPORT = 0 && hevc) || (v (ING i) Reg.INGEST_STREAM_CFG_TRANSPORT = 1 && !hevc)
    | _ => true

/-- The checks of R236 on an enabled DEC page. -/
def State.decChecks (s : State) (v : Values) (d : Nat) : List Charge :=
  let q := DEC d
  let b := decBase v d
  let n := (decArea v d).2
  let hit : List Page :=
    ((enabledOf v .ingest 64).filter fun k => overlaps b n (ingestBase v k) (ingestExtent v k)).map ING ++
    ((enabledOf v .dec 64).filter fun k => k ≠ d && overlaps b n (decBase v k) (decArea v k).2).map DEC ++
    ((enabledOf v .compLayer 128).filter fun l => v (LAYER l) Reg.LAYER_LAYER_CFG_SOURCE = 2
      && overlaps b n (hostExtent v l).1 (hostExtent v l).2).map LAYER ++
    ((enabledOf v .enc 128).filter fun c =>
      overlaps b n (v (ENC c) Reg.ENC_WORK_BASE % 2 ^ 21 * 65536) ((s.chan c).units * 65536)).map ENC
  charge1 q (decBad v d) 0x01 ++
  (if decFeedBad v d then [{ pages := q :: (decFeeds v d).map ING, reason := 0x01 }] else []) ++
  (if poolSize < b + n || !hit.isEmpty then [{ pages := q :: hit, reason := 0x10 }] else []) ++
  charge1 q ((s.decStream d).grant ≠ some (decGrant v d)) 0x0F

/-- Load of decode pipeline `k`, 0-7, two to a chiplet (R238). -/
def State.pipeLoad (s : State) (k : Nat) : Nat :=
  ((s.dec.filter fun e => e.2.pipes.contains k).map fun e => cdiv e.2.demand e.2.pipes.length).sum

/-- The pipelines that take a demand: one, or both of a chiplet (R238), none of them withdrawn (R416). -/
def State.placeDec (s : State) (d : Nat) : Option (List Nat) :=
  let ok (k : Nat) : Bool := !s.mate.health.pipes.contains k
  if d ≤ 975 then ((List.range 8).find? fun k => ok k && s.pipeLoad k + d ≤ 975).map fun k => [k]
  else ((List.range 4).find? fun x => ok (2 * x) && ok (2 * x + 1) && s.pipeLoad (2 * x) + cdiv d 2 ≤ 975 && s.pipeLoad (2 * x + 1) + cdiv d 2 ≤ 975).map
    fun x => [2 * x, 2 * x + 1]

/-- Σ D_d of the admitted streams. -/
def State.decSum (s : State) : Nat := ((s.dec.filter fun e => e.2.grant.isSome).map fun e => e.2.demand).sum

/-- DEC_ADMIT (R238, R239): results in the order BUSY, BAD_CONFIG, capacity. -/
def State.decAdmit (s : State) (req : List Nat) : State × List Nat :=
  let d := req.getD 0 0 % 64
  let n := decDemand s.rdP d
  if (s.decStream d).grant.isSome then (s, [5])
  else if decBad s.rdP d || decFeedBad s.rdP d then (s, [1])
  else if 7800 < s.decSum + n || 1950 < n then (s, [2])
  else
    match s.placeDec n with
    | none => (s, [2])
    | some pipes =>
      let s1 := s.setDec d { s.decStream d with grant := some (decGrant s.rdP d), demand := n, pipes := pipes }
      (s1, [0, (decArea s.rdP d).2 / 65536, n, 7800 - s1.decSum])

/-- DEC_RELEASE (R239, R465): a sealed decode area is zeroed first. A stream whose ENABLE 0 is not latched yet goes on until that latch
(R240). -/
def State.decRelease (s : State) (req : List Nat) : State × List Nat :=
  let d := req.getD 0 0 % 64
  if (s.decStream d).grant.isNone then (s, [6])
  else if s.enabled (DEC d) then (s, [5])
  else
    let b := decBase s.rd d
    let n := (decArea s.rd d).2
    let s1 := if s.sec.ranges.any fun e => e.2.1 * 65536 < b + n && b < (e.2.1 + e.2.2.1) * 65536 then s.zeroSpan b n else s
    let x := s1.decStream d
    let s2 := if x.running then s1.setDec d { x with grant := none, demand := 0, pipes := [] } else { s1 with dec := tdel d s1.dec }
    ({ s2 with areas := tdel (128 + d) s2.areas }, [0])

/-- DEC_ADMIT (R239): the running mailbox command completes. -/
def execDecAdmit (s : State) : Host.Outcome State Fault Refusal := live s (s.mbxRun 0x0301 State.decAdmit)

/-- DEC_RELEASE (R239). -/
def execDecRelease (s : State) : Host.Outcome State Fault Refusal := live s (s.mbxRun 0x0302 State.decRelease)

/-! The decoded area and the surfaces (R237, R243, R244). -/

/-- Bytes of one surface, and of a reference entry. -/
def State.decSurface (s : State) (d : Nat) : Nat :=
  surfaceBytes (decFormat (s.rdL (DEC d) Reg.DEC_DEC_CFG_CHROMA)) (s.rdL (DEC d) Reg.DEC_GEOMETRY_WIDTH)
    (s.rdL (DEC d) Reg.DEC_GEOMETRY_HEIGHT)
def State.decEntryBytes (s : State) (d : Nat) : Nat :=
  s.decSurface d + roundUp (cdiv (s.rdL (DEC d) Reg.DEC_GEOMETRY_WIDTH) 8 * cdiv (s.rdL (DEC d) Reg.DEC_GEOMETRY_HEIGHT) 8 * 16) 65536

/-- Base of a reference entry. -/
def State.decEntryBase (s : State) (d e : Nat) : Nat :=
  decBase s.rdL d + (decArea s.rdL d).1 + e * s.decEntryBytes d

/-- A subpicture meets the decode region. -/
def meetsRegion (g p : Nat × Nat × Nat × Nat) : Bool := overlaps g.1 g.2.2.1 p.1 p.2.2.1 && overlaps g.2.1 g.2.2.2 p.2.1 p.2.2.2

/-- The subpictures that a stream decodes. -/
def State.decSubpics (s : State) (d : Nat) (x : DecSps) : List (Nat × Nat × Nat × Nat) :=
  x.subpics.filter fun p => meetsRegion (decRegion s.rdL d) p

/-- The CTUs of the decoded area, in raster order (R243). -/
def State.decodedArea (s : State) (d : Nat) (x : DecSps) : List Nat :=
  let c := max 1 x.ctu
  let wc := cdiv x.width c
  (List.range (wc * cdiv x.height c)).filter fun k =>
    s.rdL (DEC d) Reg.DEC_DEC_CFG_PARTIAL = 0 ||
      (s.decSubpics d x).any fun p => overlaps p.1 p.2.2.1 (k % wc * c) c && overlaps p.2.1 p.2.2.2 (k / wc * c) c

/-- The CTU that the byte at offset `o` of a surface belongs to; none for padding. -/
def byteCtu (fmt w h ctu o : Nat) : Option Nat :=
  let pitch := pitchOf fmt w
  let c := max 1 ctu
  let wc := cdiv w c
  let at' (x y : Nat) : Option Nat := if x < w ∧ y < h then some (y / c * wc + x / c) else none
  if o < pitch * h then at' (o % pitch / formatBytes fmt) (o / pitch)
  else if fmt = 5 then at' (o % pitch / 4 * 2) ((o - pitch * h) / pitch * 2)
  else none

/-- The byte at offset `o` of a decoded picture's surface: samples MSB-aligned in 16-bit containers with the unused low bits 0 (R83). -/
def contentByte (content depth o : Nat) : Byte :=
  let v := Config.decodedSample content (o / 2) % 2 ^ depth * 2 ^ (16 - depth)
  BitVec.ofNat 8 (if o % 2 = 0 then v else v / 256)

/-- The byte of a picture's surface in CTU `k` (R245): decoded, or of the concealment reference, or mid-grey where there is none. -/
def DecPicture.byteOf (p : DecPicture) (o k : Nat) : Byte :=
  if p.concealed.contains k then
    match p.source with
    | some c => contentByte c.1 c.2 o
    | none => if o % 2 = 0 then 0 else 0x80
  else contentByte p.content p.sps.depth o

/-- The bytes of lines `first` to `first + n - 1` of surface pitch `pitch` that a picture writes, one burst for each line and each span
of decoded CTUs in it (DESIGN CHOICE, log 86): offset and bytes. -/
def burstsOf (bs : List (Nat × Byte)) (pitch : Nat) : List (Nat × List Byte) :=
  bs.foldr (fun b acc =>
    match acc with
    | (o, l) :: t => if o = b.1 + 1 && o % pitch ≠ 0 then (b.1, b.2 :: l) :: t else (b.1, [b.2]) :: acc
    | [] => [(b.1, [b.2])]) []

/-- The bytes of a picture's surface that are written, in bursts by offset. -/
def State.decBursts (s : State) (d : Nat) (p : DecPicture) : List (Nat × List Byte) :=
  let fmt := decFormat (s.rdL (DEC d) Reg.DEC_DEC_CFG_CHROMA)
  let w := s.rdL (DEC d) Reg.DEC_GEOMETRY_WIDTH
  let h := s.rdL (DEC d) Reg.DEC_GEOMETRY_HEIGHT
  let area := s.decodedArea d p.sps
  burstsOf ((List.range (s.decSurface d)).filterMap fun o =>
    match byteCtu fmt w h p.sps.ctu o with
    | some k => if area.contains k then some (o, p.byteOf o k) else none
    | none => none) (max 1 (pitchOf fmt w))

/-- The motion field of a picture (R237), 16 bytes for each 8 × 8 block: zero for a concealed CTU (R245). -/
def State.decMotion (s : State) (d : Nat) (p : DecPicture) : List Byte :=
  let c := max 1 p.sps.ctu
  let w8 := cdiv (s.rdL (DEC d) Reg.DEC_GEOMETRY_WIDTH) 8
  (List.range (16 * (w8 * cdiv (s.rdL (DEC d) Reg.DEC_GEOMETRY_HEIGHT) 8))).map fun i =>
    let k := i / 16 / w8 * 8 / c * cdiv p.sps.width c + i / 16 % w8 * 8 / c
    if p.concealed.contains k then 0 else Config.decodedMotion p.content i

/-- A picture's samples go to `base` in checked bursts of the decode stream (R88). -/
def State.decSurfaceWrite (s : State) (d : Nat) (p : DecPicture) (base : Nat) : State :=
  s.each (s.decBursts d p) fun t b => t.writeChecked (.decode d) (base + b.1) b.2

/-- A picture with its motion field is written into reference entry `e` (R237). -/
def State.decEntryWrite (s : State) (d : Nat) (p : DecPicture) (e : Nat) : State :=
  (s.decSurfaceWrite d p (s.decEntryBase d e)).writeChecked (.decode d) (s.decEntryBase d e + s.decSurface d) (s.decMotion d p)

/-- The complete pictures that the reference entries must hold: references, and the concealment reference as long as it is newer than
every clean one among them (R237, R246). -/
def DecStream.held (x : DecStream) : List DecPicture :=
  let refs := x.refs.filter (·.complete)
  match x.conceal with
  | some c => if c.complete && !(x.refs.any fun r => r.number = c.number || (r.clean && c.number < r.number)) then refs ++ [c] else refs
  | none => refs

/-- Each complete picture that is held gets the lowest reference entry that is free, as entries become free (R237). -/
def State.decPlace (s : State) (d : Nat) : State :=
  let x := s.decStream d
  let kept := x.entries.filter fun e => x.held.any fun p => p.number = e.2
  (x.held.filter fun p => !(kept.any fun e => e.2 = p.number)).foldl (fun (t : State) p =>
    let y := t.decStream d
    match (List.range (t.rdL (DEC d) Reg.DEC_DEC_CFG_REFS + 1)).find? fun e => (tfind y.entries e).isNone with
    | some e => (t.setDec d { y with entries := tins e p.number y.entries }).decEntryWrite d p e
    | none => t) (s.setDec d { x with entries := kept })

/-- A complete picture is written into its slot (R244, R245). -/
def State.decWrite (s : State) (d : Nat) (p : DecPicture) : State :=
  match p.slot with
  | some k => s.decSurfaceWrite d p ((s.decStream d).ring.slotBase k)
  | none => s

/-! Publication (R234, R241, R247). -/

/-- ALIGN of a stream; the instant at which a ferry picture is published. -/
def State.decAlign (s : State) (d : Nat) : Nat := s.rdL (DEC d) Reg.DEC_DEC_CFG_ALIGN
def State.alignInstant (s : State) (d f : Nat) : Nat := beatStart s.tm.rate (f + s.decAlign d - 1)

/-- The order of output: by epoch, then POC. -/
def outBefore (a b : DecPicture) : Bool := a.epoch < b.epoch || (a.epoch = b.epoch && a.head.poc < b.head.poc)

/-- A complete picture may be published now. -/
def State.decDue (s : State) (d : Nat) (p : DecPicture) : Bool :=
  p.complete &&
    (if s.decAlign d ≠ 0 then s.alignInstant d p.head.frame ≤ s.tm.sys
     else p.due || !p.sps.reorders)

/-- Show the ring state of a stream (R235, R248). -/
def State.decShown (s : State) (d : Nat) : State :=
  let x := s.decStream d
  match x.pictures.find? fun p => !p.complete && p.slot.isSome with
  | some p => (s.wr (DEC d) Reg.DEC_DEC_STATE_FILLING 1).wr (DEC d) Reg.DEC_DEC_STATE_FILL_SLOT (p.slot.getD 0)
  | none => s.wr (DEC d) Reg.DEC_DEC_STATE_FILLING 0

/-- A picture is published (R234, R247). -/
def State.decPublish (s : State) (d : Nat) (p : DecPicture) : State :=
  let x := s.decStream d
  let q := DEC d
  let rest := x.pictures.filter (· ≠ p)
  match p.slot with
  | none => s.setDec d { x with pictures := rest }
  | some k =>
    let r := { x.ring with newest := some k, order := tins k x.ring.nextOrder x.ring.order, nextOrder := x.ring.nextOrder + 1 }
    let s1 := (s.setDec d { x with pictures := rest, ring := r, marked := sset k (!p.clean) x.marked, wasMarked := !p.clean })
      |>.setFilling (r.surface k).1 (r.surface k).2 false
    let s2 := if p.clean && x.wasMarked then s1.occurF q 0x23 0 else s1
    let s3 := ((s2.wr q Reg.DEC_DEC_STATE_NEWEST_SLOT k).wr q Reg.DEC_DEC_STATE_VALID 1).wr q Reg.DEC_DEC_STATE_NEWEST_CONCEALED
      (b2n (!p.clean))
    ((s3.inc q Reg.DEC_DEC_STATE_PUBLISHED).wr q ⟨0xC, 1, 1⟩ 0).wr q ⟨0xC, 2, 2⟩ (b2n (!p.clean))

/-- Publish in output order every picture whose time has come, at most `n`. -/
def State.decPublishDue (d : Nat) : Nat → State → State
  | 0, s => s
  | n + 1, s =>
    let ps := (s.decStream d).pictures
    match ps.find? fun p => p.head.output && ps.all fun o => o = p || !o.head.output || !outBefore o p with
    | some p => if s.decDue d p then State.decPublishDue d n (s.decPublish d p) else s
    | none => s

/-- Publication of what is due. -/
def State.decFlush (s : State) (d : Nat) : State := (State.decPublishDue d ((s.decStream d).pictures.length) s).decShown d

/-! Closing and completion (R241, R245-R247). -/

/-- The lowest sub-unit of DEC_LOSS that applies to a picture (R248). -/
def lossOf (notReceived : Bool) (p : DecPicture) (partialDecode : Bool) : Option Nat :=
  if notReceived then some 0
  else if p.substituted then some 1
  else if !p.failed.isEmpty then some 2
  else if !partialDecode && p.head.hash = some false then some 3
  else none

/-- The reference of a picture that a POC names: its content, or that of the concealment reference where it is absent (R246); none: mid-grey
(R245). -/
def DecStream.refContent (x : DecStream) (c : Int) : Option Nat :=
  match x.refs.find? fun r => r.head.poc = c with
  | some r => some r.content
  | none => x.conceal.map (·.content)

/-- The picture being received is closed (R241): what was not received or failed is concealed (R245), absent references are substituted
(R246), and its content and cleanness are decided (R231, R247). -/
def State.decClose (s : State) (d : Nat) : State :=
  let x := s.decStream d
  match x.pictures.find? fun p => !p.closed with
  | some p =>
    let area := s.decodedArea d p.sps
    let missing := area.filter fun k => !p.got.contains k && !p.failed.contains k
    let concealed := area.filter fun k => !p.got.contains k
    let used := p.head.refs.map fun c => x.refs.find? fun r => r.head.poc = c
    let subst := used.any (·.isNone)
    let source := x.conceal.map fun c => (c.content, c.sps.depth)
    let p1 := { p with closed := true, concealed := concealed, source := source, substituted := subst,
                       content := Config.decodedPicture p.params p.data (p.head.refs.map x.refContent) concealed (source.map (·.1)) }
    let whole := concealed.isEmpty
    let chain := match p.head.recovery, x.chain with
      | some e, _ => some (e, whole)
      | none, some (e, w) => some (e, w && whole)
      | none, none => none
    let ends := match chain with | some (e, w) => w && e ≤ p.head.poc | none => false
    let late := match chain with | some (e, _) => !(p.head.poc < e) | none => false
    let clean := whole && !subst && (p.head.irap || (used.all fun r => match r with | some u => u.clean | none => false) || ends)
    let p2 := { p1 with clean := clean, data := [] }
    let x1 := { x with pictures := x.pictures.map fun o => if o.number = p.number then p2 else o,
                       refs := (x.refs.filter fun r => p.head.keep.contains r.head.poc) ++ [p2],
                       conceal := if clean then some p2 else x.conceal,
                       chain := if late then none else chain }
    let s1 := s.setDec d x1
    match lossOf (!missing.isEmpty) p1 (s.rdL (DEC d) Reg.DEC_DEC_CFG_PARTIAL = 1) with
    | some k => s1.occurF (DEC d) 0x21 k
    | none => s1
  | none => s

/-- Mark the pictures that the process of Annex C outputs. -/
def markDue (ps : List DecPicture) (l : List Int) : List DecPicture :=
  ps.map fun p => if l.contains p.head.poc then { p with due := true } else p

/-- DEC_PICTURE_COMPLETE (R241): the oldest closed picture finishes reconstruction and in-loop filtering. -/
def State.decComplete (s : State) (d : Nat) : State :=
  let x := s.decStream d
  match x.pictures.find? fun p => p.closed && !p.complete with
  | some p =>
    let p1 := { p with complete := true }
    let done' (o : DecPicture) : DecPicture := if o.number = p.number then { o with complete := true } else o
    let s1 := s.decWrite d p
    let x1 := { s1.decStream d with pictures := markDue ((x.pictures.map done').filter fun o => o.head.output || o.number ≠ p.number) p1.head.bumps,
                                    refs := x.refs.map done', conceal := x.conceal.map done' }
    let s2 := (s1.setDec d x1).decPlace d
    let late := s.decAlign d ≠ 0 && p.head.output && s.alignInstant d p.head.frame < s.tm.sys
    (if late then s2.occur (DEC d) 0x24 0 (p.head.frame % 2 ^ 48) else s2).decFlush d
  | none => s

/-! NAL units (R232, R240, R241). -/

/-- Codec, profile, level, depth, field coding and chroma format are among those of R231 and as latched; the chroma formats and depths of a
profile are those its name states (PRESUMED, log 86). -/
def decSupported (codec chroma : Nat) (v : DecSps) : Bool :=
  v.level ≤ 62 && v.chroma = chroma &&
    match v.profile with
    | .vvcMain10 => codec = 0 && chroma = 0 && 8 ≤ v.depth && v.depth ≤ 10
    | .vvcMain10Yuv444 => codec = 0 && chroma ≤ 2 && (v.depth = 8 || v.depth = 10)
    | .hevcMain => codec = 1 && !v.fieldSeq && chroma = 0 && v.depth = 8
    | .hevcMain10 => codec = 1 && !v.fieldSeq && chroma = 0 && 8 ≤ v.depth && v.depth ≤ 10
    | .hevcMain422Ten => codec = 1 && !v.fieldSeq && chroma ≤ 1 && 8 ≤ v.depth && v.depth ≤ 10
    | .other => false

/-- Sub-unit of DEC_FORMAT for which an SPS is refused (R231, R232, R238, R243). -/
def State.spsRefused (s : State) (d : Nat) (v : DecSps) : Option Nat :=
  let q := DEC d
  let g := decRegion s.rdL d
  let part := s.rdL q Reg.DEC_DEC_CFG_PARTIAL = 1
  let area := ((s.decSubpics d v).map fun p => p.2.2.1 * p.2.2.2).sum
  if v.width ≠ s.rdL q Reg.DEC_GEOMETRY_WIDTH || v.height ≠ s.rdL q Reg.DEC_GEOMETRY_HEIGHT then some 0
  else if !decSupported (s.rdL q Reg.DEC_DEC_CFG_CODEC) (s.rdL q Reg.DEC_DEC_CFG_CHROMA) v then some 1
  else if s.rdL q Reg.DEC_DEC_CFG_REFS < v.refs then some 2
  else if part && !v.treated then some 3
  else if part && 5 * g.2.2.1 * g.2.2.2 < 4 * area then some 4
  else if (s.decStream d).pipes.length = 2 && v.tileCols < 2 && v.subpicsAcross < 2 then some 5
  else none

/-- VUI_DIFFERS (R235): the active SPS signals a colour description other than the latched one. -/
def State.vuiDiffers (s : State) (d : Nat) : Bool :=
  match (s.decStream d).sps with
  | some v => (match v.vui with
    | some c => c ≠ (s.rdL (DEC d) Reg.DEC_DEC_CFG_COLORIMETRY, s.rdL (DEC d) Reg.DEC_DEC_CFG_TCS, s.rdL (DEC d) Reg.DEC_DEC_CFG_RANGE)
    | none => false)
  | none => false

/-- PAGE_STATUS shows VUI_DIFFERS. -/
def State.vuiShown (s : State) (d : Nat) : State := s.wr (DEC d) ⟨0xC, 5, 5⟩ (b2n (s.vuiDiffers d))

/-- The parameter sets that a stream holds, with the next ones. -/
def State.decParams (s : State) (d : Nat) (l : List Nat) : State :=
  let x := s.decStream d
  s.setDec d { x with params := Config.parameterSets x.params l }

/-- A new SPS is activated. -/
def State.decActivate (s : State) (d : Nat) (v : DecSps) : State :=
  let x := s.decStream d
  let bad := s.spsRefused d v
  let s1 := s.setDec d { x with sps := some v, refused := bad, params := Config.parameterSets x.params [v.id] }
  let s2 := (s1.wr (DEC d) ⟨0xC, 4, 4⟩ (b2n bad.isSome)).vuiShown d
  match bad with
  | some k => if x.sps = some v then s2 else s2.occurF (DEC d) 0x22 k
  | none => s2

/-- The pictures that Annex C removes without output as a picture begins give up their slots. -/
def State.decRemove (s : State) (d : Nat) (l : List Int) : State :=
  let x := s.decStream d
  let gone := x.pictures.filter fun p => p.complete && !p.due && l.contains p.head.poc
  let s1 := s.setDec d { x with pictures := x.pictures.filter fun p => !gone.contains p }
  s1.each (gone.filterMap (·.slot)) fun t k => t.setFilling (x.ring.surface k).1 (x.ring.surface k).2 false

/-- A picture begins (R92, R240, R241, R247): an access unit lost before it breaks a recovery chain (DESIGN CHOICE, log 86); a picture that is
never output takes no slot. DESIGN CHOICE (log 85): DEC_NO_SURFACE counts in NO_SURFACE_TOTAL as INGEST_NO_SURFACE does. -/
def State.decBegin (s : State) (d : Nat) (v : DecSps) (h : DecHeader) : State :=
  let x0 := s.decStream d
  let epoch := if h.cvs then x0.epoch + 1 else x0.epoch
  let lost : Bool := match x0.lastAu with | some a => h.au ≠ a + 1 | none => false
  let x1 := { x0 with begun := true, epoch := epoch, next := x0.next + 1, lastAu := some h.au,
                      refs := x0.refs.filter fun r => h.keep.contains r.head.poc || h.refs.contains r.head.poc,
                      chain := if lost then x0.chain.map fun c => (c.1, false) else x0.chain,
                      pictures := markDue x0.pictures h.outputs }
  let s0 := ((s.setDec d x1).decRemove d h.removes).decPlace d
  let x := s0.decStream d
  let p : DecPicture := { number := x0.next, epoch := epoch, head := h, sps := v, params := x0.params }
  if !h.output then s0.setDec d { x with pictures := x.pictures ++ [p] }
  else
    match s0.chooseSlot x.ring with
    | some (k, reuse) =>
      let s1 := (s0.setDec d { x with ring := { x.ring.begin k with fill := none }, marked := sdel k x.marked,
                                      pictures := x.pictures ++ [{ p with slot := some k }] }).setFilling
        (x.ring.surface k).1 (x.ring.surface k).2 true
      let s2 := if reuse then ((s1.occurF (DEC d) 0x20 k).inc LEASE Reg.LEASE_NO_SURFACE_TOTAL).wr (DEC d) Reg.DEC_DEC_STATE_VALID 0
        else s1
      s2.wr (DEC d) ⟨0xC, 3, 3⟩ 0
    | none =>
      let s1 := s0.setDec d { x with pictures := x.pictures ++ [p] }
      ((s1.occurF (DEC d) 0x20 0xFF).inc LEASE Reg.LEASE_NO_SURFACE_TOTAL).wr (DEC d) ⟨0xC, 3, 3⟩ 1

/-- The picture that a stream is receiving. -/
def DecStream.open' (x : DecStream) : Option DecPicture := x.pictures.find? fun p => !p.closed

/-- The CTUs of a slice join the picture being received; it closes once its decoded area is covered. -/
def State.decSlice (s : State) (d au : Nat) (ctus : List Nat) (parsed : Bool) (data : List Byte) : State :=
  let x := s.decStream d
  match x.open' with
  | some p =>
    if p.head.au ≠ au then s
    else
      let area := s.decodedArea d p.sps
      let mine := ctus.filter area.contains
      let p1 := if mine.isEmpty then p
        else if parsed then { p with got := mine.foldl (fun l k => sins k l) p.got, data := tins (ctus.headD 0) data p.data }
        else { p with failed := mine.foldl (fun l k => sins k l) p.failed }
      let s1 := s.setDec d { x with pictures := x.pictures.map fun o => if o.number = p.number then p1 else o }
      if area.all fun k => p1.got.contains k || p1.failed.contains k then s1.decClose d else s1
  | none => s

/-- A NAL unit of a later access unit closes the picture being received (rule 2 of R241). -/
def State.decLater (s : State) (d au : Nat) : State :=
  match (s.decStream d).open' with
  | some p => if p.head.au < au then s.decClose d else s
  | none => s

/-- The picture of an access unit may begin: the stream has begun or begins with it (R240), and neither it nor a later one has begun before
(R242). -/
def State.decStarts (s : State) (d : Nat) (h : DecHeader) : Bool :=
  let x := s.decStream d
  (x.begun || h.irap || (h.gdr && s.rdL (DEC d) Reg.DEC_DEC_CFG_CODEC = 0)) &&
    (match x.lastAu with | some a => a < h.au | none => true)

/-- A NAL unit reaches a decode stream (R241): NO_INPUT falls; a stream that is not enabled, refused or not begun discards what it may not
decode. -/
def State.decNal (s0 : State) (d : Nat) (n : DecNal) : State :=
  if !(s0.decStream d).running then s0
  else
    let s := s0.wr (DEC d) ⟨0xC, 0, 0⟩ 0
    match n with
    | .sps au v => (s.decLater d au).decActivate d v
    | .params au data => ((s.decLater d au).decParams d (data.map (·.toNat))).decShown d
    | .other au => (s.decLater d au).decShown d
    | .slice h ctus parsed data =>
      let s1 := s.decLater d h.au
      let x := s1.decStream d
      match x.sps, x.refused with
      | some v, none =>
        let s2 := if x.open'.isNone && s1.decStarts d h then s1.decBegin d v h else s1
        (s2.decSlice d h.au ctus parsed data).decFlush d
      | _, _ => s1.decShown d

/-- DEC_PICTURE_TIMEOUT (R241 rule 3): no NAL unit for 1.5 picture periods. -/
def execDecPictureTimeout (d : Nat) (s : State) : Host.Outcome State Fault Refusal := live s ((s.decClose d).decShown d)

/-- DEC_PICTURE_COMPLETE (R241). -/
def execDecPictureComplete (d t : Nat) (s : State) : Host.Outcome State Fault Refusal := live s ((s.advance t).decComplete d)

/-- DEC_ALIGN_PUBLISH (R234): the instant of a complete picture has come. -/
def execDecAlignPublish (d t : Nat) (s : State) : Host.Outcome State Fault Refusal := live s ((s.advance t).decFlush d)

/-- DEC_NO_INPUT (R248): no NAL unit for 2 picture periods. -/
def execDecNoInput (d : Nat) (s : State) : Host.Outcome State Fault Refusal :=
  live s (if (s.decStream d).running then s.wr (DEC d) ⟨0xC, 0, 0⟩ 1 else s)

/-! Latches (R93, R237, R240). -/

/-- The layers that read a stream have read none of the pictures that come after a restart. -/
def State.forgetReads (s : State) (d : Nat) : State :=
  s.each ((s.cmp.layers.map (·.1)).filter fun l => s.rdL (LAYER l) Reg.LAYER_LAYER_CFG_SOURCE = 1 && s.rdL (LAYER l) Reg.LAYER_LAYER_CFG_STREAM = d)
    fun t l => t.setLay l { t.lay l with read := none }

/-- A stream's ring stops: its pictures are abandoned, VALID, NEWEST_CONCEALED and FILLING fall, its entries go or are RETIRED. -/
def State.decStop (s : State) (d : Nat) : State :=
  let x := s.decStream d
  let s1 := (s.leaseDropRing 2 d).forgetReads d
  let s2 := s1.setDec d { grant := x.grant, demand := x.demand, pipes := x.pipes }
  (((s2.wr (DEC d) Reg.DEC_DEC_STATE_VALID 0).wr (DEC d) Reg.DEC_DEC_STATE_NEWEST_CONCEALED 0).wr (DEC d) Reg.DEC_DEC_STATE_FILLING 0).wr
    (DEC d) ⟨0xC, 5, 0⟩ 0

/-- The latched values with which a stream starts its ring and decodes. -/
def State.decWords (s : State) (d : Nat) : List Nat := decBase s.rdL d :: decGrant s.rdL d

/-- A stream starts with its latched values: ring, protected reference entries, WAITING. -/
def State.decStart (s0 : State) (d : Nat) : State :=
  let s := s0.decStop d
  let b := s.decSurface d
  let n := s.rdL (DEC d) Reg.DEC_DEC_CFG_SLOTS
  let r : Ring := { base := decBase s.rdL d, slotBytes := b, slots := n }
  let s1 := s.setDec d { s.decStream d with ring := r, running := true, cfg := s.decWords d }
  let s2 := { s1 with areas := tins (128 + d) ((r.base + n * b) / 65536, ((decArea s.rdL d).2 - n * b) / 65536) s1.areas }
  (s2.each (List.range n) fun t k => t.leaseEnter (r.surface k).1 (r.surface k).2 2 d).wr (DEC d) ⟨0xC, 1, 1⟩ 1

/-- The latch of a raster with a layer that reads the stream (R235, R240, R242): what is due is published first; changed values start the
ring afresh (R93). -/
def State.decLatched (s : State) (d : Nat) : State :=
  let x := s.decStream d
  let on := s.enabledL (DEC d)
  if on && (!x.running || x.cfg ≠ s.decWords d) then (if x.running then s.decFlush d else s).decStart d
  else if !on && x.running then
    let t := (s.decFlush d).decStop d
    if x.grant.isNone then { t with dec := tdel d t.dec } else t
  else if x.running then s.vuiShown d
  else s

end Sys2Proof.Machine
end

