-- ==== Sys2Proof/Machine/Tile.lean ====
section
/-!
DEFINITION. The tile link (12_tile_link.md R279-R303): blocks and their scrambling, packets of a raster's frame, idle framing, the return
channel, chain lengths and cable faults.
-/

namespace Sys2Proof.Machine

/-- The ownership epoch that outputs carry: EPOCH of the MATE page while it is enabled, else OWN_EPOCH of the FAB page
(17_redundancy.md R396). -/
def State.ownEpoch (s : State) : Nat := if s.enabled MATE then s.rd MATE Reg.MATE_EPOCH else s.rd ⟨.fab, 0⟩ Reg.FAB_OWN_EPOCH

/-! CRC-32C (R281). -/

/-- One bit of the reflected CRC-32C. -/
def crc32cBit (c : Nat) : Nat := if c.testBit 0 then (c / 2) ^^^ 0x82F63B78 else c / 2

/-- One byte. -/
def crc32cByte (c b : Nat) : Nat := (List.range 8).foldl (fun a _ => crc32cBit a) (c ^^^ (b % 256))

/-- CRC-32C of bytes. -/
def crc32c (l : List Nat) : Nat := (l.foldl crc32cByte 0xFFFFFFFF) ^^^ 0xFFFFFFFF

/-- `n` bytes of a number, least significant first. -/
def bytesOf (n v : Nat) : List Nat := (List.range n).map fun k => v / 256 ^ k % 256

/-! Blocks and the scrambler (R279-R281). -/

/-- The bits of a byte in wire order, least significant first; the byte of such bits. -/
def byteBits (b : Nat) : List Bool := (List.range 8).map b.testBit
def bitsByte (l : List Bool) : Nat := (l.zipIdx.map fun e => b2n e.1 <<< e.2).sum

/-- What x⁵⁸ + x³⁹ + 1 adds to the next bit: `st` holds the last 58 scrambled bits, the newest in bit 0 (R279). -/
def scramTap (st : Nat) : Bool := xor (st.testBit 38) (st.testBit 57)

/-- One bit through the scrambler, and through the descrambler: the state after it and the bit. -/
def scrambleBit (st : Nat) (b : Bool) : Nat × Bool :=
  let o := xor b (scramTap st)
  ((2 * st + b2n o) % 2 ^ 58, o)
def descrambleBit (st : Nat) (b : Bool) : Nat × Bool := ((2 * st + b2n b) % 2 ^ 58, xor b (scramTap st))

/-- Bits one after another through `f`. -/
def throughBits (f : Nat → Bool → Nat × Bool) (st : Nat) : List Bool → Nat × List Bool
  | [] => (st, [])
  | b :: l => ((throughBits f (f st b).1 l).1, (f st b).2 :: (throughBits f (f st b).1 l).2)

/-- Payload bytes one after another through `f`, byte 0 first. -/
def throughBytes (f : Nat → Bool → Nat × Bool) (st : Nat) : List Nat → Nat × List Nat
  | [] => (st, [])
  | b :: l =>
    let r := throughBits f st (byteBits b)
    let q := throughBytes f r.1 l
    (q.1, bitsByte r.2 :: q.2)

/-- Blocks one after another through `f`; sync headers pass as they are. -/
def throughBlocks (f : Nat → Bool → Nat × Bool) (st : Nat) : List TileBlock → Nat × List TileBlock
  | [] => (st, [])
  | b :: l =>
    let r := throughBytes f st b.bytes
    let q := throughBlocks f r.1 l
    (q.1, { b with bytes := r.2 } :: q.2)

/-- The payload blocks of a packet: 8 bytes each. -/
def payloadBlocks : Nat → List Nat → List TileBlock
  | 0, _ => []
  | n + 1, l => { sync := 1, bytes := (List.range 8).map fun k => l.getD k 0 } :: payloadBlocks n (l.drop 8)

/-- CRC of a packet: over bytes 1-7 of START, G and the payload (R281). -/
def packetCrc (h g : Nat) (payload : List Nat) : Nat := crc32c (bytesOf 7 h ++ bytesOf 8 g ++ payload)

/-- An IDLE block (R280). -/
def idleBlock : TileBlock := { sync := 2, bytes := 0x1E :: bytesOf 7 0 }

/-- The blocks of a packet before scrambling: START, G, the payload and END (R280, R281). -/
def packetBlocks (h g : Nat) (payload : List Nat) : List TileBlock :=
  { sync := 2, bytes := 0x78 :: bytesOf 7 h } :: { sync := 1, bytes := bytesOf 8 g } ::
    (payloadBlocks (cdiv payload.length 8) payload ++ [{ sync := 2, bytes := 0x87 :: bytesOf 7 (packetCrc h g payload) }])

/-! Packets from Azloth (R282-R285). -/

/-- Bits of a value, most significant first. -/
def bitsMsb (n v : Nat) : List Bool := (List.range n).map fun k => v.testBit (n - 1 - k)

/-- Bytes of a bit stream, first bit in bit 7, padded with zeros; `n` bytes. -/
def packBits : Nat → List Bool → List Nat
  | 0, _ => []
  | n + 1, l => ((List.range 8).map fun k => if l.getD k false then 2 ^ (7 - k) else 0).sum :: packBits n (l.drop 8)

/-- The LINE packet of local line `v` of an entry, with its pixels from left to right (R282, R283). -/
def linePacket (e : TileEntry) (v frame start : Nat) (pixels : List Rgb) : Framing :=
  let d := depthBits e.depth
  let bs := pixels.flatMap fun p => bitsMsb d p.1 ++ bitsMsb d p.2.1 ++ bitsMsb d p.2.2
  { start := start, lane := e.lane, g := 0, payload := packBits (8 * cdiv (e.w * 3 * d) 64) bs
    h := e.chain <<< 4 ||| e.region <<< 8 ||| (v % 4096) <<< 16 ||| ((e.w - 1) % 4096) <<< 28 ||| e.depth <<< 40 ||| (frame % 256) <<< 48 }

/-- A BEAT packet (R284). `period` is in whole ns. -/
def beatPacket (lane : Nat) (idle : Bool) (hold frame start period : Nat) : Framing :=
  { start := start, lane := lane, h := 1 ||| b2n idle <<< 9 ||| (hold % 256) <<< 16 ||| (frame % 256) <<< 48
    g := (period % 2 ^ 32) <<< 16, payload := [] }

/-- A SHOW packet (R285). -/
def showPacket (lane hop delay frame start : Nat) : Framing :=
  { start := start, lane := lane, h := 2 ||| (hop % 512) <<< 16 ||| (frame % 256) <<< 48, g := (delay % 65536) <<< 16, payload := [] }

/-! Framing (R252, R281, R288). -/

/-- From the instant of a line to that at which its packets enter framing: 1.20 µs (R252). The wait for the next cycle of the scan island
before it, less than 1.12 ns, is left out (assumption log 53). -/
def framingDelay : Nat := ns 1200

/-- A packet waits for its instant, after those of the same instant or earlier. -/
def State.frameIn (s : State) (p : Framing) : State :=
  { s with scn := { s.scn with
      framing := s.scn.framing.takeWhile (fun q => q.start ≤ p.start) ++ p :: s.scn.framing.dropWhile fun q => q.start ≤ p.start } }

/-- Time that blocks take on a lane, in SYSTIME units (R279, R304). -/
def State.blocksTime (s : State) (n blocks : Nat) : Nat := blocks * 66 * 1000000000 * 65536 / max 1 (tileRate (s.rd (TL n) Reg.TL_LANE_CFG_RATE))

/-- A packet goes onto its lane with the epoch of its START (R288), scrambled: before a lane's first packet the scrambler's state is a free
value, and so is the number of IDLE blocks since the last packet (R279, R281; assumption log 53). -/
def State.framed (s : State) (epoch : Nat) (p : Framing) : State :=
  let l := s.tlane p.lane
  let st := match l.scrambler with
    | none => s.free 58
    | some v => (throughBlocks scrambleBit v (List.replicate (s.free 32) idleBlock)).1
  let g := p.g ||| epoch % 65536
  let blocks := packetBlocks p.h g p.payload
  let wire := throughBlocks scrambleBit st blocks
  let new : TileLane := { l with scrambler := some wire.1, busy := max p.start l.busy + s.blocksTime p.lane blocks.length, blocks := blocks.length }
  let s3 := (s.drawn.setTlane p.lane new).emit (.tile p.lane p.h g p.payload (packetCrc p.h g p.payload) wire.2)
  if p.h % 16 = 0 then s3.inc (TILE (p.lane / 448)) Reg.TILE_PKT_SENT else s3

/-- Of the packets whose lane `on` names, those whose START entered framing before now have left with `epoch`, which was in force till now: a
change of the epoch calls this first, and one in the cycle of a START comes before it (R288). A START waits for the END before it. -/
def State.frameOutAs (s : State) (epoch : Nat) (on : Nat → Bool) : State :=
  ({ s with scn := { s.scn with framing := [] } }).each s.scn.framing fun t p =>
    if on p.lane && max p.start (t.tlane p.lane).busy < t.tm.sys then t.framed epoch p
    else { t with scn := { t.scn with framing := t.scn.framing ++ [p] } }
def State.frameOut (s : State) : State := s.frameOutAs s.ownEpoch fun _ => true

/-- The transmitter of a lane stops (R299, R300, R308): the packet in framing is cut off, and those that wait are discarded. -/
def State.laneCut (s : State) (n : Nat) : State :=
  let t := s.frameOutAs s.ownEpoch fun k => k = n
  let l := t.tlane n
  let v := { t with scn := { t.scn with framing := t.scn.framing.filter fun p => p.lane ≠ n } }
  let u := v.setTlane n { l with busy := min l.busy t.tm.sys }
  if l.busy ≤ t.tm.sys then u else u.emit (.tileCut n (l.blocks - cdiv (l.busy - t.tm.sys) (max 1 (t.blocksTime n 1))))

/-! Lanes. -/

/-- The transmitter of a tile lane sends what the tile link gives it (R308, R312, R313). -/
def State.laneSends (s : State) (n : Nat) : Bool :=
  !s.isDim && s.enabled (TL n) && 2 ≤ s.rd (TL n) Reg.TL_LANE_STATE_PHASE && s.rd (TL n) Reg.TL_LANE_CTL_PRBS_TX = 0 &&
    s.rd (TL n) Reg.TL_LANE_CTL_LOOPBACK ≠ 3

/-- The fault code that a lane shows: the lowest of the causes that hold (R298). -/
def TileLane.fault (l : TileLane) : Nat := (leastOf l.causes).getD 0

/-- The lane is out of service (R299). -/
def TileLane.isOut (l : TileLane) : Bool := 1 ≤ l.fault && l.fault ≤ 4

/-- Packets of the lane leave: it sends, and its transmitter is not high-impedance. -/
def State.laneDrives (s : State) (n : Nat) : Bool := s.laneSends n && !(s.tlane n).isOut

/-- LINE and SHOW packets of frame `f` leave on the lane: not in a loopback (R312), not waiting to rejoin (R299), not muted (R73). -/
def State.laneCarries (s : State) (n f : Nat) : Bool :=
  s.laneDrives n && s.rd (TL n) Reg.TL_LANE_CTL_LOOPBACK = 0 && !(s.tlane n).rejoin && !s.mutedFor f

/-- A lane's latest BEAT is answered by the reports of chain positions; at its next BEAT the chain length is decided, and
the ages of its kept reports advance (R290, R301, R303). `far` is the furthest CHAIN that an enabled entry names. -/
def State.laneBeat (s : State) (n frame : Nat) (far : Option Nat) : State :=
  let l := s.tlane n
  let len := l.answered.length
  let chain := if l.beat.isNone then l.chain else len
  let short := match far with | some f => if chain ≤ f then l.short + 1 else 0 | none => 0
  let aged := l.reports.map fun e => (e.1, { e.2 with age := min 0xFFFF (e.2.age + 1) })
  let s1 := s.setTlane n { l with reports := aged, beat := some (frame % 256), answered := [], chain := chain, short := short }
  if chain ≠ l.chain then s1.occur (TILE (n / 448)) 0x22 chain (n <<< 32 ||| s.frameNo % 2 ^ 32) else s1

/-- The values of a raster's TILE page as latched: SHOW_DELAY_NS, HOP_NS, HOLD_FRAMES. -/
def State.tileCfg (s : State) (r : Nat) : Nat × Nat × Nat :=
  let l := (s.ras r).tileCfg
  (l.getD 0 0 % 65536, bits (l.getD 0 0) 24 16, l.getD 1 0 % 256)

/-- Step 1 of R286 on every lane of a raster, before its LINE packets: a BEAT, with IDLE 1 for idle framing (R287). -/
def State.rasterBeats (s : State) (r : Nat) (t : FrameTiming) (idle : Bool) : State :=
  let es := s.entriesL r
  s.each (lanesOf es) fun u n =>
    let far := (es.filter fun e => e.lane = n).foldl (fun m e => max m e.chain) 0
    let u0 := u.setTlane n { u.tlane n with rejoin := false }
    let u1 := u0.laneBeat n t.frame (if idle then none else some far)
    if u1.laneDrives n then
      u1.frameIn (beatPacket n (idle || u1.mutedFor t.frame || u1.rd (TL n) Reg.TL_LANE_CTL_LOOPBACK ≠ 0) (u1.tileCfg r).2.2 t.frame
        (u1.tm.sys + framingDelay) (t.period / 65536))
    else u1

/-- The LINE packets of line `y` of a raster's frame (R286): every enabled entry that covers it, in ascending index. -/
def State.rasterLine (s : State) (r y : Nat) (c : Composed) : State :=
  s.each ((s.entriesL r).filter fun e => e.y ≤ y && y < e.y + e.h) fun u e =>
    if u.laneCarries e.lane c.frame then
      u.frameIn (linePacket e (y - e.y) c.frame (u.tm.sys + framingDelay) ((List.range e.w).map fun i => u.wirePixel r c e (e.x + i) y))
    else u

/-- SHOW on every lane of a raster (R286 step 3). -/
def State.rasterShow (s : State) (r frame : Nat) : State :=
  let cfg := s.tileCfg r
  s.each (lanesOf (s.entriesL r)) fun u n =>
    if u.laneCarries n frame then u.frameIn (showPacket n cfg.2.1 cfg.1 frame (u.tm.sys + framingDelay)) else u

/-- The frame that a raster scans out. -/
def State.showing (s : State) (r : Nat) : Nat := match (s.ras r).scan with | some (t, _) => t.frame | none => s.tm.frame

/-- The lanes named by an enabled entry of a raster that is running or starting. -/
def State.rasterLanes (s : State) : List Nat :=
  lanesOf (((List.range 32).filter fun r => (s.ras r).scan.isSome).flatMap fun r => s.entriesL r)

/-- Idle framing of the other lanes: a BEAT 1.20 µs after each beat boundary (R287). -/
def State.idleBeats (s : State) : State :=
  let used := s.rasterLanes
  let period := (beatStart s.tm.rate (s.tm.frame + 1) - beatStart s.tm.rate s.tm.frame) / 65536
  s.each ((List.range 896).filter fun n => s.laneDrives n && !used.contains n) fun u n =>
    let hold := u.rd (TILE (n / 448)) Reg.TILE_HOLD_CFG_HOLD_FRAMES
    let u1 := u.setTlane n { u.tlane n with rejoin := false }
    (u1.laneBeat n u.tm.frame none).frameIn (beatPacket n true hold u.tm.frame (u.tm.sys + framingDelay) period)

/-! Return channel (R289, R290, R303). -/

/-- A packet of the return direction is discarded: invalid, or of a reserved TYPE (R290). An invalid one also counts for its lane (R301). -/
def State.reportBad (s : State) (n : Nat) (invalid : Bool) : State :=
  let l := s.tlane n
  (if invalid then s.setTlane n { l with bad := (l.bad + 1) % 65536 } else s).inc (TILE (n / 448)) Reg.TILE_REPORTS_BAD

/-- The fields of a REPORT's header words (R289). -/
def reportOf (h g : Nat) : TileReport :=
  { temp := bits h 31 16, frame := bits h 55 48, inverted := bit h 8, geometry := bit h 9, overtemp := bit h 10, crcErrors := bits h 47 32,
    highEpoch := bits g 15 0, vendor := bits g 31 16 }

/-- A report for chain position `pos` of lane `n` has arrived: the thermal entries that it feeds are stale no more (R270, R271). -/
def State.reportFeeds (s : State) (n pos : Nat) : State :=
  s.each ((List.range 32).filter fun r => (s.ras r).scan.isSome) fun t r =>
    let fed := (t.thermalEntries r).filter fun e => e.2.lane = n && e.2.chain = pos
    ({ t with scn := { t.scn with stale := t.scn.stale.filter fun i => !(fed.any fun e => e.1 = i) } }).showStale r

/-- A valid packet of the return direction with header words H and G: a REPORT is kept as the latest of its lane and position, and answers
the lane's latest BEAT (R289, R290, R303). -/
def State.reportIn (s : State) (n h g : Nat) : State :=
  if h % 16 ≠ 8 then s.reportBad n false
  else
    let l := s.tlane n
    let pos := bits h 7 4
    let rep := reportOf h g
    let old := tfind l.reports pos
    let wasG := match old with | some o => o.geometry | none => false
    let wasO := match old with | some o => o.overtemp | none => false
    let ans := if l.beat = some rep.frame then sins pos l.answered else l.answered
    let s1 := (s.setTlane n { l with reports := tins pos rep l.reports, answered := ans }).inc (TILE (n / 448)) Reg.TILE_REPORTS_RX
    let s2 := if (rep.geometry && !wasG) || (rep.overtemp && !wasO) then s1.occur (TILE (n / 448)) 0x23 pos (n <<< 32 ||| s.frameNo % 2 ^ 32)
      else s1
    s2.reportFeeds n pos

/-- The number that bytes give, the least significant first. -/
def numOf : List Nat → Nat
  | [] => 0
  | b :: l => b + 256 * numOf l

/-- The END of an arriving packet, with bytes 1-4 of it (R281): the packet is valid where no block of it was invalid, a REPORT or reserved
type has the one data block G, and the CRC matches. -/
def State.packetEnd (s : State) (n : Nat) (p : RxPacket) (crc : Nat) : State :=
  if !p.spoilt && p.data.length = 8 && crc32c (p.header ++ p.data) = crc then s.reportIn n (numOf p.header) (numOf p.data)
  else s.reportBad n true

/-- A descrambled block of the return direction (R280, R281). Outside a packet only START matters; an IDLE block inside one is neither
invalid nor a data block (assumption log 53). -/
def State.blockIn (s : State) (n : Nat) (b : TileBlock) : State :=
  let l := s.tlane n
  let put (t : State) (p : Option RxPacket) : State := t.setTlane n { t.tlane n with open' := p }
  let spoil (p : RxPacket) : RxPacket := { p with spoilt := true }
  match b.sync, b.bytes with
  | 1, bs => put s (l.open'.map fun p => { p with data := p.data ++ bs })
  | 2, 0x78 :: bs => put (if l.open'.isSome then s.reportBad n true else s) (some { header := bs })
  | 2, 0x87 :: bs => match l.open' with | some p => (put s none).packetEnd n p (numOf (bs.take 4)) | none => s
  | 2, 0x1E :: _ => s
  | _, _ => put s (l.open'.map spoil)

/-- Blocks of the return direction reach Azloth on a lane. Out of lock, out of service, disabled or in a loopback nothing of the far end is
received. -/
def State.tileReturn (s : State) (n : Nat) (bs : List TileBlock) : State :=
  let l := s.tlane n
  if s.rd (TL n) Reg.TL_LANE_CTL_LOOPBACK ≠ 0 || s.rd (TL n) Reg.TL_LANE_STATE_BLOCK_LOCK = 0 || !s.enabled (TL n) || l.isOut then s
  else
    let r := throughBlocks descrambleBit l.descrambler bs
    (s.setTlane n { l with descrambler := r.1 }).each r.2 fun t b => t.blockIn n b

/-- TILE_REPORT_RECEIVED (R290): blocks of the return direction arrive on tile lane `n`. -/
def execTileReportReceived (n : Nat) (bs : List TileBlock) (s : State) : Host.Outcome State Fault Refusal := live s (s.tileReturn n bs)

/-! Cable faults (R298-R301, R303). -/

/-- Detail of a tile lane's record. -/
def State.laneDetail (s : State) (n : Nat) : Nat := n <<< 32 ||| s.frameNo % 2 ^ 32

/-- The causes of a lane's cable fault change: the code shown follows, and a code that appears or clears is recorded. -/
def State.setCauses (s : State) (n : Nat) (causes : List Nat) : State :=
  let l := s.tlane n
  let q := TILE (n / 448)
  let new : TileLane := { l with causes := causes }
  let back := l.isOut && !new.isOut
  let s0 := if !l.isOut && new.isOut then s.laneCut n else s
  let s1 := s0.setTlane n { s0.tlane n with causes := causes, rejoin := l.rejoin || back }
  let s2 := if l.fault ≠ 0 && !causes.contains l.fault then s1.occur q 0x21 l.fault (s.laneDetail n) else s1
  if new.fault ≠ 0 && new.fault ≠ l.fault then s2.occur q 0x20 new.fault (s.laneDetail n) else s2

/-- CABLE_FAULT_DETECT (R298): causes begin on an enabled lane; NO_RETURN only in loss of signal while its transmitter is in service. -/
def State.cableDetect (s : State) (n : Nat) (codes : List Nat) : State :=
  let l := s.tlane n
  let ok := codes.filter fun c => 1 ≤ c && c ≤ 7 && (c ≠ 6 || (s.laneDrives n && s.rd (TL n) Reg.TL_LANE_STATE_LOS = 1))
  if s.enabled (TL n) then s.setCauses n (ok.foldl (fun a c => sins c a) l.causes) else s

/-- CABLE_FAULT_DETECT (R298). -/
def execCableFaultDetect (n : Nat) (codes : List Nat) (s : State) : Host.Outcome State Fault Refusal := live s (s.cableDetect n codes)

/-- A retry of an out-of-service lane (R299): causes 1-4 that the test no longer finds clear. -/
def State.cableRetry (s : State) (n : Nat) (found : List Nat) : State :=
  let l := s.tlane n
  if l.isOut then s.setCauses n (l.causes.filter fun c => 4 < c || found.contains c) else s

/-- CABLE_RETRY (R299): the test finds the causes of `found`. -/
def execCableRetry (n : Nat) (found : List Nat) (s : State) : Host.Outcome State Fault Refusal := live s (s.cableRetry n found)

/-- CABLE_FAULT_CLEARS (R299): a cause has been absent long enough. -/
def execCableFaultClears (n code : Nat) (s : State) : Host.Outcome State Fault Refusal :=
  live s (if (s.tlane n).causes.contains code then s.setCauses n (sdel code (s.tlane n).causes) else s)

/-- TILE_LANE_RETRY (R301): LANE_CTL.RETRY on the indexed lane; a LANE above 447 does nothing. -/
def State.tileRetry (s : State) (x : Nat) (found : List Nat) : State :=
  let l := s.rd (TILE x) Reg.TILE_LANE_INDEX_LANE
  if l < 448 then s.cableRetry (448 * x + l) found else s

/-! Read-only registers of the TILE page (R301). -/

/-- A word of the indexed registers of a TILE page. -/
def State.tileWord (s : State) (x off : Nat) : Nat :=
  let l := s.rd (TILE x) Reg.TILE_LANE_INDEX_LANE
  let pos := s.rd (TILE x) Reg.TILE_LANE_INDEX_POS
  if 448 ≤ l then 0
  else
    let n := 448 * x + l
    let t := s.tlane n
    match off, tfind t.reports pos with
    | 0x4C, _ => t.fault ||| s.rd (TL n) Reg.TL_LANE_STATE_BLOCK_LOCK <<< 3 ||| t.chain <<< 4 ||| t.bad <<< 16
    | _, none => 0
    | 0x50, some r => r.temp ||| r.frame <<< 16 ||| b2n r.inverted <<< 24 ||| b2n r.geometry <<< 25 ||| b2n r.overtemp <<< 26 ||| 1 <<< 27
    | 0x54, some r => r.crcErrors ||| r.highEpoch <<< 16
    | 0x58, some r => r.vendor ||| r.age <<< 16
    | _, _ => 0

/-- The lanes of a chiplet that are not at rest. -/
def State.chipLanes (s : State) (x : Nat) : List (Nat × TileLane) := s.scn.lanes.filter fun e => e.1 / 448 = x

/-- FAULT_SUMMARY. -/
def State.faultSummary (s : State) (x : Nat) : Nat :=
  match (s.chipLanes x).filter fun e => e.2.fault ≠ 0 with
  | [] => 0
  | e :: t => (t.length + 1) ||| (e.1 % 448) <<< 16

/-- IDLE_LANES: lanes that drive and carry idle framing now. -/
def State.idleLanes (s : State) (x : Nat) : Nat :=
  let used := ((List.range 32).filter fun r => s.rd (SCAN r) Reg.SCAN_RG_STATE_RUNNING = 1).flatMap fun r =>
    (lanesOf (s.entriesL r)).filter fun n => s.laneCarries n (s.showing r)
  ((List.range 448).filter fun l => s.laneDrives (448 * x + l) && !used.contains (448 * x + l)).length

/-- TEMP_MAX: the highest TEMP among kept reports, its lane and position; the first in lane and position order of equals. -/
def State.tempMax (s : State) (x : Nat) : Nat :=
  let all := (s.chipLanes x).flatMap fun e => e.2.reports.map fun r => (sgn 16 r.2.temp, e.1 % 448, r.1, r.2.temp)
  match all with
  | [] => 0
  | a :: t =>
    let m := t.foldl (fun b c => if b.1 < c.1 then c else b) a
    m.2.2.2 ||| m.2.1 <<< 16 ||| m.2.2.1 <<< 25

/-- The check of R302 on a TILE page. -/
def tileChecks (v : Values) (x : Nat) : List Charge :=
  let q := TILE x
  charge1 q (500 < v q Reg.TILE_SHOW_CFG_HOP_NS || v q Reg.TILE_SHOW_CFG_SHOW_DELAY_NS < 16 * v q Reg.TILE_SHOW_CFG_HOP_NS + 1000) 0x01

end Sys2Proof.Machine
end

