-- ==== Sys2Proof/Machine/Lanes.lean ====
section
/-!
DEFINITION. Serial lanes (13_serial_lanes.md R304-R318): bring-up, signal detection, adaptation, loopbacks and the checks of
a commit.
-/

namespace Sys2Proof.Machine

/-- The page of a lane, wide or tile. -/
def lanePage (wide : Bool) (n : Nat) : Page := if wide then WL n else TL n

/-- Field of LANE_STATE that both kinds of lane have. -/
def laneState (wide : Bool) (hi lo : Nat) : Field := ⟨if wide then 0x4C else 0x48, hi, lo⟩

/-- PHASE of a lane: 0 OFF, 1 PLL, 2 ACQUIRE, 3 ADAPT, 4 IN_SERVICE. -/
def State.phase (s : State) (wide : Bool) (n : Nat) : Nat := s.rd (lanePage wide n) (laneState wide 2 0)
def State.setPhase (s : State) (wide : Bool) (n v : Nat) : State := s.wr (lanePage wide n) (laneState wide 2 0) v

/-- LOS, LOL. -/
def State.los (s : State) (wide : Bool) (n : Nat) : Bool := s.rd (lanePage wide n) (laneState wide 3 3) = 1
def State.lol (s : State) (wide : Bool) (n : Nat) : Bool := s.rd (lanePage wide n) (laneState wide 4 4) = 1

/-- LANE_CTL of a lane: LOOPBACK, ADAPT_FREEZE. -/
def laneCtl (wide : Bool) (hi lo : Nat) : Field := ⟨if wide then 0x48 else 0x44, hi, lo⟩
def State.loopback (s : State) (wide : Bool) (n : Nat) : Nat := s.rd (lanePage wide n) (laneCtl wide 1 0)

/-- Hidden state of a lane. -/
def serialKey (wide : Bool) (n : Nat) : Nat := if wide then n else 128 + n
def State.serialOf (s : State) (wide : Bool) (n : Nat) : LaneState := tget {} s.serial (serialKey wide n)
def State.setSerial (s : State) (wide : Bool) (n : Nat) (x : LaneState) : State :=
  { s with serial := tput {} s.serial (serialKey wide n) x }

/-- On a tile lane, block lock is lost. -/
def State.dropBlockLock (s : State) (wide : Bool) (n : Nat) : State :=
  if wide then s else (s.wr (TL n) Reg.TL_LANE_STATE_BLOCK_LOCK 0).setSerial false n { s.serialOf false n with inverted := false }

/-- LANE_PLL_LOCK (R308 step 2). -/
def execLanePllLock (wide : Bool) (n : Nat) (s : State) : Host.Outcome State Fault Refusal :=
  live s (if s.phase wide n = 1 then (s.setPhase wide n 2).wr (lanePage wide n) ⟨0xC, 3, 3⟩ 0 else s)

/-- LANE_PLL_TIMEOUT (R308): PLL_FAIL is recorded and step 1 is retried. -/
def execLanePllTimeout (wide : Bool) (n : Nat) (s : State) : Host.Outcome State Fault Refusal :=
  live s (if s.phase wide n = 1 then (s.occurF (lanePage wide n) 0x22 0).wr (lanePage wide n) ⟨0xC, 3, 3⟩ 1 else s)

/-- LANE_CDR_LOCK (R308 step 3): once LOS is clear. -/
def execLaneCdrLock (wide : Bool) (n : Nat) (s : State) : Host.Outcome State Fault Refusal :=
  live s (if s.phase wide n = 2 && !s.los wide n then s.setPhase wide n 3 else s)

/-- Taps of a lane's decision-feedback equaliser (R311). -/
def State.eqTaps (s : State) (wide : Bool) (n : Nat) : Nat := if !wide then 3 else if s.rd (WL n) Reg.WL_LANE_CFG_RATE < 3 then 5 else 12

/-- Initial adaptation ends (R308 step 5, R311): `eq` are the values it set, that of the continuous-time equaliser and then the taps, `eyeH`
and `eyeW` the eye as measured. -/
def State.adaptDone (s : State) (wide : Bool) (n : Nat) (eq : List Int) (eyeH eyeW : Nat) : State :=
  if s.phase wide n = 3 && !s.los wide n && !s.lol wide n then
    let p := lanePage wide n
    let s1 := ((s.setPhase wide n 4).occurF p 0x21 0).setSerial wide n { s.serialOf wide n with
      eq := (List.range (s.eqTaps wide n + 1)).map fun k => eq.getD k 0, inverted := false }
    if wide then ((s1.inc p Reg.WL_LANE_STATE_UP_COUNT).wr p Reg.WL_RX_EYE_EYE_H eyeH).wr p Reg.WL_RX_EYE_EYE_W eyeW
    else s1.wr p Reg.TL_LANE_STATE_EYE_H eyeH
  else s

/-- LANE_ADAPT_DONE (R308). -/
def execLaneAdaptDone (wide : Bool) (n : Nat) (eq : List Int) (eyeH eyeW : Nat) (s : State) :
    Host.Outcome State Fault Refusal := live s (s.adaptDone wide n eq eyeH eyeW)

/-- A detector asserts on a lane (R309, R310): `sub` is 0 for LOS, 1 for LOL. Near-end parallel loopback bypasses the
detectors (R312); LOL asserts only while LOS is clear. -/
def State.detectorUp (s : State) (wide : Bool) (n sub : Nat) : State :=
  let p := lanePage wide n
  if !s.enabled p || s.loopback wide n = 2 || (sub = 1 && s.los wide n) then s
  else
    let s1 := s.wr p (laneState wide (3 + sub) (3 + sub)) 1
    if 3 ≤ s.phase wide n then
      let s2 := ((s1.setPhase wide n 2).occurF p 0x20 sub).dropBlockLock wide n
      if wide then s2.inc p (if sub = 0 then Reg.WL_LOSS_EVENTS_LOS else Reg.WL_LOSS_EVENTS_LOL) else s2
    else s1

/-- LANE_LOS_ASSERT (R309). -/
def execLaneLosAssert (wide : Bool) (n : Nat) (s : State) : Host.Outcome State Fault Refusal := live s (s.detectorUp wide n 0)

/-- LANE_LOL_ASSERT (R309). -/
def execLaneLolAssert (wide : Bool) (n : Nat) (s : State) : Host.Outcome State Fault Refusal := live s (s.detectorUp wide n 1)

/-- LANE_LOS_CLEAR (R309): the lane resumes from step 3 of R308 (R310). -/
def execLaneLosClear (wide : Bool) (n : Nat) (s : State) : Host.Outcome State Fault Refusal :=
  live s (s.wr (lanePage wide n) (laneState wide 3 3) 0)

/-- LANE_LOL_CLEAR (R309). -/
def execLaneLolClear (wide : Bool) (n : Nat) (s : State) : Host.Outcome State Fault Refusal :=
  live s (s.wr (lanePage wide n) (laneState wide 4 4) 0)

/-- Background adaptation (R311): each value moves by at most one step; none while ADAPT_FREEZE is 1. -/
def State.adaptUpdate (s : State) (wide : Bool) (n : Nat) (steps : List Int) : State :=
  let p := lanePage wide n
  if s.phase wide n = 4 && s.rd p (laneCtl wide 4 4) = 0 then
    let x := s.serialOf wide n
    let eq := (List.range x.eq.length).map fun k => x.eq.getD k 0 + clampI (-1) 1 (steps.getD k 0)
    let s1 := s.setSerial wide n { x with eq := eq, updates := x.updates + 1 }
    if wide then s1.wr p Reg.WL_RX_EYE_UPDATES ((x.updates + 1) / 1024) else s1
  else s

/-- LANE_ADAPT_UPDATE (R311). -/
def execLaneAdaptUpdate (wide : Bool) (n : Nat) (steps : List Int) (s : State) : Host.Outcome State Fault Refusal :=
  live s (s.adaptUpdate wide n steps)

/-- ADAPT_RESTART (R311): a lane in ADAPT or IN_SERVICE returns to step 4; in any other phase it is ignored. -/
def State.adaptRestart (s : State) (wide : Bool) (n : Nat) : State :=
  if 3 ≤ s.phase wide n then ((s.setPhase wide n 3).occurF (lanePage wide n) 0x20 2).dropBlockLock wide n else s

/-- A change of LOOPBACK (R312): `o` is the state before the write. LINE and SHOW packets that a tile lane has not framed are discarded. -/
def State.loopbackChange (s o : State) (wide : Bool) (n : Nat) : State :=
  let p := lanePage wide n
  let quad (t : State) : State := if wide then t.showQuad (n / 4) else t
  let new := s.loopback wide n
  if new = o.loopback wide n then s
  else
    let s0 := if wide || new = 0 then s
      else { s with scn := { s.scn with framing := s.scn.framing.filter fun q => q.lane ≠ n || q.h % 16 = 1 } }
    let s1 := s0.wr p (laneState wide 5 5) (b2n (new ≠ 0))
    let s2 := if new = 2 then (s1.wr p (laneState wide 3 3) 0).wr p (laneState wide 4 4) 0 else s1
    if 3 ≤ o.phase wide n then
      let s3 := (s2.setPhase wide n 2).dropBlockLock wide n
      quad (if o.phase wide n = 4 then s3.occurF p 0x20 3 else s3)
    else quad s2

/-- ERR_CLEAR (R306, R307). -/
def State.errClear (s : State) (wide : Bool) (n : Nat) : State :=
  if wide then s.wr (WL n) Reg.WL_PRBS_ERRORS 0 else s.wr (TL n) Reg.TL_LANE_STATE_PRBS_ERRORS 0

/-- The tile-lane receiver reaches block lock in the polarity it tries (R291, R298). -/
def State.blockLock (s : State) (n : Nat) : State :=
  if s.phase false n = 4 && s.rd (TL n) Reg.TL_LANE_STATE_BLOCK_LOCK = 0 then
    let inv := (s.serialOf false n).inverted
    let s1 := (s.wr (TL n) Reg.TL_LANE_STATE_BLOCK_LOCK 1).wr (TL n) Reg.TL_LANE_STATE_RX_INVERTED (b2n inv)
    if inv then s1.cableDetect n [7] else s1
  else s

/-- BLOCK_LOCK_ACQUIRE (R291). -/
def execBlockLockAcquire (n : Nat) (s : State) : Host.Outcome State Fault Refusal := live s (s.blockLock n)

/-- BLOCK_LOCK_POLARITY_TIMEOUT (R291, R308): the receiver tries the other polarity. -/
def execBlockLockPolarityTimeout (n : Nat) (s : State) : Host.Outcome State Fault Refusal :=
  live s (if s.phase false n = 4 && s.rd (TL n) Reg.TL_LANE_STATE_BLOCK_LOCK = 0
    then s.setSerial false n { s.serialOf false n with inverted := !(s.serialOf false n).inverted } else s)

/-- What an application does to a lane (R308, R315): `o` is the state before it. -/
def State.laneApplied (s o : State) (wide : Bool) (n : Nat) : State :=
  let p := lanePage wide n
  let rate : Field := ⟨0x40, 2, 0⟩
  let cut (t : State) : State := if wide then t else t.laneCut n
  let start (t : State) : State := (((t.setPhase wide n 1).wr p (laneState wide 4 3) 0).wr p ⟨0xC, 3, 3⟩ 0).dropBlockLock wide n
  if s.enabled p && !o.enabled p then
    let t := start s
    if wide then t else t.setTlane n { t.tlane n with reports := [], answered := [], beat := none, chain := 0, short := 0 }
  else if !s.enabled p && o.enabled p then
    ((((cut s).setPhase wide n 0).wr p (laneState wide 4 3) 0).wr p ⟨0xC, 3, 3⟩ 0).dropBlockLock wide n
  else if s.enabled p && s.rd p rate ≠ o.rd p rate then start (cut s)
  else s

/-- The checks of R304 and R306 on an enabled wide lane page. -/
def wideChecks (v : Values) (n : Nat) : List Charge :=
  let p := WL n
  let rate := v p Reg.WL_LANE_CFG_RATE
  let taps := v p Reg.WL_TX_EQ_PRE1 + v p Reg.WL_TX_EQ_PRE2 + v p Reg.WL_TX_EQ_POST1
  charge1 p (5 < rate || 32 < taps || (v p Reg.WL_TX_EQ_PRE2 ≠ 0 && rate < 3) || 4 < v p Reg.WL_LANE_CFG_LOGICAL) 0x01

/-- The checks of R314 on the enabled lanes of a quad. -/
def quadChecks (v : Values) (q : Nat) : List Charge :=
  let on := ((List.range 4).map fun k => 4 * q + k).filter fun n =>
    v (WL n) Reg.PAGE_CTL_ENABLE = 1 && v (WL n) Reg.WL_LANE_CFG_LOGICAL < 4
  let lg (n : Nat) : Nat := v (WL n) Reg.WL_LANE_CFG_LOGICAL
  let rt (n : Nat) : Nat := v (WL n) Reg.WL_LANE_CFG_RATE
  let twice := on.filter fun n => on.any fun m => m ≠ n && lg m = lg n
  (if twice.isEmpty then [] else [{ pages := twice.map WL, reason := 0x01 }]) ++
  (if on.any fun n => on.any fun m => rt m ≠ rt n then [{ pages := on.map WL, reason := 0x01 }] else [])

/-- The check of R304 on an enabled tile lane page. -/
def tileLaneChecks (v : Values) (n : Nat) : List Charge := charge1 (TL n) (v (TL n) Reg.TL_LANE_CFG_RATE = 7) 0x01

end Sys2Proof.Machine
end

