-- ==== Sys2Proof/Machine/Fabric.lean ====
section
/-!
DEFINITION. The Unuarvo fabric (16_fabric.md R365-R393): the link layer of fabric and mooring ports, credits, forwarding,
membership, landing, routing, time distribution, remote access, ferries, rectangles and remote events.
-/

namespace Sys2Proof

/-- TYPE of a payload. -/
def FabBody.code : FabBody → Nat
  | .hello .. => 0x01 | .auth _ => 0x02 | .credit _ => 0x03 | .remap _ => 0x04 | .linkState .. => 0x08
  | .landRequest .. => 0x09 | .landGrant .. => 0x09 | .landRefuse .. => 0x09
  | .prepare .. => 0x0A | .vote .. => 0x0A | .decision .. => 0x0A | .ack _ => 0x0A | .snap _ => 0x0A
  | .timeRequest => 0x0B | .timeResponse .. => 0x0B | .event _ => 0x0C | .coordSync .. => 0x0D | .join _ => 0x0E
  | .reg .. => 0x10 | .ferry => 0x18 | .rect _ => 0x1C | .reserved c => c
  | .moor (.heartbeat ..) => 0x20 | .moor (.compare _) => 0x21 | .moor (.health _) => 0x22 | .moor (.thermal ..) => 0x23
  | .moor (.helm ..) => 0x24 | .moor _ => 0x25

/-- Message kind of LAND and COMMIT frames, as TAG carries it (R377, R384). -/
def FabBody.kind : FabBody → Nat
  | .landGrant .. => 1 | .landRefuse .. => 2 | .vote .. => 1 | .decision .. => 2 | .ack _ => 3 | .snap _ => 4
  | .timeResponse .. => 1 | .auth (.first _ _) => 1 | .auth (.second _) => 2 | .auth .finish => 3 | _ => 0

/-- Payload bytes. A COORD_SYNC's layout is owned by firmware and a TIME response's is not given: their lengths are the
model's (assumption log 31). FERRY frames carry their own. -/
def FabBody.bytes : FabBody → Nat
  | .hello .. => 16 | .auth (.first _ _) => 447 | .auth (.second _) => 96 | .auth .finish => 1 | .credit _ => 16
  | .remap _ => 1 | .linkState _ l => 4 + 4 * l.length | .landRequest .. => 21 | .landGrant .. => 10
  | .landRefuse .. => 3 | .prepare .. => 14 | .vote .. => 4 | .decision .. => 10 | .ack _ => 2 | .snap _ => 6
  | .timeRequest => 0 | .timeResponse .. => 23 | .event l => 2 * l.length | .coordSync m p _ _ => min 8192 (16 * m.length + 18 * p.length)
  | .join _ => 2 | .reg .. => 12 | .ferry => 0 | .rect l => 6 * l.length | .reserved _ => 0
  | .moor (.heartbeat ..) => 26 | .moor (.compare l) => 16 * l.length | .moor (.health _) => 32
  | .moor (.thermal _ _ _ _ l) => 8 + 6 * l.length | .moor (.helm ..) => 7 | .moor _ => 34

end Sys2Proof

namespace Sys2Proof.Machine

/-- FAB port `j`; FAB global. -/
abbrev FPT (j : Nat) : Page := ⟨.fabPort, j⟩
abbrev FAB : Page := ⟨.fab, 0⟩

/-! Frames (R368, R369). -/

/-- The VC on which a routed type travels; none for a link type without one and for a reserved type (R369). -/
def typeVc (code : Nat) : Option Nat :=
  match code with
  | 0x08 => some 0 | 0x09 => some 0 | 0x0A => some 0 | 0x0B => some 0 | 0x0C => some 0 | 0x0D => some 0 | 0x0E => some 0
  | 0x10 => some 1 | 0x18 => some 2 | 0x1C => some 3 | _ => none

/-- Types sent without credit, ahead of all others (R370). -/
def linkType (code : Nat) : Bool := 1 ≤ code && code ≤ 4

/-- Types that are encrypted (R369). -/
def sealedType (code : Nat) : Bool := code ≠ 1 && code ≠ 2

/-- Types routed by DST (R369). -/
def unicastType (code : Nat) : Bool :=
  code = 0x09 || code = 0x0A || code = 0x0C || code = 0x0D || code = 0x10 || code = 0x1C

/-- HASH over bytes 0, 2-5 and 16-19 with HOPS taken as 0 (R368). -/
def fabHash (code dst src tag : Nat) : Nat :=
  crc16 ([code] ++ bytesOf 2 (dst % 4096) ++ bytesOf 2 (src % 4096) ++ bytesOf 4 tag)

/-- Credits of 64 bytes that a routed frame takes (R374). -/
def frameCredits (len : Nat) : Nat := cdiv (32 + len) 64

/-- Wire length of a fabric frame: header, payload, tag and FCS, and 20 bytes (R368, R341). -/
def fabWire (len : Nat) : Nat := 32 + len + 16 + 4 + 20

/-! This device in the fabric (R376, R390). -/

/-- Own node ID, serial number, landed. -/
def State.nodeId (s : State) : Nat := s.rd FAB Reg.FAB_NODE_STATE_NODE_ID
def State.serialNo (s : State) : Nat := s.rd FAB Reg.FAB_SERIAL_LO + 2 ^ 32 * s.rd FAB Reg.FAB_SERIAL_HI
def State.landed (s : State) : Bool := s.nodeState = 2

/-- This device acts as the coordinator of a fabric of more than itself, or is alone (R375, R376). -/
def State.isCoord (s : State) : Bool := s.rd FAB Reg.FAB_NODE_STATE_COORD = 1 || s.nodeState = 0

/-- This unit drives the pair's outputs: its MATE page is enabled and ROLE is HOLDER (R395). -/
def State.pairHolder (s : State) : Bool := s.enabled MATE && s.rd MATE Reg.MATE_HELM_STATE_ROLE = 1

/-- The pair alias (R397), where the device is moored. -/
def State.alias (s : State) : Option Nat := if s.enabled MATE then some (s.rd MATE Reg.MATE_PAIR_ID % 4096) else none

/-- SRC of FERRY and RECT frames: the alias of a moored pair, else the node (R397). -/
def State.ferryNode (s : State) : Nat := s.alias.getD s.nodeId

/-- The frame is addressed to this device (R397). -/
def State.addressed (s : State) (dst : Nat) : Bool := dst = s.nodeId || (s.pairHolder && s.alias = some dst)

/-- What the fabric must know of this device itself (R375, R382). -/
def State.ownAttrs (s : State) : FabAttrs :=
  { serial := s.serialNo, eligible := s.rd FAB Reg.FAB_FAB_CFG_COORD_ELIGIBLE = 1,
    priority := s.rd FAB Reg.FAB_FAB_CFG_COORD_PRIORITY, timePriority := s.rd FAB Reg.FAB_FAB_CFG_TIME_PRIORITY,
    timing := s.rd SYS Reg.SYS_REF_CFG_TIME_SEL ≠ 0 && s.rd SYS Reg.SYS_REF_STATE_STATE = 2,
    source := s.rd SYS Reg.SYS_REF_CFG_TIME_SEL }

/-- The landed members with their attributes, this device among them. -/
def State.memberAttrs (s : State) : List (Nat × FabAttrs) :=
  (s.nodeId, s.ownAttrs) :: s.fab.members.map fun e => (e.1, e.2.attrs)

/-- MEMBERS follows the members known (R390). -/
def State.countMembers (s : State) : State := s.wr FAB Reg.FAB_MEMBERS (s.fab.members.length + 1)

/-- The members other than this device replaced. -/
def State.setMembers (s : State) (m : List (Nat × FabMember)) : State :=
  ({ s with fab := { s.fab with members := m } }).countMembers

/-! Ports. -/

/-- A port's state; replaced. -/
def State.fport (s : State) (p : Nat) : FabPort := tget {} s.fab.ports p
def State.setFport (s : State) (p : Nat) (x : FabPort) : State :=
  { s with fab := { s.fab with ports := tput {} s.fab.ports p x } }

/-- The port is enabled: a FAB port page, or a mooring port by MATE_CFG (R366, R407). -/
def State.fportOn (s : State) (p : Nat) : Bool :=
  if p < 16 then s.enabled (FPT p)
  else s.enabled MATE && (if p = 16 then s.rd MATE Reg.MATE_MATE_CFG_PORT_A else s.rd MATE Reg.MATE_MATE_CFG_PORT_B) = 1

/-- The port's quad (R366, R407). -/
def State.fportQuad (s : State) (p : Nat) : Nat :=
  if p < 16 then s.rd (FPT p) Reg.FPORT_FPORT_CFG_QUAD else 14 + p

/-- The fabric ports that are UP, ascending. -/
def State.upPorts (s : State) : List Nat := (s.fab.ports.filter fun e => e.1 < 16 && e.2.st = 3).map (·.1)

/-- Credits held for a VC (R374). -/
def FabPort.held (x : FabPort) (vc : Nat) : Nat :=
  512 - (x.used.getD vc 0 + 2 ^ 32 - x.peerFreed.getD vc 0 % 2 ^ 32) % 2 ^ 32

/-- CREDITS_01 and CREDITS_23 follow (R366). -/
def State.showCredits (s : State) (p : Nat) : State :=
  if p < 16 then
    let x := s.fport p
    let h (vc : Nat) : Nat := if x.st = 3 ∨ x.st = 5 then x.held vc else 0
    (s.wr (FPT p) Reg.FPORT_CREDITS_01 (h 0 + h 1 * 65536)).wr (FPT p) Reg.FPORT_CREDITS_23 (h 2 + h 3 * 65536)
  else s

/-- Add to an element of a list of counts, wrapping at 2³². -/
def bump (l : List Nat) (k n : Nat) : List Nat := l.set k ((l.getD k 0 + n) % 2 ^ 32)

/-- A link frame leaves at once, ahead of all others and without credit (R370). -/
def State.linkSend (s : State) (p : Nat) (b : FabBody) (seq : Nat := 0) : State :=
  let x := s.fport p
  let code := b.code
  let pn := if sealedType code then x.pnTx + 1 else 0
  let src := if s.landed then s.nodeId else 0
  let tag := if code = 2 then b.kind else 0
  let f : FabFrame :=
    { body := b, dst := 0, src := src, hops := 0, len := b.bytes, vc := 0, last := false, pn := pn, tag := tag,
      seq := seq % 2 ^ 32, frameNo := s.frameNo, hash := fabHash code 0 src tag, fcsOk := true, tagOk := true }
  (s.setFport p { x with pnTx := if sealedType code then pn else x.pnTx }).emit (.fabric p s.tm.sys f)

/-- A routed frame enters its VC's queue of a port. -/
def State.fabQueue (s : State) (p : Nat) (f : FabFrame) (arrival : Option (Nat × Nat)) : State :=
  let x := s.fport p
  s.setFport p { x with queue := x.queue ++ [{ frame := f, arrival := arrival }] }

/-- A frame left port `a`'s buffer: its credits are freed (R374). -/
def State.fabFree (s : State) (a : Nat) (f : FabFrame) : State :=
  let x := s.fport a
  s.setFport a { x with freed := bump x.freed f.vc (frameCredits f.len) }

/-- A queued copy is gone; the buffer of its arrival port frees it with the last copy. -/
def State.fabGone (s : State) (q : FabQueued) : State :=
  match q.arrival with
  | some (a, n) =>
    if s.fab.ports.any fun e => e.2.queue.any fun c => c.arrival = some (a, n) then s else s.fabFree a q.frame
  | none => s

/-- A frame built at this device (R368). -/
def newFrame (b : FabBody) (dst src tag seq frame : Nat) : FabFrame :=
  { body := b, dst := dst, src := src, hops := 0, len := b.bytes, vc := (typeVc b.code).getD 0, last := false, pn := 0,
    tag := tag % 2 ^ 32, seq := seq % 2 ^ 32, frameNo := frame % 2 ^ 48, hash := fabHash b.code dst src tag, fcsOk := true, tagOk := true }

/-! Routing (R380). -/

/-- The port set of a node. -/
def State.routeTo (s : State) (d : Nat) : Nat := tget 0 s.fab.route d

/-- The ports of a set, ascending. -/
def portsOf (set : Nat) : List Nat := (List.range 16).filter fun i => bit set i

/-- The lowest-numbered port towards a node. -/
def State.parentOf (s : State) (d : Nat) : Option Nat := (portsOf (s.routeTo d)).head?

/-- A unicast frame leaves on bit number HASH mod n of its set, or is dropped (R380). -/
def State.fabRoute (s : State) (f : FabFrame) (arrival : Option (Nat × Nat)) : State :=
  match portsOf (s.routeTo f.dst) with
  | [] =>
    let s1 := s.inc FAB Reg.FAB_DROP_NOROUTE
    match arrival with | some (a, _) => s1.fabFree a f | none => s1
  | ports =>
    let s1 := s.fabQueue (ports.getD (f.hash % ports.length) 0) f arrival
    if arrival.isSome then s1.inc FAB Reg.FAB_FWD_FRAMES else s1

/-- Send a frame of this device to a node. -/
def State.fabSend (s : State) (dst : Nat) (b : FabBody) (tag seq : Nat) : State :=
  s.fabRoute (newFrame b dst s.nodeId tag seq s.frameNo) none

/-- The links this device reports: its UP ports towards landed peers, and the alias where it holds the helm (R379, R397). -/
def State.ownLinks (s : State) : List (Nat × Nat) :=
  (s.upPorts.filterMap fun p => if (s.fport p).peerNode = 0xFFFF then none else some (p, (s.fport p).peerNode)) ++
    (if s.pairHolder then (s.alias.map fun a => (0xFF, a)).toList else [])

/-- A landed member floods LINK_STATE out of every UP port (R379). -/
def State.floodLinks (s : State) : State :=
  if s.landed then
    let n := (s.fab.lsSeq + 1) % 2 ^ 32
    let f := newFrame (.linkState (s.rd FAB Reg.FAB_OWN_EPOCH) s.ownLinks) 0 s.nodeId 0 n s.frameNo
    let s1 := { s with fab := { s.fab with lsSeq := n } }
    s1.each s1.upPorts fun t p => t.fabQueue p f none
  else s

/-- One step of the search for shortest paths: nodes one link beyond `front`, with the ports by which they are reached. -/
def routeStep (links : Nat → List Nat) (seen : List (Nat × Nat)) (front : List (Nat × Nat)) : List (Nat × Nat) :=
  front.foldl (fun (acc : List (Nat × Nat)) (u : Nat × Nat) =>
    (links u.1).foldl (fun (a : List (Nat × Nat)) (v : Nat) =>
      if (tfind seen v).isSome then a else tins v (tget 0 a v ||| u.2) a) acc) []

/-- Shortest paths, breadth first; `n` bounds the depth. -/
def routeSearch (links : Nat → List Nat) : Nat → List (Nat × Nat) → List (Nat × Nat) → List (Nat × Nat)
  | 0, seen, _ => seen
  | n + 1, seen, front =>
    if front.isEmpty then seen
    else routeSearch links n (front.foldl (fun (t : List (Nat × Nat)) (e : Nat × Nat) => tins e.1 e.2 t) seen)
      (routeStep links (front.foldl (fun (t : List (Nat × Nat)) (e : Nat × Nat) => tins e.1 e.2 t) seen) front)

/-- The ROUTE table that the link states held give: 0 for the device itself (R380). -/
def State.routes (s : State) : List (Nat × Nat) :=
  let links (u : Nat) : List Nat := match tfind s.fab.members u with | some m => m.links.map (·.2) | none => []
  let first := (s.ownLinks.filter fun l => l.1 < 16).foldl
    (fun (t : List (Nat × Nat)) (l : Nat × Nat) => tins l.2 (tget 0 t l.2 ||| 2 ^ l.1) t) []
  tdel s.nodeId (routeSearch links (s.fab.members.length + 2) [(s.nodeId, 0)] (tdel s.nodeId first))

/-! Multicast (R387). -/

/-- The MCAST entry of a ferry: index, W0, W1. -/
def State.mcastOf (s : State) (producer id : Nat) : Option (Nat × (Nat × Nat)) :=
  s.fab.mcast.find? fun e => e.2.1 % 4096 = producer && bits e.2.1 19 12 = id

/-- W0 of an entry. -/
def mcastW0 (producer id : Nat) (isLocal : Bool) : Nat := producer % 4096 ||| (id % 256) <<< 12 ||| b2n isLocal <<< 20 ||| 2 ^ 31

/-- An entry's ports and LOCAL replaced; it is freed once it has neither. -/
def State.setMcast (s : State) (i producer id : Nat) (isLocal : Bool) (ports : Nat) : State :=
  { s with fab := { s.fab with mcast :=
      if ports = 0 && !isLocal then tdel i s.fab.mcast else tins i (mcastW0 producer id isLocal, ports) s.fab.mcast } }

/-- A port (16 is LOCAL) subscribes to a ferry, in the lowest free entry where it has none; where all 1,024 are taken the
JOIN is discarded and MCAST_FULL is recorded. -/
def State.mcastAdd (s : State) (producer id p : Nat) : State :=
  match s.mcastOf producer id with
  | some (i, w) => s.setMcast i producer id (bit w.1 20 || p = 16) (if p < 16 then w.2 ||| 2 ^ p else w.2)
  | none =>
    if 1024 ≤ s.fab.mcast.length then s.occur FAB 0x26 id (s.nodeDetail producer)
    else
      let i := ((List.range (s.fab.mcast.length + 1)).find? fun k => (tfind s.fab.mcast k).isNone).getD 0
      s.setMcast i producer id (p = 16) (if p < 16 then 2 ^ p else 0)

/-- A port (16 is LOCAL) leaves a ferry. -/
def State.mcastDrop (s : State) (producer id p : Nat) : State :=
  match s.mcastOf producer id with
  | some (i, w) =>
    s.setMcast i producer id (bit w.1 20 && p ≠ 16) (if p < 16 ∧ bit w.2 p = true then w.2 - 2 ^ p else w.2)
  | none => s

/-- JOIN or LEAVE goes on towards the producer through the lowest-numbered port of its ROUTE entry (R387). -/
def State.joinOn (s : State) (producer id : Nat) (leave : Bool) : State :=
  if s.addressed producer || s.ferryNode = producer then s
  else match s.parentOf producer with
    | some p => s.fabQueue p (newFrame (.join producer) 0 s.nodeId (id ||| b2n leave <<< 8) 0 s.frameNo) none
    | none => s.inc FAB Reg.FAB_DROP_NOROUTE

/-- A DEC stream with SOURCE FERRY subscribes, or leaves, at the latch that enables or disables it (R387). -/
def State.ferryJoin (s : State) (d : Nat) (leave : Bool) : State :=
  let node := s.rdL (DEC d) Reg.DEC_FERRY_SRC_NODE
  let id := s.rdL (DEC d) Reg.DEC_FERRY_SRC_FERRY_ID
  if s.rdL (DEC d) Reg.DEC_DEC_CFG_SOURCE ≠ 1 then s
  else if s.ferryNode = node then s
  else if leave then (s.mcastDrop node id 16).joinOn node id true
  else (s.mcastAdd node id 16).joinOn node id false

/-- The running DEC streams that read a ferry. -/
def State.ferryStreams (s : State) (producer id : Nat) : List Nat :=
  (s.dec.filter fun e => e.2.running && s.rdL (DEC e.1) Reg.DEC_DEC_CFG_SOURCE = 1 &&
    s.rdL (DEC e.1) Reg.DEC_FERRY_SRC_NODE = producer && s.rdL (DEC e.1) Reg.DEC_FERRY_SRC_FERRY_ID = id).map (·.1)

/-- Write the ROUTE table; for an alias whose entry changes, JOIN is sent again for its MCAST entries and local DEC streams
(R380, R397). -/
def State.routeUpdate (s : State) : State :=
  let new := s.routes
  let aliases := (s.fab.members.flatMap fun e => (e.2.links.filter fun l => l.1 = 0xFF).map (·.2)).filter fun a =>
    tget 0 new a ≠ s.routeTo a
  let s1 := { s with fab := { s.fab with route := new } }
  let ids := aliases.flatMap fun a =>
    ((s1.fab.mcast.filter fun e => e.2.1 % 4096 = a).map fun e => (a, bits e.2.1 19 12)) ++
      ((s1.dec.filter fun e => e.2.running && s1.rdL (DEC e.1) Reg.DEC_DEC_CFG_SOURCE = 1 &&
        s1.rdL (DEC e.1) Reg.DEC_FERRY_SRC_NODE = a).map fun e => (a, s1.rdL (DEC e.1) Reg.DEC_FERRY_SRC_FERRY_ID))
  s1.each ids.eraseDups fun t e => t.joinOn e.1 e.2 false

/-! Time source (R382). -/

/-- The time source: the member with the lowest (TIME_PRIORITY, node ID) whose source is in use and LOCKED, else the
coordinator. -/
def State.timeSource (s : State) : Nat :=
  let c := s.memberAttrs.filter fun e => e.2.timing
  match leastBy (fun n => ((tfind c n).map fun a => a.timePriority * 4096 + n).getD 0) (c.map (·.1)) with
  | some n => n
  | none => s.rd FAB Reg.FAB_NODE_STATE_COORD_ID

/-- TIME_SRC of a follower reports the source's SOURCE, and LOCKED while that source is locked and it follows (R382). -/
def State.followerSrc (s : State) : State :=
  if s.following then
    let a := (tfind s.memberAttrs (s.rd FAB ⟨0x058, 11, 0⟩))
    let follow := s.rd FAB Reg.FAB_TIME_STATE_FOLLOWING = 1
    (s.wr SYS ⟨0x118, 1, 0⟩ ((a.map (·.source)).getD 0)).wr SYS ⟨0x118, 8, 8⟩
      (b2n (follow && ((a.map (·.timing)).getD false)))
  else s

/-- The time source and the parent port are chosen again; a change of source is recorded; a follower that has lost its
parent port with no other path has the effects of REF_LOST (R382); one that follows no more takes up a REF_CFG changed meanwhile. -/
def State.chooseTime (s : State) : State :=
  let old := s.rd FAB ⟨0x058, 11, 0⟩
  let new := if s.landed then s.timeSource else 0
  let parent := s.parentOf new
  let oldParent := s.rd FAB ⟨0x058, 16, 13⟩
  let s1 := s.wr FAB ⟨0x058, 11, 0⟩ new
  let s2 := if new = old then s1 else s1.occur FAB 0x25 0 (s1.nodeDetail new)
  let moved := new ≠ old || parent.getD 0 ≠ oldParent
  let s3 := if moved then
      { (s2.wr FAB Reg.FAB_TIME_STATE_FOLLOWING 0) with fab := { s2.fab with near := 0, stepped := false } }
    else s2
  let s4 := s3.wr FAB ⟨0x058, 16, 13⟩ (parent.getD 0)
  let lost := s4.following && parent.isNone
  let s5 := if lost && !s.fab.timeHold then (s4.wr FAB Reg.FAB_TIME_STATE_FOLLOWING 0).refLost else s4
  let s6 := { s5 with fab := { s5.fab with timeHold := lost } }
  (if !s6.following && s6.ref.changed then s6.acquire else s6).followerSrc

/-! Coordinator (R375). -/

/-- Send COORD_SYNC to every other eligible member, from the coordinator. -/
def State.coordSync (s : State) : State :=
  if s.rd FAB Reg.FAB_NODE_STATE_COORD = 1 then
    let v := (s.fab.syncSeq + 1) % 2 ^ 32
    let s1 := { s with fab := { s.fab with syncSeq := v } }
    let b := FabBody.coordSync s1.memberAttrs s1.fab.place s1.fab.recorded (s1.rd SYS Reg.SYS_CONFIG_EPOCH)
    s1.each (s1.fab.members.filter fun e => e.2.attrs.eligible) fun t e => t.fabSend e.1 b 0 v
  else s

/-- Set COORD and COORD_ID, recording a change of coordinator. -/
def State.setCoord (s : State) (c : Nat) : State :=
  let own := c = s.nodeId
  let s1 := (s.wr FAB Reg.FAB_NODE_STATE_COORD (b2n own)).wr FAB Reg.FAB_NODE_STATE_COORD_ID c
  let s2 := { s1 with fab := { s1.fab with noCoord := false } }
  let s3 := if s.rd FAB Reg.FAB_NODE_STATE_COORD_ID = c && !s.fab.noCoord then s2 else s2.occur FAB 0x24 0 (s2.nodeDetail c)
  s3.coordSync

/-- The members that this device reaches, itself included. -/
def State.reached (s : State) : List (Nat × FabAttrs) :=
  s.memberAttrs.filter fun e => e.1 = s.nodeId || s.routeTo e.1 ≠ 0

/-- A coordinator is chosen: the reachable landed member with COORD_ELIGIBLE 1 that has the lowest (COORD_PRIORITY, serial
number), `out` left aside, while more than half of the members are reached (as that member reaches them, too). Else NO_COORDINATOR shows. -/
def State.electCoord (s : State) (out : Option Nat) : State :=
  let c := s.reached.filter fun e => e.2.eligible && some e.1 ≠ out
  let key (n : Nat) : Nat := ((tfind c n).map fun a => a.priority * 2 ^ 64 + a.serial).getD 0
  let none' := { (s.wr FAB Reg.FAB_NODE_STATE_COORD 0) with fab := { s.fab with noCoord := true } }
  match leastBy key (c.map (·.1)) with
  | some n => if s.reached.length * 2 ≤ s.memberAttrs.length then none' else s.setCoord n
  | none => none'

/-- The coordinator declares a member departed (R379). -/
def State.depart (s : State) (n : Nat) : State :=
  ((s.setMembers (tdel n s.fab.members)).occur FAB 0x21 0 (s.nodeDetail n)).coordSync

/-- A node is named by a link that both its ends report. -/
def State.linked (s : State) (n : Nat) : Bool :=
  match tfind s.fab.members n with
  | some m =>
    (m.links.any fun l => l.2 = s.nodeId && s.ownLinks.any fun k => k.2 = n) ||
      s.fab.members.any fun e => e.1 ≠ n && (e.2.links.any fun l => l.2 = n) && m.links.any fun l => l.2 = e.1
  | none => false

/-- After link states changed from those of `o`, the coordinator declares departed every member whose links are now all
reported DOWN (R379). -/
def State.departUnlinked (s o : State) : State :=
  if s.rd FAB Reg.FAB_NODE_STATE_COORD = 1 then
    s.each (((s.fab.members.map (·.1)).filter fun n => o.linked n && !s.linked n)) State.depart
  else s

/-! Landing (R376-R378). -/

/-- The device becomes alone: its own coordinator, with node ID 0 (R376, R378). -/
def State.becomeAlone (s : State) : State :=
  let last := if s.landed then some s.nodeId else s.fab.lastId
  let s1 := (s.wr FAB Reg.FAB_NODE_STATE 0).setMembers []
  let s2 := { s1 with fab := { s1.fab with lastId := last, wanted := last.getD 0xFFFF, route := [], noCoord := false,
                                           relays := [] } }
  s2.chooseTime

/-- LAND REQUEST leaves through a port (R376, R377). -/
def State.sendLand (s : State) (p : Nat) : State :=
  let n := (s.fab.requests + 1) % 2 ^ 32
  let f := newFrame (.landRequest s.serialNo s.fab.wanted (s.rd FAB Reg.FAB_OWN_EPOCH) (s.rd SYS Reg.SYS_CONFIG_EPOCH)
    0xFFFF 0xFF) 0 0 0 n s.frameNo
  ((({ s with fab := { s.fab with requests := n } }).wr FAB ⟨0x044, 14, 12⟩ 1).fabQueue p f none)

/-- An alone device with JOIN 1 asks to land through its first UP port towards a landed peer; of two alone devices the one
with the higher serial number asks the other (R376; assumption log 32). -/
def State.maybeLand (s : State) : State :=
  if s.nodeState = 0 && s.rd FAB Reg.FAB_FAB_CFG_JOIN = 1 && !s.fab.held then
    match s.upPorts.find? fun p => (s.fport p).peerNode ≠ 0xFFFF || (s.fport p).peerSerial < s.serialNo with
    | some p => s.sendLand p
    | none => s
  else s

/-- An ID is held by a landed member, this device included. -/
def State.idHeld (s : State) (n : Nat) : Bool := n = s.nodeId || (tfind s.fab.members n).isSome

/-- VALID PLACE entries: ID and words. -/
def State.validPlace (s : State) : List (Nat × List Nat) := s.fab.place.filter fun e => bit (e.2.getD 0 0) 0

/-- Serial number in a PLACE entry. -/
def placeSerial (w : List Nat) : Nat := w.getD 1 0 + 2 ^ 32 * w.getD 2 0

/-- The lowest ID that is neither held nor named by a VALID PLACE entry. -/
def State.spareId (s : State) : Option Nat :=
  (List.range 4096).find? fun n => !s.idHeld n && !(s.validPlace.any fun e => e.1 = n)

/-- The choice of an ID for a request (R377): granted, or refused with a reason and an offered ID. -/
def State.chooseId (s : State) (serial wanted relay port : Nat) : Nat ⊕ (Nat × Nat) :=
  if 4096 ≤ s.fab.members.length + 1 then .inr (2, 0xFFFF)
  else match s.validPlace.find? fun e => !(bit (e.2.getD 0 0) 1) && placeSerial e.2 = serial && !s.idHeld e.1 with
  | some e => .inl e.1
  | none =>
    match s.validPlace.find? fun e => bit (e.2.getD 0 0) 1 && bits (e.2.getD 0 0) 13 2 = relay &&
        bits (e.2.getD 0 0) 17 14 = port && !s.idHeld e.1 with
    | some e => .inl e.1
    | none =>
      if wanted ≠ 0xFFFF && !s.idHeld wanted && !(s.validPlace.any fun e => e.1 = wanted && placeSerial e.2 ≠ serial) then
        .inl wanted
      else if wanted ≠ 0xFFFF then .inr (1, s.spareId.getD 0xFFFF)
      else match s.spareId with
        | some n => .inl n
        | none => .inr (2, 0xFFFF)

/-- The coordinator answers a request: the reply, and the state after it. An alone device that is not eligible refuses with
JOIN_OFF; an eligible one thereby lands its fabric with node ID 0 (assumption log 32). -/
def State.landDecide (s0 : State) (serial wanted epoch relay port : Nat) : State × FabBody :=
  let refuse := s0.rd FAB Reg.FAB_FAB_CFG_JOIN = 0 || (s0.nodeState = 0 && s0.rd FAB Reg.FAB_FAB_CFG_COORD_ELIGIBLE = 0)
  if refuse then (s0, .landRefuse 3 0xFFFF)
  else
    let s1 := match s0.fab.members.find? fun e => e.2.attrs.serial = serial with
      | some e => s0.depart e.1
      | none => s0
    match s1.chooseId serial wanted relay port with
    | .inr (r, o) => (s1, .landRefuse r o)
    | .inl n =>
      let e := (max epoch ((tget (0, 0) s1.fab.recorded n).2) + 1) % 2 ^ 32
      let s2 := if s1.nodeState = 0 then
          (s1.wr FAB ⟨0x044, 14, 12⟩ 2).wr FAB Reg.FAB_NODE_STATE_COORD 1
        else s1
      let a : FabAttrs := { serial := serial, eligible := false, priority := 0x80, timePriority := 0x80, timing := false, source := 0 }
      let s3 := (({ s2 with fab := { s2.fab with recorded := tins n (serial, e) s2.fab.recorded } }).setMembers
        (tins n { attrs := a, epoch := e } s2.fab.members)).occur FAB 0x22 0 (s2.nodeDetail n)
      (s3.coordSync, .landGrant n e (s3.rd SYS Reg.SYS_CONFIG_EPOCH))

/-- The CONFIG_EPOCH that the coordinator sent differs from this device's: it becomes fenced (R72). -/
def State.checkConfig (s : State) (config : Nat) : State :=
  if s.rd SYS Reg.SYS_CONFIG_EPOCH = config then s
  else if s.cm.fenced then s
  else ({ s with cm := { s.cm with fenced := true } }).occurF SYS 0x27 0

/-- The device lands (R377). -/
def State.land (s0 : State) (coord node epoch config : Nat) : State :=
  let s := s0.frameOut
  let s1 := ((((s.wr FAB Reg.FAB_NODE_STATE_NODE_ID node).wr FAB ⟨0x044, 14, 12⟩ 2).wr FAB Reg.FAB_NODE_STATE_COORD 0).wr
    FAB Reg.FAB_NODE_STATE_COORD_ID coord).wr FAB Reg.FAB_OWN_EPOCH epoch
  let s2 := { s1 with fab := { s1.fab with lastId := some node, wanted := node, noCoord := false } }
  let s3 := (s2.wr FAB Reg.FAB_ID_OFFER 0).occur FAB 0x20 0 (s2.nodeDetail node)
  (s3.checkConfig config).floodLinks

/-- A refusal takes effect (R378): with ID_CONFLICT the device is refused, and so fenced; else it is alone again
(assumption log 32). -/
def State.refused (s : State) (reason offer : Nat) : State :=
  if reason = 1 then
    let s1 := s.wr FAB ⟨0x044, 14, 12⟩ 3
    let s2 := s1.wr FAB Reg.FAB_ID_OFFER (if offer < 4096 then offer + 4096 else 0)
    s2.occur FAB 0x23 0 (s2.nodeDetail offer)
  else s.wr FAB ⟨0x044, 14, 12⟩ 0

/-! The state of a port (R372). -/

/-- Move a port to a STATE, with its record (R393). -/
def State.fportMove (s : State) (p st reason : Nat) : State :=
  let x := s.fport p
  let s1 := s.setFport p { x with st := st }
  if p < 16 then
    let s2 := (s1.wr (FPT p) Reg.FPORT_FPORT_STATE_STATE st).wr (FPT p) Reg.FPORT_FPORT_STATE_REASON reason
    let shown := st = 3 || st = 5
    let s3 := (s2.wr (FPT p) Reg.FPORT_FPORT_STATE_PEER_NODE (if shown then x.peerNode else 0)).wr (FPT p)
      Reg.FPORT_FPORT_STATE_PEER_PORT x.peerPort
    let s4 := s3.showCredits p
    if st = 3 && x.st = 2 then s4.occur (FPT p) 0x20 0 (s4.nodeDetail x.peerNode)
    else if st = 0 && x.st ≠ 0 then s4.occurF (FPT p) 0x21 x.st
    else if st = 4 then s4.occurF (FPT p) 0x22 reason
    else s4
  else s1

/-- After a port's state changed from that in `o`: members learn of it, the coordinator acts on lost links, and a device
left with no UP port is alone (R376, R379). -/
def State.fportsChanged (s o : State) : State :=
  if s.upPorts = o.upPorts then s
  else if s.upPorts.isEmpty && s.nodeState ≠ 0 then s.becomeAlone
  else (s.floodLinks.departUnlinked o).maybeLand

/-- Frames that wait on a port are discarded. -/
def State.fportFlush (s : State) (p : Nat) : State :=
  let x := s.fport p
  (s.setFport p { x with queue := [], stalled := [] }).each x.queue State.fabGone

/-- The port goes DOWN (R372). -/
def State.fportDown (s : State) (p : Nat) : State :=
  if (s.fport p).st = 0 then s
  else
    let s1 := (s.fportFlush p).fportMove p 0 0
    let x := s1.fport p
    (s1.setFport p { ({} : FabPort) with link := x.link, hellos := x.hellos }).fportsChanged s

/-- The port enters REFUSED with a reason (R372). -/
def State.fportRefuse (s : State) (p reason : Nat) : State :=
  let s1 := (s.fportFlush p).fportMove p 4 reason
  (s1.setFport p { s1.fport p with hs := none }).fportsChanged s

/-- FAB_LINK_CHANGE (R372): LINK of a port rises or falls. -/
def execFabLinkChange (p : Nat) (up : Bool) (s : State) : Host.Outcome State Fault Refusal :=
  live s (if !s.fportOn p then s
    else
      let s1 := s.setFport p { s.fport p with link := up }
      if up then (if (s1.fport p).st = 0 then s1.fportMove p 1 0 else s1) else s1.fportDown p)

/-- FAB_HELLO_TIMER (R372): a port whose LINK is 1 sends HELLO. -/
def execFabHelloTimer (p : Nat) (s : State) : Host.Outcome State Fault Refusal :=
  live s (
    let x := s.fport p
    if x.link then
      let n := (x.hellos + 1) % 2 ^ 32
      (s.setFport p { x with hellos := n }).linkSend p (.hello s.serialNo (if s.landed then s.nodeId else 0xFFFF)
        (if s.landed && !s.fab.noCoord then s.rd FAB Reg.FAB_NODE_STATE_COORD_ID else 0xFFFF) p 1) n
    else s)

/-- FAB_PORT_SILENCE (R372). -/
def execFabPortSilence (p : Nat) (s : State) : Host.Outcome State Fault Refusal := live s (s.fportDown p)

/-- FAB_REFUSED_RETRY (R372). -/
def execFabRefusedRetry (p : Nat) (s : State) : Host.Outcome State Fault Refusal :=
  live s (if (s.fport p).st = 4 then s.fportMove p 1 0 else s)

/-- FAB_AUTH_TIMEOUT (R372). -/
def execFabAuthTimeout (p : Nat) (s : State) : Host.Outcome State Fault Refusal :=
  live s (if (s.fport p).st = 2 then s.fportRefuse p 3 else s)

/-! Arrival of a frame (R369, R381, R392). -/

/-- Counts of a frame's checks, and the frame's verdict: a frame counts as valid while its FCS is correct and, where it is
encrypted, its tag verifies and its PN is greater than the last accepted (R366, R373). -/
def State.fabCheck (s : State) (p : Nat) (f : FabFrame) : State × Bool :=
  let x := s.fport p
  let enc := sealedType f.body.code
  let auth := !enc || (f.tagOk && x.pnRx < f.pn)
  if !f.fcsOk then (if p < 16 then s.inc (FPT p) Reg.FPORT_FRAME_ERRORS_FCS else s, false)
  else if !auth then
    (let s1 := s.inc FAB Reg.FAB_DROP_AUTH
     if p < 16 then s1.inc (FPT p) ⟨0x05C, 31, 16⟩ else s1, false)
  else
    let s1 := s.setFport p { x with pnRx := if enc then f.pn else x.pnRx }
    (if p < 16 then s1.inc (FPT p) Reg.FPORT_FRAMES_RX else s1, true)

/-- A routed frame for another node is forwarded, whatever its check said, or dropped (R380, R381). -/
def State.fabForward (s : State) (p : Nat) (f : FabFrame) (good : Bool) : State :=
  if 15 ≤ f.hops then (s.inc FAB Reg.FAB_DROP_HOPS).fabFree p f
  else if s.alias = some f.dst && !s.pairHolder then s.fabFree p f
  else
    let n := s.fab.nextStore
    ({ s with fab := { s.fab with nextStore := n + 1 } }).fabRoute { f with hops := f.hops + 1, fcsOk := good } (some (p, n))

/-- A frame arrives on port `p`: one of a reserved type, or on the wrong VC, is discarded and counted; a link frame is
consumed in every state that admits it; a routed one only on an UP port, its credits freed once consumed; a unicast one
for another node is forwarded. `take` is what this device does with a valid frame of its own. -/
def State.fabArrive (s : State) (p : Nat) (f : FabFrame) (take : State → State) : State :=
  let x := s.fport p
  let code := f.body.code
  let keyed := x.st = 3 || x.st = 5
  if x.st = 0 || !x.link then s
  else
    let s0 := s.fabCheck p f
    if linkType code then (if s0.2 && (!sealedType code || keyed) then take s0.1 else s0.1)
    else match typeVc code with
      | none => if s0.2 then s0.1.inc FAB Reg.FAB_DROP_TYPE else s0.1
      | some vc =>
        if x.st ≠ 3 && !(x.st = 5 && code = 0x0B) then s0.1
        else if f.vc ≠ vc then (s0.1.inc FAB Reg.FAB_DROP_TYPE).fabFree p f
        else if unicastType code && s.landed && !s.addressed f.dst && !(code = 0x09 && f.dst = 0 && f.src = 0) then
          s0.1.fabForward p f s0.2
        else if s0.2 then (take s0.1).fabFree p f
        else s0.1.fabFree p f

/-- FAB_FRAME_FORWARD (R380, R381): a routed frame that is not for this device; one of a reserved type is dropped. -/
def execFabFrameForward (p : Nat) (f : FabFrame) (s : State) : Host.Outcome State Fault Refusal :=
  live s (s.fabArrive p f id)

/-! HELLO and AUTH (R372, R373). -/

/-- The two ends of an UP port are landed with different coordinators. -/
def State.apart (s : State) (x : FabPort) : Bool :=
  s.landed && x.peerNode ≠ 0xFFFF && x.peerCoord ≠ s.rd FAB Reg.FAB_NODE_STATE_COORD_ID

/-- AUTH message 1 leaves with the serial number and the ROOT_ID of the certificate. -/
def State.sendFirst (s : State) (p : Nat) : State :=
  (s.setFport p { s.fport p with hs := some (1, 0) }).linkSend p
    (.auth (.first s.serialNo (s.rd ⟨.sec, 0⟩ (Reg.SEC0_ROOT_HASH 0) + 2 ^ 32 * s.rd ⟨.sec, 0⟩ (Reg.SEC0_ROOT_HASH 1))))

/-- A valid HELLO (R372). -/
def State.helloIn (s : State) (p serial node coord port version : Nat) : State :=
  let x := { s.fport p with peerSerial := serial, peerNode := node, peerCoord := coord, peerPort := port % 16 }
  let s1 := s.setFport p x
  let s2 := if p < 16 then
      ((s1.wr (FPT p) Reg.FPORT_PEER_SERIAL_LO serial).wr (FPT p) Reg.FPORT_PEER_SERIAL_HI (serial / 2 ^ 32)).wr (FPT p)
        Reg.FPORT_FPORT_STATE_PEER_PORT port
    else s1
  if x.st = 1 then
    if version ≠ 1 then s2.fportRefuse p 5
    else if serial = s.serialNo then s2.fportRefuse p 1
    else if s.fab.held && p < 16 then s2
    else if x.authed && s.rd FAB Reg.FAB_FAB_CFG_JOIN = 0 then s2
    else (s2.fportMove p 2 0).sendFirst p
  else if p < 16 && x.st = 3 && s.apart x then (s2.fportMove p 5 0).fportsChanged s
  else if p < 16 && x.st = 5 && !s.apart x then (s2.fportMove p 3 0).fportsChanged s
  else if p < 16 && x.st = 3 then (s2.wr (FPT p) Reg.FPORT_FPORT_STATE_PEER_NODE node).maybeLand
  else s2

/-- FAB_HELLO_RECEIVED (R372). -/
def execFabHelloReceived (p : Nat) (f : FabFrame) (s : State) : Host.Outcome State Fault Refusal :=
  live s (s.fabArrive p f fun t => match f.body with
    | .hello serial node coord port version => t.helloIn p serial node coord port version
    | _ => t)

/-- The handshake completes: from AUTH the port becomes UP with fresh credits, or returns to HELLO where JOIN is 0; on an UP
port the new keys take over (R373, R376). -/
def State.authDone (s : State) (p : Nat) : State :=
  let x := { s.fport p with hs := none, pnTx := 0, pnRx := 0, authed := true }
  if x.st = 2 then
    let fresh := { x with used := [0, 0, 0, 0], peerFreed := [0, 0, 0, 0], freed := [0, 0, 0, 0], freedSent := [0, 0, 0, 0] }
    if p < 16 && s.rd FAB Reg.FAB_FAB_CFG_JOIN = 0 then (s.setFport p x).fportMove p 1 0
    else ((s.setFport p fresh).fportMove p 3 0).fportsChanged s
  else s.setFport p x

/-- An AUTH message (R373, R453). -/
def State.authIn (s : State) (p : Nat) (m : FabAuth) : State :=
  let x := s.fport p
  if x.st = 2 || x.st = 3 || x.st = 5 then
    match m with
    | .first serial root =>
      let own := s.rd ⟨.sec, 0⟩ (Reg.SEC0_ROOT_HASH 0) + 2 ^ 32 * s.rd ⟨.sec, 0⟩ (Reg.SEC0_ROOT_HASH 1)
      if s.rd ⟨.sec, 0⟩ Reg.SEC0_SEC_STATE_ROOT_SET = 0 || s.rd ⟨.sec, 0⟩ Reg.SEC0_SEC_STATE_CERT_VALID = 0 then s.fportRefuse p 2
      else if root ≠ own then s.fportRefuse p 4
      else if serial ≠ x.peerSerial then s.fportRefuse p 3
      else
        let s1 := if x.hs.isNone then s.sendFirst p else s
        (s1.setFport p { s1.fport p with hs := some (2, 1) }).linkSend p (.auth (.second true))
    | .second ok =>
      match x.hs with
      | some (n, 1) =>
        if ok then (s.setFport p { x with hs := some (max n 3, 2) }).linkSend p (.auth .finish) else s.fportRefuse p 3
      | _ => s
    | .finish =>
      match x.hs with
      | some (3, 2) => s.authDone p
      | _ => s
  else s

/-- FAB_AUTH_RECEIVED (R373). -/
def execFabAuthReceived (p : Nat) (f : FabFrame) (s : State) : Host.Outcome State Fault Refusal :=
  live s (s.fabArrive p f fun t => match f.body with | .auth m => t.authIn p m | _ => t)

/-- FAB_REKEY (R373): at PN 2⁴⁰ the port repeats AUTH while remaining UP. -/
def execFabRekey (p : Nat) (s : State) : Host.Outcome State Fault Refusal :=
  live s (if (s.fport p).st = 3 && 2 ^ 40 ≤ (s.fport p).pnTx && (s.fport p).hs.isNone then s.sendFirst p else s)

/-! Lane remap (R371). -/

/-- The lane of a quad that carries a logical lane. -/
def State.logicalLane (s : State) (q l : Nat) : Option Nat :=
  (List.range 4).find? fun k => s.enabled (WL (4 * q + k)) && s.rd (WL (4 * q + k)) Reg.WL_LANE_CFG_LOGICAL = l

/-- The lowest enabled SPARE lane of a quad that is IN_SERVICE. -/
def State.spareLane (s : State) (q : Nat) : Option Nat :=
  (List.range 4).find? fun k => s.enabled (WL (4 * q + k)) && s.rd (WL (4 * q + k)) Reg.WL_LANE_CFG_LOGICAL = 4 &&
    s.rd (WL (4 * q + k)) Reg.WL_LANE_STATE_PHASE = 4

/-- LOGICAL of a lane, pending and active together. -/
def State.setLogical (s : State) (n l : Nat) : State :=
  (s.setWord (WL n) 0x40 (fset (s.word (WL n) 0x40) 10 8 l)).setWordP (WL n) 0x40 (fset (s.wordP (WL n) 0x40) 10 8 l)

/-- Swap a logical lane with a spare one; refused while a group of either lane page is armed (R371). Whether it was done. -/
def State.remapLane (s : State) (p l : Nat) : State × Bool :=
  let q := s.fportQuad p
  match s.logicalLane q l, s.spareLane q with
  | some a, some b =>
    let armed (n : Nat) : Bool := bit (s.rd SYS Reg.SYS_GROUP_ARMED) (s.groupOf (WL n))
    if armed (4 * q + a) || armed (4 * q + b) then
      (if p < 16 then s.occurF (FPT p) 0x24 l else s, false)
    else
      let s1 := (s.setLogical (4 * q + a) 4).setLogical (4 * q + b) l
      (if p < 16 then s1.occur (FPT p) 0x23 l (b <<< 40 ||| s.frameNo % 2 ^ 32) else s1, true)
  | _, _ => (s, false)

/-- FAB_AUTO_REMAP (R371): logical lane `l` has had LOS or LOL for 100 µs. -/
def execFabAutoRemap (p l : Nat) (s : State) : Host.Outcome State Fault Refusal :=
  live s (
    let on := 16 ≤ p || s.rd (FPT p) Reg.FPORT_FPORT_CFG_AUTO_REMAP = 1
    let down := match s.logicalLane (s.fportQuad p) l with
      | some k => s.los true (4 * s.fportQuad p + k) || s.lol true (4 * s.fportQuad p + k)
      | none => false
    if on && down && (s.fport p).st = 3 then
      let r := s.remapLane p l
      if r.2 then r.1.linkSend p (.remap l) else r.1
    else s)

/-- FAB_REMAP_RECEIVED (R371). -/
def execFabRemapReceived (p : Nat) (f : FabFrame) (s : State) : Host.Outcome State Fault Refusal :=
  live s (s.fabArrive p f fun t => match f.body with | .remap l => (t.remapLane p l).1 | _ => t)

/-! Credits (R374). -/

/-- FAB_CREDIT_RECEIVED (R374). -/
def execFabCreditReceived (p : Nat) (f : FabFrame) (s : State) : Host.Outcome State Fault Refusal :=
  live s (s.fabArrive p f fun t => match f.body with
    | .credit c => (t.setFport p { t.fport p with peerFreed := (List.range 4).map (c.getD · 0) }).showCredits p
    | _ => t)

/-- FAB_CREDIT_SEND (R374): a CREDIT carries the counts freed, where any was freed since the last one. -/
def execFabCreditSend (p : Nat) (s : State) : Host.Outcome State Fault Refusal :=
  live s (
    let x := s.fport p
    if (x.st = 3 || x.st = 5) && x.freed ≠ x.freedSent then
      (s.setFport p { x with freedSent := x.freed }).linkSend p (.credit x.freed)
    else s)

/-- The head frame of a VC of a port. -/
def FabPort.head (x : FabPort) (vc : Nat) : Option FabQueued := x.queue.find? fun q => q.frame.vc = vc

/-- FAB_CREDIT_STALL (R374): VC `vc` of port `p` has held a frame for want of credit for 100 µs. -/
def execFabCreditStall (p vc : Nat) (s : State) : Host.Outcome State Fault Refusal :=
  live s (
    let x := s.fport p
    match x.head vc with
    | some q => if x.held vc < frameCredits q.frame.len then s.setFport p { x with stalled := sins vc x.stalled } else s
    | none => s)

/-- A frame starts on the wire at `t` (R373, R374, R382): PN is counted, credits are consumed, a TIME frame takes its
instant. -/
def State.fabStart (s : State) (p t : Nat) (q : FabQueued) : State :=
  let x := s.fport p
  let body := match q.frame.body with
    | .timeResponse t2 _ src d => FabBody.timeResponse t2 t src d
    | b => b
  let f := { q.frame with body := body, pn := x.pnTx + 1, fcsOk := q.frame.fcsOk }
  let x1 := { x with pnTx := x.pnTx + 1, used := bump x.used f.vc (frameCredits f.len), queue := x.queue.erase q,
                     stalled := sdel f.vc x.stalled,
                     asked := if body = .timeRequest then some t else x.asked }
  let s1 := ((s.setFport p x1).showCredits p).emit (.fabric p t f)
  let s2 := if body = .ferry ∧ q.arrival.isNone then s1.inc FAB Reg.FAB_FERRY_TX else s1
  s2.fabGone q

/-- The head frame of a VC that lacks at most its gate to start at `t`, and whether the gate lets it (R361, R370). -/
def State.fabHead (s : State) (j t vc : Nat) : Option (FabQueued × Bool) :=
  let x := s.fport j
  let p := 64 + j
  let b := bucketAt (s.schPort p).bucket (s.schEntry (s.schChip p) 2 (schPortIndex p)) (cycleAt t)
  match x.head vc with
  | some q =>
    let l := fabWire q.frame.len
    if (x.st = 3 || (x.st = 5 && q.frame.body.code = 0x0B)) && frameCredits q.frame.len ≤ x.held vc && peakOk b l then
      some (q, s.gateAllows s.rd p vc t l)
    else none
  | none => none

/-- The VC that R370 selects on fabric port `j` at `t`: allowed by the gates, conforming to the port's peak bucket (R361),
holding its credits, lowest VC first. -/
def State.fabChoice (s : State) (j t : Nat) : Option FabQueued :=
  (List.range 4).findSome? fun vc => match s.fabHead j t vc with | some (q, true) => some q | _ => none

/-- Some head frame of the port waits for its gate alone (R363). -/
def State.fabHold (s : State) (j t : Nat) : Bool :=
  (List.range 4).any fun vc => match s.fabHead j t vc with | some (_, false) => true | _ => false

/-- Head frames that fit no window of their VC's class are dropped (R358, R361). -/
def State.fabOversize (s : State) (j t : Nat) : State :=
  let p := 64 + j
  if s.rd (SCH p) Reg.SCHED_SCHED_CFG_GATE_EN = 1 && s.rd (SCH p) Reg.SCHED_SCHED_CFG_GUARD_MODE = 0 then
    s.each (List.range 4) fun u vc =>
      match (u.fport j).head vc with
      | some q =>
        if u.neverFits p vc (t / 65536) (u.wireTime p (fabWire q.frame.len)) then
          let u1 := u.setFport j { u.fport j with queue := (u.fport j).queue.erase q }
          (((u1.inc (SCHT (u.schChip p)) Reg.SCHT_OVERSIZE_DROPS).occur (SCH p) 0x21 vc (vc <<< 32 ||| u.frameNo % 2 ^ 32))).fabGone q
        else u
      | none => u
  else s

/-- Frame `q` starts on fabric port `j` at `t`: the port's bucket, its wire time and counts, then the link. -/
def State.fabTake (s : State) (j t : Nat) (q : FabQueued) : State :=
  let p := 64 + j
  let l := fabWire q.frame.len
  let b := bucketAt (s.schPort p).bucket (s.schEntry (s.schChip p) 2 (schPortIndex p)) (cycleAt t)
  let z := s.schPort p
  let s1 := s.setPort p { z with bucket := spend b l (commitOk b l), freeAt := t + s.wireTime p l, sent := z.sent + l }
  (s1.wr (SCH p) Reg.SCHED_SENT_KB ((z.sent + l) / 1024)).fabStart j t q

/-- Fabric port `j` can start a frame at `t` (R361, R363, R370). -/
def State.fabSelect (s0 : State) (j t : Nat) : State :=
  let p := 64 + j
  let s := s0.fabOversize j t
  let s1 := if t < (s.schPort p).freeAt then s
    else match s.fabChoice j t with
      | some q => s.fabTake j t q
      | none => s
  s1.wr (SCH p) ⟨0xC, 2, 2⟩ (b2n (s1.fabHold j (max t (s1.schPort p).freeAt)))


/-! Membership (R375, R379). -/

/-- FAB_LINK_STATE_TIMER (R379). -/
def execFabLinkStateTimer (s : State) : Host.Outcome State Fault Refusal := live s s.floodLinks

/-- A wrapping 32-bit count is newer than another. -/
def newerSeq (a b : Nat) : Bool := laterTs a b

/-- A LINK_STATE is kept, forwarded and acted on, unless it is already held (R379). -/
def State.linkStateIn (s : State) (p : Nat) (f : FabFrame) (epoch : Nat) (links : List (Nat × Nat)) (a : FabAttrs) : State :=
  let old := tfind s.fab.members f.src
  let fresh := match old with
    | some m => (match m.seq with | some q => newerSeq f.seq q | none => true)
    | none => !(s.rd FAB Reg.FAB_NODE_STATE_COORD = 1)
  if !s.landed || f.src = s.nodeId || !fresh then s
  else
    let s1 := s.setMembers (tins f.src { attrs := a, links := links, seq := some f.seq, epoch := epoch } s.fab.members)
    let s2 := s1.each (s1.upPorts.filter (· ≠ p)) fun t q => t.fabQueue q { f with hops := f.hops + 1 } none
    (s2.departUnlinked s).chooseTime

/-- FAB_LINK_STATE_RECEIVED (R379). -/
def execFabLinkStateReceived (p : Nat) (f : FabFrame) (a : FabAttrs) (s : State) : Host.Outcome State Fault Refusal :=
  live s (s.fabArrive p f fun t => match f.body with | .linkState epoch links => t.linkStateIn p f epoch links a | _ => t)

/-- A member that is not the coordinator hears no more of node `n`: an eligible one, which has the membership from the coordinator, keeps it
as a member without links; another drops what it holds of it (assumption log 33). -/
def State.memberSilent (s : State) (n : Nat) : State :=
  match tfind s.fab.members n with
  | some m =>
    if s.rd FAB Reg.FAB_FAB_CFG_COORD_ELIGIBLE = 1 then s.setMembers (tins n { m with links := [] } s.fab.members)
    else s.setMembers (tdel n s.fab.members)
  | none => s

/-- FAB_MEMBER_TIMEOUT (R379): node `n` has sent no LINK_STATE for 3 ms. The coordinator declares it departed. -/
def execFabMemberTimeout (n : Nat) (s : State) : Host.Outcome State Fault Refusal :=
  live s (if (tfind s.fab.members n).isNone then s
    else if s.rd FAB Reg.FAB_NODE_STATE_COORD = 1 then (s.depart n).chooseTime
    else (s.memberSilent n).chooseTime)

/-- FAB_ROUTE_UPDATE (R380). Where no coordinator is in place, one may be in reach again (R375). -/
def execFabRouteUpdate (s : State) : Host.Outcome State Fault Refusal :=
  let t := s.routeUpdate
  live s (if t.landed && t.fab.noCoord then t.electCoord none else t).chooseTime

/-- FAB_COORD_TIMEOUT (R375): the coordinator has sent no LINK_STATE for 3 ms. -/
def execFabCoordTimeout (s : State) : Host.Outcome State Fault Refusal :=
  live s (if s.landed && s.rd FAB Reg.FAB_NODE_STATE_COORD = 0 then
      (s.electCoord (some (s.rd FAB Reg.FAB_NODE_STATE_COORD_ID))).chooseTime
    else s)

/-- FAB_COORD_SYNC_RECEIVED (R375): an eligible member takes the coordinator's state. -/
def execFabCoordSyncReceived (p : Nat) (f : FabFrame) (s : State) : Host.Outcome State Fault Refusal :=
  live s (s.fabArrive p f fun t => match f.body with
    | .coordSync members place recorded _ =>
      if t.landed && t.rd FAB Reg.FAB_FAB_CFG_COORD_ELIGIBLE = 1 then
        let keep (e : Nat × FabAttrs) : Nat × FabMember :=
          (e.1, { (tget { attrs := e.2 } t.fab.members e.1 : FabMember) with attrs := e.2 })
        let m := (members.filter fun e => e.1 ≠ t.nodeId).foldl
          (fun (l : List (Nat × FabMember)) (e : Nat × FabAttrs) => tins e.1 (keep e).2 l) []
        let t1 := ({ t with fab := { t.fab with place := place, recorded := recorded } }).setMembers m
        (t1.setCoord f.src).chooseTime
      else t
    | _ => t)

/-- The effects of a write of FAB_CFG (R375): a coordinator whose COORD_ELIGIBLE is cleared stops acting at once and is
replaced; where no coordinator is in place one is chosen. -/
def State.fabCfgWritten (s : State) : State :=
  let eligible := s.rd FAB Reg.FAB_FAB_CFG_COORD_ELIGIBLE = 1
  if s.landed && ((s.rd FAB Reg.FAB_NODE_STATE_COORD = 1 && !eligible) || s.fab.noCoord) then (s.electCoord none).chooseTime
  else s.chooseTime.maybeLand

/-- A LAND REQUEST reaches this device: the coordinator answers it, another member relays it (R376, R377). -/
def State.landRequestIn (s : State) (p : Nat) (f : FabFrame) (serial wanted epoch config relay port : Nat) : State :=
  let direct := f.src = 0 && relay = 0xFFFF
  if s.isCoord && (s.landed || s.nodeState = 0) then
    let r := if direct then s.landDecide serial wanted epoch s.nodeId p else s.landDecide serial wanted epoch relay port
    let s1 := if direct then r.1.fabQueue p (newFrame r.2 0 r.1.nodeId r.2.kind f.seq r.1.frameNo) none
      else r.1.fabSend f.src r.2 r.2.kind f.seq
    s1.chooseTime
  else if s.landed && direct then
    let n := (s.fab.requests + 1) % 2 ^ 32
    ({ s with fab := { s.fab with requests := n, relays := tins n (p, f.seq) s.fab.relays } }).fabSend
      (s.rd FAB Reg.FAB_NODE_STATE_COORD_ID) (.landRequest serial wanted epoch config s.nodeId p) 0 n
  else s

/-- FAB_LAND_REQUEST_RECEIVED (R377). -/
def execFabLandRequestReceived (p : Nat) (f : FabFrame) (s : State) : Host.Outcome State Fault Refusal :=
  live s (s.fabArrive p f fun t => match f.body with
    | .landRequest serial wanted epoch config relay port => t.landRequestIn p f serial wanted epoch config relay port
    | _ => t)

/-- The answer to a request that this member relayed goes on through the asker's port (R376). -/
def State.relayAnswer (s : State) (f : FabFrame) : Option State :=
  if s.landed then
    match tfind s.fab.relays f.seq with
    | some (p, n) =>
      some (({ s with fab := { s.fab with relays := tdel f.seq s.fab.relays } }).fabQueue p
        { f with dst := 0, seq := n, hops := 0, pn := 0 } none)
    | none => some s
  else none

/-- FAB_LAND_GRANT_RECEIVED (R377). -/
def execFabLandGrantReceived (p : Nat) (f : FabFrame) (s : State) : Host.Outcome State Fault Refusal :=
  live s (s.fabArrive p f fun t => match f.body with
    | .landGrant node epoch config =>
      match t.relayAnswer f with
      | some u => u
      | none => if t.nodeState = 1 && f.seq = t.fab.requests then (t.land f.src node epoch config).chooseTime else t
    | _ => t)

/-- FAB_LAND_REFUSE_RECEIVED (R378). -/
def execFabLandRefuseReceived (p : Nat) (f : FabFrame) (s : State) : Host.Outcome State Fault Refusal :=
  live s (s.fabArrive p f fun t => match f.body with
    | .landRefuse reason offer =>
      match t.relayAnswer f with
      | some u => u
      | none => if t.nodeState = 1 && f.seq = t.fab.requests then t.refused reason offer else t
    | _ => t)

/-- LAND_CTL.LEAVE (R378): LINK_STATE with no links is sent, the device becomes alone, and its ports hold HELLO. -/
def State.fabLeave (s : State) : State :=
  if s.landed then
    let n := (s.fab.lsSeq + 1) % 2 ^ 32
    let f := newFrame (.linkState (s.rd FAB Reg.FAB_OWN_EPOCH) []) 0 s.nodeId 0 n s.frameNo
    let s1 := s.each s.upPorts fun t p => t.emit (.fabric p t.tm.sys { f with pn := (t.fport p).pnTx + 1 })
    let s2 := { s1 with fab := { s1.fab with lsSeq := n, held := true } }
    let ports := (s2.fab.ports.filter fun e => e.1 < 16 && e.2.st ≠ 0 && e.2.st ≠ 4).map (·.1)
    let s3 := s2.each ports fun t p =>
      let t1 := (t.fportFlush p).fportMove p 1 0
      t1.setFport p { t1.fport p with hs := none }
    s3.becomeAlone
  else s

/-- LAND_CTL.RELAND (R378): the ports may leave HELLO again. -/
def State.fabReland (s : State) : State := ({ s with fab := { s.fab with held := false } }).maybeLand

/-- LAND_CTL.ACCEPT_OFFER (R378): a refused device requests the offered ID. -/
def State.fabAcceptOffer (s : State) : State :=
  if s.nodeState = 3 && s.rd FAB Reg.FAB_ID_OFFER_VALID = 1 then
    let s1 := { s with fab := { s.fab with wanted := s.rd FAB Reg.FAB_ID_OFFER % 4096 } }
    match s1.upPorts.find? fun p => (s1.fport p).peerNode ≠ 0xFFFF with
    | some p => s1.sendLand p
    | none => s1
  else s

/-! Time distribution (R382). -/

/-- FAB_TIME_REQUEST_TIMER (R382): an UP port sends a TIME request. -/
def execFabTimeRequestTimer (p : Nat) (s : State) : Host.Outcome State Fault Refusal :=
  live s (
    let x := s.fport p
    if x.st = 3 || x.st = 5 then
      let n := (x.exchange + 1) % 2 ^ 32
      ((s.setFport p { x with exchange := n, asked := none }).fabQueue p
        (newFrame .timeRequest 0 (if s.landed then s.nodeId else 0) 0 n s.frameNo) none).chooseTime
    else s)

/-- FAB_TIME_REQUEST_RECEIVED (R382): received at the pins at `t`, it is answered; t₃ is set as the answer leaves. -/
def execFabTimeRequestReceived (p : Nat) (f : FabFrame) (t : Nat) (s : State) : Host.Outcome State Fault Refusal :=
  live s (s.fabArrive p f fun u => match f.body with
    | .timeRequest =>
      (u.fabQueue p (newFrame (.timeResponse t 0 (u.rd FAB ⟨0x058, 11, 0⟩) (u.rd SYS Reg.SYS_REF_STATE_REF_DIV_M1 + 1))
        0 (if u.landed then u.nodeId else 0) 1 f.seq u.frameNo) none).chooseTime
    | _ => u)

/-- A follower steers SYSTIME to its parent (R382, R256): one step while no raster or channel is enabled, else a rate offset
of at most 1,000 ppm against the error, whose size is a free value (assumption log 2). -/
def State.follow (s : State) (off : Int) : State :=
  let s1 := { s with ref := { s.ref with steer := if off = 0 then 0 else
    if off < 0 then -((s.free 32 % 1000001 : Nat) : Int) else ((s.free 32 % 1000001 : Nat) : Int) } }.drawn
  if !s1.fab.stepped && !s1.pictureEnabled then
    ({ s1 with fab := { s1.fab with stepped := true } }).stepTime ((s1.tm.sys : Int) + off).toNat
  else s1

/-- A TIME response on port `p`, received at `t4`: offset = ((t₂ − t₁) − (t₄ − t₃)) / 2 and delay = ((t₄ − t₁) − (t₃ − t₂)) /
2; on the parent port the follower takes them (R382). -/
def State.timeResponseIn (s0 : State) (p t4 t2 t3 refDiv : Nat) : State :=
  let s := s0.advance t4
  match (s.fport p).asked with
  | some t1 =>
    let off : Int := (((t2 : Int) - t1) - ((t4 : Int) - t3)) / 2
    let delay : Int := (((t4 : Int) - t1) - ((t3 : Int) - t2)) / 2
    if s.following && s.parentOf (s.rd FAB ⟨0x058, 11, 0⟩) = some p then
      let n := if off.natAbs ≤ ns 10 then s.fab.near + 1 else 0
      let s1 := (s.wr FAB Reg.FAB_TIME_OFFSET (sat32 (off / 65536))).wr FAB Reg.FAB_TIME_DELAY (twos 32 (delay / 65536))
      let s2 := s1.wr SYS Reg.SYS_REF_STATE_REF_DIV_M1 (refDiv - 1)
      let s3 := { s2 with fab := { s2.fab with near := n } }
      let s4 := if n = 0 then s3.wr FAB Reg.FAB_TIME_STATE_FOLLOWING 0
        else if 16 ≤ n then s3.wr FAB Reg.FAB_TIME_STATE_FOLLOWING 1 else s3
      (s4.follow off).chooseTime
    else s.chooseTime
  | none => s

/-- FAB_TIME_RESPONSE_RECEIVED (R382). -/
def execFabTimeResponseReceived (p : Nat) (f : FabFrame) (t : Nat) (s : State) : Host.Outcome State Fault Refusal :=
  live s (s.fabArrive p f fun u => match f.body with
    | .timeResponse t2 t3 _ d => if f.seq = (u.fport p).exchange then u.timeResponseIn p t t2 t3 d else u
    | _ => u)

/-! Remote register access (R385). -/

/-- A remote register access starts towards another node. -/
def State.rraSend (s : State) : State :=
  let n := (s.fab.rraSeq + 1) % 2 ^ 32
  let dst := s.rd FAB Reg.FAB_RRA_TARGET_NODE
  let s1 := { s with fab := { s.fab with rraSeq := n, rra := some n } }
  if s.routeTo dst = 0 then
    ((s1.inc FAB Reg.FAB_DROP_NOROUTE).setOp FAB 0x98 4 0).wr FAB Reg.FAB_RRA_RESULT 4
  else
    (s1.setOp FAB 0x98 1 1).fabSend dst
      (.reg (s.rd FAB Reg.FAB_RRA_TARGET_WRITE = 1) false (s.rd FAB Reg.FAB_RRA_ADDR_BAR0 / 4 * 4) (s.rd FAB Reg.FAB_RRA_WDATA) 0) 0 n

/-- The access ends with a result. -/
def State.rraEnd (s : State) (st result : Nat) : State :=
  ({ s with fab := { s.fab with rra := none } }).wr FAB Reg.FAB_RRA_RESULT result |>.setOp FAB 0x98 st 1

/-- RRA_TIMEOUT (R385). -/
def execRraTimeout (s : State) : Host.Outcome State Fault Refusal :=
  live s (if s.opState FAB 0x98 = 1 then s.rraEnd 4 5 else s)

/-- FAB_REG_RESPONSE_RECEIVED (R385, R386). -/
def execFabRegResponseReceived (p : Nat) (f : FabFrame) (s : State) : Host.Outcome State Fault Refusal :=
  live s (s.fabArrive p f fun t => match f.body with
    | .reg write true _ data result =>
      if t.opState FAB 0x98 = 1 && t.fab.rra = some f.seq then
        let t1 := if !write && result = 0 then t.wr FAB Reg.FAB_RRA_RDATA data else t
        t1.rraEnd 2 (result % 8)
      else t
    | _ => t)

/-! Ferries and rectangles (R387, R388). -/

/-- FAB_JOIN_RECEIVED (R387). -/
def execFabJoinReceived (p : Nat) (f : FabFrame) (s : State) : Host.Outcome State Fault Refusal :=
  live s (s.fabArrive p f fun t => match f.body with
    | .join producer =>
      let id := bits f.tag 7 0
      let leave := bit f.tag 8
      let t1 := if leave then t.mcastDrop producer id p else t.mcastAdd producer id p
      if (t1.mcastOf producer id).isNone && !leave then t1 else t1.joinOn producer id leave
    | _ => t)

/-- FAB_JOIN_REFRESH (R387): stream `d` resends JOIN. -/
def execFabJoinRefresh (d : Nat) (s : State) : Host.Outcome State Fault Refusal :=
  live s (if (tget ({} : DecStream) s.dec d).running then s.ferryJoin d false else s)

/-- FAB_MCAST_EXPIRY (R387): port `p` (16 is LOCAL) of entry `i` has not been refreshed for 300 ms. -/
def execFabMcastExpiry (i p : Nat) (s : State) : Host.Outcome State Fault Refusal :=
  live s (match tfind s.fab.mcast i with
    | some w => s.mcastDrop (w.1 % 4096) (bits w.1 19 12) p
    | none => s)

/-- Epoch `e` is stale against `h` (R295). -/
def staleEpoch (e h : Nat) : Bool := let d := (h + 65536 - e % 65536) % 65536; 1 ≤ d && d ≤ 32767

/-- A NAL unit of a ferry access unit carries the FRAME_NO of the frame it codes (R233). -/
def ferryNal (n : Nat) : DecNal → DecNal
  | .slice h ctus parsed data => .slice { h with frame := n } ctus parsed data
  | x => x

/-- A NAL unit has reached a decode stream's input: with SOURCE INGEST the enabled COMPRESSED INGEST page that names the stream passes it
on (R94, R232), the next in its order; a ferry stream of this device's own node has it by local delivery (R387). None where it has no
such source. -/
def State.decInput (s : State) (d : Nat) (n : DecNal) : Option State :=
  if s.rdL (DEC d) Reg.DEC_DEC_CFG_SOURCE = 0 then
    match decFeeds s.rd d with
    | [i] => (match (s.stream i).coded with
      | m :: rest => if m = n then some (s.setStream i { s.stream i with coded := rest }) else none
      | [] => none)
    | _ => none
  else if s.rdL (DEC d) Reg.DEC_FERRY_SRC_NODE = s.ferryNode then some s
  else none

/-- DEC_NAL_RECEIVED (R241) at SYSTIME `t`: a NAL unit that the stream's source holds reaches it. In DIM, with DOMAIN_12 DARK, it is
dropped (R484). -/
def execDecNalReceived (d t : Nat) (n : DecNal) (s : State) : Host.Outcome State Fault Refusal :=
  let u := s.advance t
  live s (match u.decInput d n with
    | some w => if s.isDim then w else w.decNal d n
    | none => u)

/-- A FERRY frame is delivered to the local DEC streams (R387, R397): a stale epoch or a SEQ that is not newer is ignored; a
gap discards the emission that contains it; the emission's NAL units reach the streams with its last frame. `nals` are
the NAL units that end in this frame. -/
def State.ferryDeliver (s : State) (f : FabFrame) (nals : List DecNal) : State :=
  let id := bits f.tag 7 0
  let k := f.src * 256 + id
  let e := bits f.tag 31 16
  let x := tget ({ epoch := e, seq := none, gap := false, nals := [] } : FerryRx) s.fab.ferries k
  let known := match x.seq with | some q => !(newerSeq f.seq q) | none => false
  if staleEpoch e x.epoch || known then s
  else
    let gap := x.gap || (match x.seq with | some q => f.seq ≠ (q + 1) % 2 ^ 32 | none => false)
    let got := if gap then [] else x.nals ++ nals.map (ferryNal f.frameNo)
    let y : FerryRx := { epoch := e, seq := some f.seq, gap := gap && !f.last, nals := if f.last then [] else got }
    let s1 := { s with fab := { s.fab with ferries := tins k y s.fab.ferries } }
    if f.last then s1.each (s1.ferryStreams f.src id) fun t d => t.each got fun u n => u.decNal d n else s1

/-- FAB_FERRY_RECEIVED (R387): the frame goes out of every port of its MCAST entry but its own, and to local DEC streams. -/
def execFabFerryReceived (p : Nat) (f : FabFrame) (nals : List DecNal) (s : State) : Host.Outcome State Fault Refusal :=
  live s (
    let x := s.fport p
    if f.body ≠ .ferry || x.st ≠ 3 || !x.link then s
    else
      let c := s.fabCheck p f
      let s1 := c.1
      if f.vc ≠ 2 then (s1.inc FAB Reg.FAB_DROP_TYPE).fabFree p f
      else
        match s1.mcastOf f.src (bits f.tag 7 0) with
        | none => s1.fabFree p f
        | some (_, w) =>
          let outs := (portsOf w.2).filter (· ≠ p)
          let n := s1.fab.nextStore
          let s2 := { s1 with fab := { s1.fab with nextStore := n + 1 } }
          let s3 := if outs.isEmpty then s2.fabFree p f
            else if 15 ≤ f.hops then (s2.inc FAB Reg.FAB_DROP_HOPS).fabFree p f
            else (s2.each outs fun t q => t.fabQueue q { f with hops := f.hops + 1, fcsOk := c.2 } (some (p, n))).inc FAB
              Reg.FAB_FWD_FRAMES
          if bit w.1 20 && c.2 then s3.ferryDeliver f nals else s3)

/-- A FERRY or RECT frame discarded in place of sending is kept for the replay window, at most 1,000 µs back (R389, R404). -/
def State.shadowFrame (s : State) (f : FabFrame) : State :=
  { s with mate := { s.mate with
      fabShadow := (s.mate.fabShadow.filter fun e => s.tm.sys < e.1 + us 1000) ++ [(s.tm.sys, 0, f)] } }

/-- A FERRY frame of this device leaves by every port of its MCAST entry (R387). -/
def State.ferryOut (s : State) (f : FabFrame) : State :=
  match s.mcastOf f.src (bits f.tag 7 0) with
  | some (_, w) => s.each (portsOf w.2) fun v p => v.fabQueue p f none
  | none => s

/-- An emission of `bytes` bytes of a channel becomes FERRY frames of at most 8,192 payload bytes, on every port of the ferry's
MCAST entry; a muted device forms and discards them (R387, R389). -/
def State.ferrySend (s : State) (c bytes frame : Nat) : State :=
  s.each (s.fab.ferry.filter fun e => bit e.2 31 && e.2 % 128 = c) fun t e =>
    let n := max 1 (cdiv bytes 8192)
    t.each (List.range n) fun u k =>
      let q := (tget 0 u.fab.ferrySeq e.1 + 1) % 2 ^ 32
      let u1 := { u with fab := { u.fab with ferrySeq := tins e.1 q u.fab.ferrySeq } }
      let f0 := newFrame .ferry 0 u1.ferryNode (e.1 % 256 ||| (u1.ownEpoch % 65536) <<< 16) q frame
      let f := { f0 with len := if k + 1 = n then bytes - 8192 * k else 8192, last := k + 1 = n }
      if u1.mutedFor frame then u1.shadowFrame f
      else u1.ferryOut f

/-- RECT frames of one line of a rectangle: up to 1,365 pixels each (R388). -/
def rectPieces : Nat → Nat → List (Nat × Nat × Nat) → List (Nat × List (Nat × Nat × Nat))
  | 0, _, _ => []
  | n + 1, x, l => if l.isEmpty then [] else (x, l.take 1365) :: rectPieces n (x + 1365) (l.drop 1365)

/-- The RECT_EXPORT entries that a raster's frame uses are those in place as it starts (R391). -/
def State.latchExports (s : State) (r : Nat) : State :=
  let mine (e : Nat × List Nat) : Bool := bit (e.2.getD 0 0) 31 && bits (e.2.getD 0 0) 4 0 = r
  let kept := s.fab.exports.filter fun e => !(bits (e.2.getD 0 0) 4 0 = r)
  { s with fab := { s.fab with exports :=
      (s.fab.rectExport.filter mine).foldl (fun (t : List (Nat × List Nat)) (e : Nat × List Nat) => tins e.1 e.2 t) kept } }

/-- A line of a raster's frame is sent for each rectangle that holds it: `pix` are its pixels after thermal gain (R388). -/
def State.rectSend (s : State) (r frame line : Nat) (pix : List (Nat × Nat × Nat)) : State :=
  s.each (s.fab.exports.filter fun e => bits (e.2.getD 0 0) 4 0 = r) fun t e =>
    let w := e.2.getD 0 0
    let x := e.2.getD 1 0 % 65536
    let y := e.2.getD 1 0 / 65536
    let rw := e.2.getD 2 0 % 65536
    let rh := e.2.getD 2 0 / 65536
    if y ≤ line ∧ line < y + rh then
      t.each (rectPieces 49 0 ((pix.drop x).take rw)) fun u q =>
        let f := newFrame (.rect q.2) (bits w 20 9) u.ferryNode (bits w 8 5 ||| (u.ownEpoch % 65536) <<< 16)
          ((line - y) % 65536 ||| (q.1 % 65536) <<< 16) frame
        if u.mutedFor frame then u.shadowFrame f else u.fabRoute f none
    else t

/-- FAB_RECT_RECEIVED (R388): the pixels are written into the sink's RGB_16 surface where the entry is VALID and names the
sender; the entry counts from the next frame on (R391). -/
def execFabRectReceived (p : Nat) (f : FabFrame) (s : State) : Host.Outcome State Fault Refusal :=
  live s (s.fabArrive p f fun t => match f.body with
    | .rect pix =>
      let i := bits f.tag 3 0
      let cur : Nat × List Nat := match tfind t.fab.sinks i with
        | some u => if u.1 = f.frameNo then u else (f.frameNo, tget [] t.fab.rectSink i)
        | none => (f.frameNo, tget [] t.fab.rectSink i)
      let t1 := { t with fab := { t.fab with sinks := tins i cur t.fab.sinks } }
      let w := cur.2
      let width := w.getD 2 0 % 65536
      let height := w.getD 2 0 / 65536
      let line := f.seq % 65536
      let x := f.seq / 65536
      if bit (w.getD 0 0) 31 && w.getD 0 0 % 4096 = f.src && line < height && x < width then
        t1.writeChecked .firmware (w.getD 1 0 % 2 ^ 21 * 65536 + line * pitchOf 2 width + 6 * x)
          ((pix.take (width - x)).flatMap fun c => leBytes 2 c.1 ++ leBytes 2 c.2.1 ++ leBytes 2 c.2.2)
      else t1
    | _ => t)

/-! Events (R54, R389). -/

/-- The level of a (node, source) pair is kept: in its entry, a free one, or the oldest at level 0; else it is counted. -/
def State.remoteLevel (s : State) (node src : Nat) (lvl : Bool) : State :=
  let w := node % 4096 ||| (src % 512) <<< 12 ||| b2n lvl <<< 31
  let put (i n : Nat) (next : Nat) : State := { s with fab := { s.fab with remote := tins i (w, n) s.fab.remote, remoteNext := next } }
  match s.fab.remote.find? fun e => e.2.1 % 2 ^ 21 = w % 2 ^ 21 with
  | some e => put e.1 e.2.2 s.fab.remoteNext
  | none =>
    if s.fab.remote.length < 256 then
      put (((List.range 256).find? fun k => (tfind s.fab.remote k).isNone).getD 0) s.fab.remoteNext (s.fab.remoteNext + 1)
    else
      let low := (s.fab.remote.filter fun e => !(bit e.2.1 31)).map (·.1)
      match leastBy (fun i => (tget (0, 0) s.fab.remote i).2) low with
      | some i => put i s.fab.remoteNext (s.fab.remoteNext + 1)
      | none => s.inc FAB Reg.FAB_REMOTE_EVT_LOST

/-- FAB_EVENT_RECEIVED (R389). -/
def execFabEventReceived (p : Nat) (f : FabFrame) (s : State) : Host.Outcome State Fault Refusal :=
  live s (s.fabArrive p f fun t => match f.body with
    | .event levels => t.each levels fun u e => u.remoteLevel f.src e.1 e.2
    | _ => t)

/-- An EVENT frame can be sent to a node: some port leads there, no VC 0 frame waits on it and it holds the credits. DESIGN CHOICE (log 84):
while no route leads to the destination, the due levels stay pending; no frame is formed that R380 would discard. -/
def State.eventReady (s : State) (dst n : Nat) : Bool :=
  match portsOf (s.routeTo dst) with
  | [] => false
  | ports =>
    let p := ports.getD (fabHash 0x0C dst s.nodeId 0 % ports.length) 0
    ((s.fport p).head 0).isNone && frameCredits (2 * n) ≤ (s.fport p).held 0

/-- FABRIC_EVENT_SEND (R54): up to 32 pending entries, in ascending source order, leave in one EVENT frame. DESIGN CHOICE (log 84): where
FAB_EVT_DEST names this device's own node, they enter its own REMOTE_EVT table without a frame. -/
def execFabricEventSend (s : State) : Host.Outcome State Fault Refusal :=
  live s (
    let l := s.evt.fabDue.take 32
    let dst := s.rd EVT Reg.EVT_FAB_EVT_DEST % 4096
    let sent := { s with evt := { s.evt with fabDue := s.evt.fabDue.drop 32 }, fab := { s.fab with eventSeq := (s.fab.eventSeq + 1) % 2 ^ 32 } }
    if l.isEmpty || !s.fabEnable then s
    else if dst = s.nodeId then sent.each l fun u e => u.remoteLevel dst e.1 e.2
    else if s.eventReady dst l.length then sent.fabSend dst (.event l) 0 (s.fab.eventSeq + 1)
    else s)

/-! Tables (R391). -/

/-- Entries of a FAB table; 0 for the reserved one. -/
def fabTableSize (table : Nat) : Nat :=
  match table with | 0 => 4096 | 1 => 4096 | 2 => 256 | 3 => 1024 | 4 => 16 | 5 => 16 | 6 => 256 | _ => 0

/-- The words of an entry. -/
def State.fabEntry (s : State) (table i : Nat) : List Nat :=
  match table with
  | 0 => [s.routeTo i]
  | 1 => ((List.range 3).map fun k => (tget [] s.fab.place i).getD k 0) ++ [(tget (0, 0) s.fab.recorded i).2]
  | 2 => [tget 0 s.fab.ferry i]
  | 3 => match tfind s.fab.mcast i with | some w => [w.1, w.2] | none => []
  | 4 => tget [] s.fab.rectExport i
  | 5 => tget [] s.fab.rectSink i
  | 6 => [(tget (0, 0) s.fab.remote i).1]
  | _ => []

/-- TBL_DATA of the FAB page as words; replaced. -/
def State.fabTblData (s : State) (n : Nat) : List Nat := (List.range n).map fun k => s.rd FAB (Reg.FAB_TBL_DATA k)
def State.setFabTblData (s : State) (e : List Nat) : State :=
  s.each (List.range 4) fun t k => t.wr FAB (Reg.FAB_TBL_DATA k) (e.getD k 0)

/-- TBL_CTL.WRITE (R391). -/
def State.fabTblWrite (s : State) (a : Access) : State :=
  let i := s.rd FAB Reg.FAB_TBL_INDEX_INDEX
  let table := s.rd FAB Reg.FAB_TBL_INDEX_TABLE
  let bumped (t : State) : State := t.wr FAB Reg.FAB_TBL_INDEX_INDEX (i + 1)
  if fabTableSize table ≤ i then s.tblUnmapped a FAB 0x70
  else match table with
    | 1 => (bumped { s with fab := { s.fab with place := tput [] s.fab.place i (s.fabTblData 3) } }).coordSync
    | 2 =>
      let old := tget 0 s.fab.ferry i
      let st := s.rd (ENC (old % 128)) Reg.ENC_CH_STATE_STATE
      if bit old 31 && (st = 2 || st = 3) then bumped (s.occur FAB 0x27 table i)
      else bumped { s with fab := { s.fab with ferry := tput 0 s.fab.ferry i ((s.fabTblData 1).getD 0 0) } }
    | 4 => bumped { s with fab := { s.fab with rectExport := tput [] s.fab.rectExport i (s.fabTblData 3) } }
    | 5 => bumped { s with fab := { s.fab with rectSink := tput [] s.fab.rectSink i (s.fabTblData 3) } }
    | _ => bumped (s.faulted a 0x12 true (pageBase FAB + 0x70))

/-- TBL_CTL.READ (R391). -/
def State.fabTblRead (s : State) (a : Access) : State :=
  let i := s.rd FAB Reg.FAB_TBL_INDEX_INDEX
  let table := s.rd FAB Reg.FAB_TBL_INDEX_TABLE
  if fabTableSize table ≤ i then (s.tblUnmapped a FAB 0x70).setFabTblData []
  else s.setFabTblData (s.fabEntry table i)

/-! Validation and application (R366, R367). -/

/-- Lane RATE and width form a row of R365. -/
def fabRateOk (rate w : Nat) : Bool :=
  match rate with
  | 0 => w = 1 | 1 => w = 1 | 2 => w = 1 || w = 4 | 3 => w = 1 || w = 4 | 4 => w = 1 || w = 2 || w = 4
  | 5 => w = 1 || w = 2 || w = 4 | _ => false

/-- The lane that carries a logical lane of a quad in a set of values. -/
def laneFor (v : Values) (q l : Nat) : Option Nat :=
  (List.range 4).find? fun k => v (WL (4 * q + k)) Reg.PAGE_CTL_ENABLE = 1 && v (WL (4 * q + k)) Reg.WL_LANE_CFG_LOGICAL = l

/-- The checks of R367 on an enabled FAB port: on its own page, on the lanes of its quad, and on the other pages that name its quad.
R367 names the FAB port as the page that fails. -/
def fabPortChecks (v : Values) (j : Nat) : List Charge :=
  let f := FPT j
  let q := v f Reg.FPORT_FPORT_CFG_QUAD
  let w := 2 ^ v f Reg.FPORT_FPORT_CFG_WIDTH
  let lanes := (List.range w).map (laneFor v q)
  let same : List Page :=
    ((List.range 16).filter fun k => k ≠ j && v (FPT k) Reg.PAGE_CTL_ENABLE = 1 && v (FPT k) Reg.FPORT_FPORT_CFG_QUAD = q).map FPT
  let nets : List Page :=
    ((List.range 64).filter fun n => v (NET n) Reg.PAGE_CTL_ENABLE = 1 &&
      (n / 2 = q || (v (NET n) Reg.NET_PORT_CFG_MODE = 6 && n / 2 + 1 = q))).map NET
  let mate : List Page := if 30 ≤ q && v MATE Reg.PAGE_CTL_ENABLE = 1 then [MATE] else []
  let others := same ++ nets ++ mate
  charge1 f (w = 8) 0x01 ++
  (if lanes.any fun l => match l with
      | some k => !fabRateOk (v (WL (4 * q + k)) Reg.WL_LANE_CFG_RATE) w
      | none => true
    then [{ pages := f :: (List.range 4).map fun k => WL (4 * q + k), named := [f], reason := 0x01 }] else []) ++
  (if others.isEmpty then [] else [{ pages := f :: others, named := f :: same, reason := 0x01 }])

/-- A change of QUAD or WIDTH, or a disabled port, takes the port to DOWN (R366); `o` is the state before. -/
def State.fabPortApplied (s o : State) (j : Nat) : State :=
  let changed := s.rd (FPT j) Reg.FPORT_FPORT_CFG % 128 ≠ o.rd (FPT j) Reg.FPORT_FPORT_CFG % 128
  if changed || !s.enabled (FPT j) then
    let s1 := s.fportDown j
    if s.enabled (FPT j) then s1 else s1.setFport j {}
  else s

end Sys2Proof.Machine
end

