-- ==== Sys2Proof/Machine/Mate.lean ====
section
/-!
DEFINITION. Moored pairs (17_redundancy.md R394-R421): roles, the pair epoch, claims and yields, the mooring link, output
comparison, arbitration, health and takeback.
-/

namespace Sys2Proof.Machine

/-! Roles (R395) and the mooring link (R407, R408). -/

/-- ROLE: 0 UNMOORED, 1 HOLDER, 2 STANDBY, 3 QUALIFYING, 4 DEAD, 5 HOLDOFF; replaced. -/
def State.role (s : State) : Nat := s.rd MATE Reg.MATE_HELM_STATE_ROLE

/-- ROLE is `r` from now on. -/
def State.setRole (s : State) (r : Nat) : State := s.wr MATE Reg.MATE_HELM_STATE_ROLE r

/-- The class of HELM_IN: 0 RELEASED, 1 STANDBY, 2 HOLD, 3 OPEN. -/
def State.helmIn (s : State) : Nat := s.rd MATE Reg.MATE_HELM_STATE_HELM_IN

/-- Own SENSE_FAULT; the unit acts as home. -/
def State.senseFault (s : State) : Bool := s.rd MATE Reg.MATE_HELM_STATE_SENSE_FAULT = 1
def State.isHome (s : State) : Bool := s.rd MATE Reg.MATE_HELM_STATE_HOME = 1

/-- READY (R410). -/
def State.mateIsReady (s : State) : Bool :=
  (s.role = 2 || s.role = 3) && s.mate.alive ≠ 0 && s.mate.mateConfig = some (s.rd SYS Reg.SYS_CONFIG_EPOCH) &&
    (match s.mate.lastBad with | some f => f + 120 ≤ s.tm.frame | none => true)

/-- Detail of TAKEOVER and LOST_HELM (R421). -/
def State.helmDetail (s : State) : Nat := (s.rd MATE Reg.MATE_EPOCH % 65536) <<< 32 ||| s.frameNo % 2 ^ 32

/-- A mooring port sends what waits, in order, as its credits allow (R407); `n` bounds the frames. -/
def State.moorDrain (p : Nat) : Nat → State → State
  | 0, s => s
  | n + 1, s =>
    match (s.fport p).head 0 with
    | some q =>
      if (s.fport p).st = 3 && frameCredits q.frame.len ≤ (s.fport p).held 0 then State.moorDrain p n (s.fabStart p s.tm.sys q)
      else s
    | none => s

/-- A mooring frame is sent on both enabled ports (R407). -/
def State.moorSend (s : State) (m : MoorBody) : State :=
  let n := (s.mate.seqTx + 1) % 2 ^ 32
  let f := newFrame (.moor m) 0 0 0 n s.frameNo
  let s1 := { s with mate := { s.mate with seqTx := n } }
  s1.each ([16, 17].filter fun p => s.fportOn p && (s.fport p).st = 3) fun t p =>
    State.moorDrain p ((t.fport p).queue.length + 1) (t.fabQueue p f none)

/-- A mooring frame arrives on port 16 (A) or 17 (B): the first copy by SEQ is taken, the second discarded (R407). -/
def State.moorArrive (s : State) (p : Nat) (f : FabFrame) (take : State → State) : State :=
  if p < 16 then s.fabArrive p f id
  else if !s.fportOn p || (s.fport p).st ≠ 3 then s
  else
    let c := s.fabCheck p f
    if !c.2 then c.1.fabFree p f
    else
      let s1 := { c.1.fabFree p f with mate := { c.1.mate with alive := c.1.mate.alive ||| 2 ^ (p - 16) } }
      let s2 := s1.wr MATE Reg.MATE_HELM_STATE_MOORING 1
      let fresh := match s.mate.seqRx with | some q => newerSeq f.seq q | none => true
      if fresh then take { s2 with mate := { s2.mate with seqRx := some f.seq } } else s2

/-! Claims (R402, R396). -/

/-- None of the blocks of R402 holds. READY is required but for triggers 5 and 6. -/
def State.mayClaim (s : State) (ready : Bool) (trigger : Nat) : Bool :=
  s.enabled MATE && s.role ≠ 1 && s.helmIn ≠ 2 && s.helmIn ≠ 3 && !s.senseFault && !s.mate.mateSense && s.role ≠ 4 &&
    s.role ≠ 5 && !s.isFenced && (ready || 5 ≤ trigger)

/-- The unit claims the helm: HOLD is asserted, EPOCH passes both units', ROLE becomes HOLDER, TAKEOVER is recorded; outputs
wait for the takeover instant (R396, R402). A successful takeback starts the count of attempts again (R417). -/
def State.claim (s0 : State) (trigger : Nat) : State :=
  let s := s0.frameOut
  let e := (max (s.rd MATE Reg.MATE_EPOCH) (s.rd MATE Reg.MATE_MATE_EPOCH) + 1) % 2 ^ 32
  let s1 := ((s.wr MATE Reg.MATE_EPOCH e).setRole 1).wr MATE Reg.MATE_LAST_TAKEOVER (s.frameNo % 2 ^ 32)
  let s2 := (s1.wr MATE ⟨0x094, 15, 0⟩ (s1.rd MATE ⟨0x094, 15, 0⟩ + 1)).occur MATE 0x20 trigger s1.helmDetail
  let s3 := { s2 with mate := { s2.mate with on := false, everHolder := true, mayQualify := false, takeback := none, vacant := 0 } }
  if trigger = 4 then
    (s3.wr MATE ⟨0x094, 31, 16⟩ (s3.rd MATE ⟨0x094, 31, 16⟩ + 1)).wr MATE ⟨0x060, 23, 16⟩ 0
  else s3

/-- Claim on a trigger, where none of the blocks holds. -/
def State.tryClaim (s : State) (ready : Bool) (trigger : Nat) : State := if s.mayClaim ready trigger then s.claim trigger else s

/-- The holder leaves HOLDER: `sub` is 0 yielded, 1 interlock, 2 declared dead, 3 takeback; YIELD is sent for 0 and 2 (R401,
R403, R417). -/
def State.loseHelm (s : State) (sub : Nat) : State :=
  if s.role = 1 then
    let s1 := if sub = 0 || sub = 2 then s.moorSend (.helm 0 0) else s
    let s2 := (s1.setRole (if sub = 2 then 4 else 2)).occur MATE 0x21 sub s1.helmDetail
    { s2 with mate := { s2.mate with on := false, vacant := 0, takeback := none } }
  else s

/-- What follows from the pair's state as it stands: READY, the holder's automatic yields (R403), a home unit's claim at
boot (R402 trigger 5), a takeback that is due (R417 step 5) and the entry into QUALIFYING (R417 step 1). -/
def State.mateSettle (s : State) : State :=
  if !s.enabled MATE then s
  else
    let s1 := s.wr MATE Reg.MATE_HELM_STATE_READY (b2n s.mateIsReady)
    let critical := bit (s.rd MATE (Reg.MATE_HEALTH 7)) 0
    let yields := s1.role = 1 && s1.mate.mateReady && (s1.isFenced ||
      (s1.rd MATE Reg.MATE_MATE_CFG_AUTO_YIELD = 1 && critical && !s1.mate.mateCritical))
    let s2 := if yields then s1.loseHelm 0 else s1
    let s3 := if s2.isHome && s2.rd SYS Reg.SYS_CONFIG_EPOCH ≠ 0 && !s2.mate.everHolder then s2.tryClaim false 5 else s2
    let due := match s3.mate.takeback with | some (_, a, d) => a && d | none => false
    let s4 := if due && s3.helmIn = 1 then s3.tryClaim s3.mateIsReady 4 else s3
    if s4.role = 2 && s4.isHome && s4.mate.mayQualify && s4.mateIsReady && s4.mate.mateRole = 1 &&
        s4.rd MATE Reg.MATE_MATE_CFG_AUTO_TAKEBACK = 1 then
      ((s4.setRole 3).wr MATE Reg.MATE_QUAL_PROGRESS 0).wr MATE Reg.MATE_HELM_STATE_READY 1
    else s4

/-! Helm lines (R399-R401). -/

/-- HELM_IN_CLASS_CHANGE (R399, R401): the class of HELM_IN becomes `c`. -/
def execHelmInClassChange (c : Nat) (s0 : State) : Host.Outcome State Fault Refusal :=
  live s0 (
    let s := s0.wr MATE Reg.MATE_HELM_STATE_HELM_IN c
    if !s.enabled MATE then s
    else
      let s1 := if c % 4 = 3 && s0.helmIn ≠ 3 then s.occurF MATE 0x25 0 else s
      let s2 := if c % 4 = 2 && s1.role = 1 && !s1.isHome then s1.loseHelm 1 else s1
      let s3 := if c % 4 = 0 && s2.mate.alive = 0 then s2.tryClaim s2.mateIsReady 1 else s2
      let s4 := if c % 4 = 2 then { s3 with mate := { s3.mate with vacant := 0 } } else s3
      s4.mateSettle)

/-- HELM_SENSE_FAULT (R400). -/
def execHelmSenseFault (s : State) : Host.Outcome State Fault Refusal :=
  live s (if s.senseFault then s
    else
      let s1 := s.wr MATE Reg.MATE_HELM_STATE_SENSE_FAULT 1
      if s1.enabled MATE then s1.occurF MATE 0x25 1 else s1)

/-- HELM_SENSE_CLEAR (R400). -/
def execHelmSenseClear (s : State) : Host.Outcome State Fault Refusal :=
  live s (s.wr MATE Reg.MATE_HELM_STATE_SENSE_FAULT 0).mateSettle

/-! Heartbeats (R396, R408). -/

/-- MOOR_HEARTBEAT_TIMER (R408). -/
def execMoorHeartbeatTimer (s0 : State) : Host.Outcome State Fault Refusal :=
  live s0 (if s0.enabled MATE then
      let s := s0.mateSettle
      s.moorSend (.heartbeat s.role s.isHome (s.rd MATE Reg.MATE_HELM_STATE_READY = 1) s.senseFault
        (bit (s.rd MATE (Reg.MATE_HEALTH 7)) 0) s.isFenced (s.rd MATE Reg.MATE_EPOCH) (s.rd SYS Reg.SYS_CONFIG_EPOCH)
        s.frameNo s.serialNo)
    else s0)

/-- A heartbeat of the mate (R394, R396, R400, R410). -/
def State.heartbeatIn (s : State) (role : Nat) (home ready sense critical : Bool) (epoch config serial : Nat) : State :=
  let clash := home = s.isHome && !s.mate.conflict
  let s1 := { s with mate := { s.mate with
    mateRole := role, mateHome := home, mateReady := ready, mateSense := sense, mateCritical := critical,
    mateConfig := some config, mateSerial := serial, conflict := s.mate.conflict || clash } }
  let s2 := ((s1.wr MATE Reg.MATE_MATE_EPOCH epoch).wr MATE Reg.MATE_MATE_SERIAL_LO serial).wr MATE Reg.MATE_MATE_SERIAL_HI
    (serial / 2 ^ 32)
  let s3 := if s2.role = 1 then s2 else s2.frameOut.wr MATE Reg.MATE_EPOCH (max (s2.rd MATE Reg.MATE_EPOCH) epoch)
  let s4 := if sense && !s.mate.mateSense then s3.occurF MATE 0x25 2 else s3
  let s5 := if clash then (s4.wr MATE Reg.MATE_HELM_STATE_HOME (b2n (s.serialNo < serial))).occurF MATE 0x25 3 else s4
  s5.mateSettle

/-- MOOR_HEARTBEAT_RECEIVED (R396). -/
def execMoorHeartbeatReceived (p : Nat) (f : FabFrame) (s : State) : Host.Outcome State Fault Refusal :=
  live s (s.moorArrive p f fun t => match f.body with
    | .moor (.heartbeat role home ready sense critical _ epoch config _ serial) =>
      t.heartbeatIn role home ready sense critical epoch config serial
    | _ => t)

/-- MOOR_TIMEOUT_EXPIRY (R402, R407): no valid mooring frame has arrived on port `p` for MOOR_TIMEOUT. With the last port the
mooring is down; READY is taken as it stood before (assumption log 34). -/
def execMoorTimeoutExpiry (p : Nat) (s : State) : Host.Outcome State Fault Refusal :=
  live s (
    let left := s.mate.alive &&& (3 - 2 ^ (p - 16) % 4)
    if !s.enabled MATE || p < 16 || 17 < p || left = s.mate.alive then s
    else
      let ready := s.mateIsReady
      let s1 := { s with mate := { s.mate with alive := left } }
      if left ≠ 0 then s1.mateSettle
      else
        let s2 := (s1.wr MATE Reg.MATE_HELM_STATE_MOORING 0).occurF MATE 0x26 (s.rd MATE Reg.MATE_MATE_CFG % 4)
        (if s2.helmIn = 0 then s2.tryClaim ready 1 else s2).mateSettle)

/-! The takeover instant (R404, R405). -/

/-- A packet of the replay window goes first in its queue again, in the original order. -/
def State.replayPackets (s : State) (l : List TxPacket) : State :=
  s.each l.reverse fun t h =>
    let k := h.flow * 2 + b2n h.copyB
    let q := t.queueState k
    let t1 := if q.pkts.isEmpty then t.joinAll k else t
    t1.setQueueState k { t1.queueState k with pkts := h :: (t1.queueState k).pkts }

/-- The BEAT of a tile lane of a running raster at a takeover (R404). -/
def State.takeoverBeats (s : State) : State :=
  s.each (List.range 32) fun t r =>
    match (t.ras r).scan with
    | some (ft, _) =>
      if (t.ras r).leadIn then t
      else t.each (lanesOf (t.entriesL r)) fun u n =>
        if u.laneSends n && !(u.tlane n).isOut then
          u.frameIn (beatPacket n false (u.tileCfg r).2.2 ft.frame u.tm.sys (ft.period / 65536))
        else u
    | none => t

/-- HELM_TAKEOVER_INSTANT (R402, R404): 1 µs after a claim the outputs are enabled; packets and frames whose start instants lie
within REPLAY before go out again, and each tile lane of a running raster sends a BEAT. -/
def execHelmTakeoverInstant (t : Nat) (s0 : State) : Host.Outcome State Fault Refusal :=
  let s := s0.advance t
  live s0 (if s.role = 1 && !s.mate.on then
      let lo := s.tm.sys - us (s.rd MATE Reg.MATE_REPLAY % 65536)
      let pkts := (s.shadow.filter fun e => lo ≤ e.1 && e.1 < s.tm.sys).map (·.2)
      let frames := (s.mate.fabShadow.filter fun e => lo ≤ e.1 && e.1 < s.tm.sys).map (·.2.2)
      let s1 := { s with shadow := [], mate := { s.mate with on := true, fabShadow := [] } }
      let s2 := s1.replayPackets pkts
      let s3 := s2.each frames fun u f => if f.body = .ferry then u.ferryOut f else u.fabRoute f none
      s3.takeoverBeats.floodLinks
    else s)

/-! Yields (R403). -/

/-- HELM_YIELD_RECEIVED (R402 trigger 2). -/
def execHelmYieldReceived (p : Nat) (f : FabFrame) (s : State) : Host.Outcome State Fault Refusal :=
  live s (s.moorArrive p f fun t => match f.body with
    | .moor (.helm 0 _) => (t.tryClaim t.mateIsReady 2).mateSettle
    | _ => t)

/-- MATE_CTL.HANDOVER (R403). -/
def State.mateHandover (s : State) : State := (s.loseHelm 0).mateSettle

/-- MATE_CTL.REQUALIFY (R395, R415). -/
def State.mateRequalify (s : State) : State :=
  if s.role = 4 then ({ s.setRole 2 with mate := { s.mate with mayQualify := true } }).mateSettle else s

/-- MATE_CTL.FORCE_CLAIM (R402 trigger 6). -/
def State.mateForceClaim (s : State) : State := (s.tryClaim false 6).mateSettle

/-! Takeback (R417). -/

/-- The attempt fails: QUAL_FAILED, and HOLDOFF for HOLDOFF_BASE × 2^min(a, 8) beats. -/
def State.qualFail (s : State) : State :=
  if s.role = 3 then
    let a := min 255 (s.rd MATE ⟨0x060, 23, 16⟩ + 1)
    let s1 := ((s.wr MATE ⟨0x060, 23, 16⟩ a).setRole 5).occurF MATE 0x27 a
    let s2 := (s1.wr MATE Reg.MATE_HOLDOFF_LEFT (min 0xFFFFFFFF (s.rd MATE Reg.MATE_HOLDOFF_BASE % 2 ^ 24 * 2 ^ min a 8))).wr MATE
      Reg.MATE_QUAL_PROGRESS 0
    { s2 with mate := { s2.mate with takeback := none } }
  else s

/-- TAKEBACK_REQ_RECEIVED (R417 step 4, R419). -/
def execTakebackReqReceived (p : Nat) (f : FabFrame) (s : State) : Host.Outcome State Fault Refusal :=
  live s (s.moorArrive p f fun t => match f.body with
    | .moor (.helm 1 target) =>
      if t.role ≠ 1 then t
      else if t.tm.sys < beatStart t.tm.rate (target - 1) && t.mate.arb.isNone then
        ({ t with mate := { t.mate with takeback := some (target, true, false) } }).moorSend (.helm 2 target)
      else t.moorSend (.helm 3 target)
    | _ => t)

/-- TAKEBACK_ACK_RECEIVED (R417). -/
def execTakebackAckReceived (p : Nat) (f : FabFrame) (s : State) : Host.Outcome State Fault Refusal :=
  live s (s.moorArrive p f fun t => match f.body, t.mate.takeback with
    | .moor (.helm 2 target), some (k, _, d) =>
      if t.role = 3 && k = target then { t with mate := { t.mate with takeback := some (k, true, d) } } else t
    | _, _ => t)

/-- TAKEBACK_NAK_RECEIVED (R417). -/
def execTakebackNakReceived (p : Nat) (f : FabFrame) (s : State) : Host.Outcome State Fault Refusal :=
  live s (s.moorArrive p f fun t => match f.body, t.mate.takeback with
    | .moor (.helm 3 target), some (k, _, _) => if k = target then t.qualFail else t
    | _, _ => t)

/-- TAKEBACK_YIELD (R417 step 5): at B(F) the holder yields without sending YIELD; the home unit claims once HELM_IN shows
STANDBY. -/
def execTakebackYield (t : Nat) (s0 : State) : Host.Outcome State Fault Refusal :=
  let s := s0.advance t
  live s0 (match s.mate.takeback with
    | some (k, true, _) =>
      if s.role = 1 then s.loseHelm 3
      else ({ s with mate := { s.mate with takeback := some (k, true, true) } }).mateSettle
    | _ => s)

/-- TAKEBACK_TIMEOUT (R417): no answer by B(F − 1). -/
def execTakebackTimeout (s : State) : Host.Outcome State Fault Refusal :=
  live s (match s.mate.takeback with | some (_, false, _) => s.qualFail | _ => s)

/-- HOLDOFF_EXPIRY (R417): back to step 1. -/
def execHoldoffExpiry (s : State) : Host.Outcome State Fault Refusal :=
  live s (if s.role = 5 then
      ({ (s.setRole 2).wr MATE Reg.MATE_HOLDOFF_LEFT 0 with mate := { s.mate with mayQualify := true } }).mateSettle
    else s)

/-! Arbitration (R414, R415). -/

/-- Pixel engines that last coded jobs of a channel and are idle: those lent for a slice's golden vectors. -/
def State.stageEngines (s : State) (i : MateItem) : List Nat :=
  if i.kind = 0 then
    (((s.chan i.unit).preferred.map (·.2)).foldl (fun l e => sins e l) []).filter fun e =>
      s.engineAvail e && (tfind s.enc.pixel e).isNone
  else []

/-- Golden vectors start on the stage of an item, its engines lent as for self-test. -/
def State.arbBegin (s : State) (i : MateItem) : State :=
  let l := s.stageEngines i
  let s1 := { s with enc := { s.enc with lent := l.foldl (fun t e => sins e t) s.enc.lent },
                     mate := { s.mate with arb := some { item := i, lent := l } } }
  ((s1.wr MATE Reg.MATE_ARB_STATE_RUNNING 1).wr MATE ⟨0x08C, 31, 16⟩ (s1.rd MATE ⟨0x08C, 31, 16⟩ + 1)).encShown

/-- An undeclared mismatch starts arbitration, unless one runs (R414). -/
def State.arbStart (s : State) (i : MateItem) : State :=
  if s.mate.arb.isSome then s else (s.arbBegin i).moorSend (.arbStart i)

/-- A channel or raster is suspended (R413); SUSPENDED counts them. -/
def unitKey (i : MateItem) : Nat := i.kind * 256 + i.unit
def State.setSuspended (s : State) (l : List (Nat × (Nat × Nat × Nat))) : State :=
  ({ s with mate := { s.mate with suspended := l } }).wr MATE Reg.MATE_SUSPENDED l.length
def State.suspend (s : State) (i : MateItem) : State := s.setSuspended (tins (unitKey i) (0, s.tm.frame, i.index) s.mate.suspended)

/-- Engines fail their golden vectors: they are withdrawn (R171). -/
def State.withdrawEngines (s : State) (l : List Nat) : State :=
  (s.each l fun t u => ({ t with enc := { t.enc with withdrawn := sins u t.enc.withdrawn } }).occurF TSK 0x21 u).encShown

/-- The arbitration is decided (R415): `own` and `mate` are the FAILs of the two units. -/
def State.arbDecide (s : State) (a : Arbitration) (own mate : Bool × List Nat) : State :=
  let holder := s.role = 1
  let h := if holder then own.1 else mate.1
  let b := if holder then mate.1 else own.1
  let outcome := if !h && !b then 1 else if h && !b then 2 else if !h && b then 3 else 4
  let s1 := { s with enc := { s.enc with lent := s.enc.lent.filter fun e => !a.lent.contains e },
                     mate := { s.mate with arb := none } }
  let s2 := (s1.wr MATE ⟨0x08C, 3, 0⟩ (outcome * 2)).wr MATE Reg.MATE_ARB_ENGINES (own.2.length % 65536 ||| (mate.2.length % 65536) <<< 16)
  let s3 := (s2.withdrawEngines own.2).occurF MATE 0x24 outcome
  let s4 := match outcome with
    | 1 => s3.suspend a.item
    | 2 => if holder then s3.loseHelm 2 else s3.tryClaim s3.mateIsReady 3
    | 3 => if holder then s3 else { s3.setRole 4 with mate := { s3.mate with takeback := none } }
    | _ => s3
  s4.mateSettle

/-- The arbitration is decided once both results are in. -/
def State.arbTry (s : State) : State :=
  match s.mate.arb with
  | some a => match a.own, a.mate with
    | some o, some m => s.arbDecide a o m
    | _, _ => s
  | none => s

/-- ARB_START_RECEIVED (R414). -/
def execArbStartReceived (p : Nat) (f : FabFrame) (s : State) : Host.Outcome State Fault Refusal :=
  live s (s.moorArrive p f fun t => match f.body with
    | .moor (.arbStart i) => if t.mate.arb.isSome then t else (t.arbBegin i).moorSend (.arbStart i)
    | _ => t)

/-- ARB_RUN_DONE (R414): this unit's run ends, with whether it failed and the engines that did. -/
def execArbRunDone (fail : Bool) (failed : List Nat) (s : State) : Host.Outcome State Fault Refusal :=
  live s (match s.mate.arb with
    | some a =>
      if a.own.isSome then s
      else
        let r := (fail || !failed.isEmpty, failed)
        (({ s with mate := { s.mate with arb := some { a with own := some r } } }).moorSend (.arbResult a.item r.1 failed)).arbTry
    | none => s)

/-- ARB_RESULT_RECEIVED (R415). -/
def execArbResultReceived (p : Nat) (f : FabFrame) (s : State) : Host.Outcome State Fault Refusal :=
  live s (s.moorArrive p f fun t => match f.body, t.mate.arb with
    | .moor (.arbResult _ fail failed), some a =>
      ({ t with mate := { t.mate with arb := some { a with mate := some (fail, failed) } } }).arbTry
    | _, _ => t)

/-- ARB_RESULT_TIMEOUT (R415): after 10 ms the side whose result is missing fails. -/
def execArbResultTimeout (s : State) : Host.Outcome State Fault Refusal :=
  live s (match s.mate.arb with
    | some a => s.arbDecide a (a.own.getD (true, [])) (a.mate.getD (true, []))
    | none => s)

/-! Comparison (R411-R413). -/

/-- A mismatch or MISSING item counts against READY and fails a takeback attempt (R410, R417). -/
def State.mateBad (s : State) : State :=
  ({ s with mate := { s.mate with lastBad := some s.tm.frame, beatBad := true } }).qualFail

/-- Detail of MISMATCH and DEPARTURE (R421). -/
def State.itemDetail (s : State) (i : MateItem) : Nat :=
  (i.unit % 256) <<< 40 ||| (i.index % 256) <<< 32 ||| s.frameNo % 2 ^ 32

/-- The two records of an item are compared (R413). A suspension counts the beats on which its item, the one of the channel or raster that
differed last, matches: it has one record a frame. -/
def State.compareItem (s : State) (a b : MateRecord) : State :=
  let i := a.item
  let k := unitKey i
  if a.value = b.value then
    let s1 := s.inc MATE Reg.MATE_COMPARED
    match tfind s.mate.suspended k with
    | some (n, since, j) =>
      if j ≠ i.index then s1
      else if 8 ≤ n + 1 then s1.setSuspended (tdel k s.mate.suspended) else s1.setSuspended (tins k (n + 1, since, j) s.mate.suspended)
    | none => s1
  else
    match tfind s.mate.suspended k with
    | some (_, since, _) => (s.inc MATE Reg.MATE_DEPARTURES).setSuspended (tins k (0, since, i.index) s.mate.suspended)
    | none =>
      let s1 := { s with mate := { s.mate with beatBad := true } }
      if a.flags ≠ 0 ∨ b.flags ≠ 0 then
        ((s1.inc MATE Reg.MATE_DEPARTURES).occur MATE 0x23 i.kind (s1.itemDetail i)).suspend i
      else (((s1.inc MATE Reg.MATE_MISMATCHES).occur MATE 0x22 i.kind (s1.itemDetail i)).mateBad).arbStart i

/-- This unit produces a record: it is sent, and compared where the mate's has come (R411, R413). -/
def State.mateRecord (s : State) (r : MateRecord) : State :=
  if !s.enabled MATE then s
  else
    let s1 := s.moorSend (.compare [r])
    match s1.mate.theirs.find? fun e => e.1.item = r.item with
    | some e => ({ s1 with mate := { s1.mate with theirs := s1.mate.theirs.erase e } }).compareItem r e.1
    | none => { s1 with mate := { s1.mate with own := s1.mate.own ++ [(r, s1.tm.frame)] } }

/-- A record of the mate comes: compared where this unit has produced its own, else kept (R413). -/
def State.compareIn (s : State) (r : MateRecord) : State :=
  match s.mate.own.find? fun e => e.1.item = r.item with
  | some e => ({ s with mate := { s.mate with own := s.mate.own.erase e } }).compareItem e.1 r
  | none => { s with mate := { s.mate with theirs := s.mate.theirs ++ [(r, s.tm.frame)] } }

/-- MOOR_COMPARE_RECEIVED (R413). -/
def execMoorCompareReceived (p : Nat) (f : FabFrame) (s : State) : Host.Outcome State Fault Refusal :=
  live s (s.moorArrive p f fun t => match f.body with
    | .moor (.compare l) => (t.each l State.compareIn).mateSettle
    | _ => t)

/-- MOOR_RECORD_MISSING (R413): an own record whose mate record has not arrived 2 beats later, while the mooring is alive. -/
def execMoorRecordMissing (i : MateItem) (s : State) : Host.Outcome State Fault Refusal :=
  live s (match s.mate.own.find? fun e => e.1.item = i with
    | some e =>
      if s.mate.alive ≠ 0 && e.2 + 2 ≤ s.tm.frame then
        ((({ s with mate := { s.mate with own := s.mate.own.erase e } }).inc MATE Reg.MATE_MISSING).mateBad).mateSettle
      else s
    | none => s)

/-! Health (R416). -/

/-- The words of this unit's health report. -/
def State.healthWords (s : State) : List Nat :=
  let h := s.mate.health
  let sat (n : Nat) : Nat := min 65535 n
  let px := (s.enc.withdrawn.filter (· < 96)).length
  let en := (s.enc.withdrawn.filter (128 ≤ ·)).length
  let tileOut := (s.scn.lanes.filter fun e => e.2.isOut).length
  let wideBad := ((List.range 128).filter fun n => s.enabled (WL n) && s.rd (WL n) Reg.WL_LANE_STATE_PHASE ≠ 4).length
  let recent := match h.lastUncorrectable with | some f => s.tm.frame < f + 1024 | none => false
  let critical := recent || 2000 ≤ h.junction || 4 < px
  [sat (h.corrected.filter fun f => s.tm.frame < f + 1024).length ||| (sat h.uncorrectable) <<< 16,
   h.rows % 65536 ||| (h.passes % 65536) <<< 16,
   min 255 px ||| (min 15 en) <<< 8 ||| (min 15 h.pipes.length) <<< 12 ||| (h.failed % 65536) <<< 16,
   h.passed / 256 % 65536,
   min 1023 tileOut ||| (min 255 wideBad) <<< 10,
   h.junction % 65536,
   s.frameNo % 2 ^ 32,
   b2n critical]

/-- This unit's report is brought up to date; it is kept in HEALTH_0-7, whose read follows HEALTH_SRC. -/
def State.healthReport (s : State) : State :=
  let w := s.healthWords
  s.each (List.range 8) fun t k => t.wr MATE (Reg.MATE_HEALTH k) (w.getD k 0)

/-- What HEALTH_k reads (R416). -/
def State.healthShown (s : State) (k : Nat) : Nat :=
  if s.rd MATE Reg.MATE_MATE_CTL_HEALTH_SRC = 1 then s.mate.mateHealth.getD k 0 else s.rd MATE (Reg.MATE_HEALTH k)

/-- MOOR_HEALTH_RECEIVED (R416). -/
def execMoorHealthReceived (p : Nat) (f : FabFrame) (s : State) : Host.Outcome State Fault Refusal :=
  live s (s.moorArrive p f fun t => match f.body with
    | .moor (.health w) =>
      ({ t with mate := { t.mate with mateHealth := w, mateCritical := bit (w.getD 7 0) 0 } }).mateSettle
    | _ => t)

/-- The pair's work at a beat boundary: health report, the count towards takeback, HOLDOFF_LEFT, suspensions that end, and
VACANT (R413, R416, R417, R421). -/
def State.mateBeat (s : State) : State :=
  let s0 := s.healthReport
  if !s0.enabled MATE then s0
  else
    let s1 := s0.moorSend (.health s0.healthWords)
    let late := s1.mate.suspended.filter fun e => s1.rd MATE Reg.MATE_SUSPEND_MAX % 2 ^ 24 ≤ s1.tm.frame - e.2.2.1
    let s2 := if late.isEmpty then s1
      else s1.setSuspended (s1.mate.suspended.filter fun e => !late.contains e)
    let left := s2.rd MATE Reg.MATE_HOLDOFF_LEFT
    let s3 := if s2.role = 5 then s2.wr MATE Reg.MATE_HOLDOFF_LEFT (left - 1) else s2
    let q := if s3.mate.beatBad then 0 else s3.rd MATE Reg.MATE_QUAL_PROGRESS + 1
    let s4 := if s3.role = 3 && s3.mate.takeback.isNone then
        let t := s3.wr MATE Reg.MATE_QUAL_PROGRESS (min q (2 ^ 24 - 1))
        if s3.rd MATE Reg.MATE_QUAL_BEATS % 2 ^ 24 ≤ q then
          ({ t with mate := { t.mate with takeback := some (t.tm.frame + 2, false, false) } }).moorSend (.helm 1 (t.tm.frame + 2))
        else t
      else s3
    let v := if s4.role ≠ 1 && s4.helmIn ≠ 2 then min 2 (s4.mate.vacant + 1) else 0
    let s5 := { s4 with mate := { s4.mate with vacant := v, beatBad := false,
                                               theirs := s4.mate.theirs.filter fun e => s4.tm.frame < e.2 + 4 } }
    (if v = 2 && s4.mate.vacant = 1 then s5.occurF MATE 0x28 0 else s5).mateSettle

/-! Thermal reports (R409). -/

/-- The report sets of a raster, newest first; replaced. -/
def State.thermalSets (s : State) (r : Nat) : List ThermalSet := tget [] s.mate.thermal r
def State.setThermalSets (s : State) (r : Nat) (l : List ThermalSet) : State :=
  { s with mate := { s.mate with thermal := tput [] s.mate.thermal r l } }

/-- One part of the reports for a latch is received. -/
def State.thermalPart (s : State) (r frame part : Nat) (last : Bool) (reports : List (Nat × Nat × Nat)) : State :=
  let old := (s.thermalSets r).find? fun x => x.frame = frame
  let x : ThermalSet := old.getD { frame := frame, parts := [], last := none, reports := [] }
  let y : ThermalSet :=
    { x with parts := sins part x.parts, last := if last then some part else x.last,
             reports := reports.foldl (fun (l : List (Nat × (Nat × Nat))) e => tins e.1 e.2 l) x.reports }
  s.setThermalSets r ((y :: (s.thermalSets r).filter fun z => z.frame ≠ frame).take 4)

/-- MOOR_THERMAL_RECEIVED (R409). -/
def execMoorThermalReceived (p : Nat) (f : FabFrame) (s : State) : Host.Outcome State Fault Refusal :=
  live s (s.moorArrive p f fun t => match f.body with
    | .moor (.thermal r frame part last reports) => if t.role = 1 then t else t.thermalPart r frame part last reports
    | _ => t)

/-- A set has every part up to the one marked LAST. -/
def ThermalSet.whole (x : ThermalSet) : Bool :=
  match x.last with | some n => (List.range (n + 1)).all fun k => x.parts.contains k | none => false

/-- Split into groups of `n`; `fuel` bounds the groups. -/
def groupsOf {α : Type} (n : Nat) : Nat → List α → List (List α)
  | 0, _ => []
  | fuel + 1, l => if l.isEmpty then [] else l.take n :: groupsOf n fuel (l.drop n)

/-- The holder sends the reports for a latch, at most 1,364 entries to a frame, and keeps them for its own next latch. -/
def State.thermalSend (s : State) (r frame : Nat) : State :=
  let rs := (s.thermalEntries r).filterMap fun e =>
    (s.entryReport e.2).map fun t => (e.1, t.temp, if t.fresh then 0 else max 1 t.age)
  let parts := let g := groupsOf 1364 4 rs; if g.isEmpty then [[]] else g
  let s1 := s.each (parts.zip (List.range parts.length)) fun t e =>
    t.moorSend (.thermal r frame e.2 (e.2 + 1 = parts.length) e.1)
  s1.each (parts.zip (List.range parts.length)) fun t e => t.thermalPart r frame e.2 (e.2 + 1 = parts.length) e.1

/-- The thermal gains of a raster at the latch for frame `frame`, divisor `k`: on a moored pair from the holder's reports of the
latch before; without them every gain is held and the raster's records are marked (R409). -/
def State.mateThermal (s : State) (r frame k : Nat) : State :=
  if !s.enabled MATE then s.thermalLatch r s.ownReport
  else if s.rdL (SCAN r) Reg.SCAN_RG_CFG_THERMAL_EN = 0 then s.thermalLatch r s.ownReport
  else
    let s1 := match (s.thermalSets r).find? fun x => x.frame + k = frame && x.whole with
      | some x =>
        ({ s with mate := { s.mate with thermalMissing := sdel r s.mate.thermalMissing } }).thermalLatch r fun e =>
          (tfind x.reports e.1).map fun (t : Nat × Nat) => (t.1, t.2 == 0)
      | none => { s with mate := { s.mate with thermalMissing := sins r s.mate.thermalMissing } }
    if s.role = 1 then s1.thermalSend r frame else s1

/-! The MATE page (R420). -/

/-- The lanes that carry logical lanes 0 and 1 of a mooring quad are enabled at RATE 4 or 5. -/
def moorLanesOk (v : Values) (q : Nat) : Bool :=
  (List.range 2).all fun l => match laneFor v q l with
    | some k => v (WL (4 * q + k)) Reg.WL_LANE_CFG_RATE = 4 || v (WL (4 * q + k)) Reg.WL_LANE_CFG_RATE = 5
    | none => false

/-- The checks of R420 on an enabled MATE page: on its own values, and on the lanes of quads 30 and 31. -/
def mateChecks (v : Values) : List Charge :=
  let a := v MATE Reg.MATE_MATE_CFG_PORT_A = 1
  let b := v MATE Reg.MATE_MATE_CFG_PORT_B = 1
  let t := v MATE Reg.MATE_MOOR_TIMEOUT % 65536
  let rp := v MATE Reg.MATE_REPLAY % 65536
  let lanes (on : Bool) (q : Nat) : List Charge := if on && !moorLanesOk v q
    then [{ pages := MATE :: (List.range 4).map fun k => WL (4 * q + k), named := [MATE], reason := 0x01 }] else []
  lanes a 30 ++ lanes b 31 ++ charge1 MATE ((!a && !b) || rp < t + 10 || t < 10 || 1000 < t || 1000 < rp || v MATE Reg.MATE_QUAL_BEATS % 2 ^ 24 = 0 || v MATE Reg.MATE_HOLDOFF_BASE % 2 ^ 24 = 0 ||
    v MATE Reg.MATE_SUSPEND_MAX % 2 ^ 24 < 8) 0x01

/-- What the application of an arm does to the pair (R395, R396): a page that becomes enabled is STANDBY with EPOCH from
OWN_EPOCH; one that becomes disabled is UNMOORED. -/
def State.mateApplied (s1 o : State) : State :=
  let s := s1.frameOutAs o.ownEpoch fun _ => true
  if s.enabled MATE && !o.enabled MATE then
    let s1 := ((s.setRole 2).wr MATE Reg.MATE_EPOCH (s.rd FAB Reg.FAB_OWN_EPOCH)).wr MATE Reg.MATE_QUAL_PROGRESS 0
    let s2 := { s1 with mate := { s1.mate with on := false, takeback := none, vacant := 0 } }
    (if s2.helmIn = 3 then s2.occurF MATE 0x25 0 else s2).mateSettle
  else if !s.enabled MATE && o.enabled MATE then
    let s1 := (s.setRole 0).setSuspended []
    { s1 with
      mate := { ({} : MateState) with health := s.mate.health, everHolder := s.mate.everHolder, conflict := s.mate.conflict }
      fab := { s1.fab with ports := tdel 16 (tdel 17 s1.fab.ports) } }
  else s.mateSettle

end Sys2Proof.Machine
end

