-- ==== Sys2Proof/Machine/Emit.lean ====
section
/-!
DEFINITION. Emission of coded slices (07_encoder_pipeline.md R169, R170; 08_rate_control.md R199-R201;
14_network_transport.md R332, R333; 17_redundancy.md R411) and the start of packets on a port (R354).
-/

namespace Sys2Proof.Machine

/-! Sizes. -/

/-- Size in bits of tile column `col` of a row: the exact size of its job, or of its floor coding, of which the last column
takes what the row's size leaves (R191, R195). -/
def EncPicture.columnSize (p : EncPicture) (r col : Nat) : Nat :=
  let row := p.row r
  let of (k : Nat) : Nat := match tfind row.finished k with | some e => if row.floored then e.2 else e.1 | none => 0
  if col + 1 = p.geo.cols then row.size - ((List.range col).map of).sum else of col

/-- The tile column that slice `i` covers, where a row of slices holds several (R158, R159). -/
def EncPicture.sliceColumn (p : EncPicture) (i : Nat) : Option Nat :=
  if slicesAcross p.words = 1 then none
  else if isHevc p.words then some (i / sliceRowCount p.words)
  else some (i % slicesAcross p.words)

/-- Bytes of slice `i` with its start code (R191). -/
def EncPicture.sliceBytes (p : EncPicture) (i : Nat) : Nat :=
  let (a, b) := sliceSpan p.words i
  let rows := (List.range b).filter (a ≤ ·)
  cdiv (sliceHeadBits p.words p.rc i + (rows.map fun r => match p.sliceColumn i with
    | none => (p.row r).size
    | some col => p.columnSize r col).sum) 8

/-- The decoding unit of slice `i`, and whether the slice is the unit's last in emission order (R186, R199). -/
def EncPicture.duOfSlice (p : EncPicture) (h : HrdModel) (i : Nat) : Nat := h.duOf (sliceSpan p.words i).1
def EncPicture.lastOfDu (p : EncPicture) (h : HrdModel) (i : Nat) : Bool :=
  (List.range p.slices.length).all fun j => j ≤ i || p.duOfSlice h j ≠ p.duOfSlice h i

/-- The NAL units that stand before slice `i`: those of the picture before its first slice, with their sizes in bytes, and the decoding unit
information of a unit that it opens (R149, R190). -/
def State.leadingNals (s : State) (c : Nat) (p : EncPicture) (i : Nat) : List (EncNal × Nat) :=
  let h := s.modelOf (s.chan c) p
  let k := p.duOfSlice h i
  let b := (s.chan c).beforeOf p
  let opens := (List.range i).all fun j => p.duOfSlice h j ≠ k
  (if i = 0 then (picSizes p.words p.rc (overheadKind p.kind p.sweep)).map fun e =>
      (p.nal h s.tm.rate (h.removalTicks p.frame p.period) (h.initialDelay p.frame b.1 b.2) e.1, e.2) else []) ++
    (if opens && h.informs p.rc k then [(.unitInfo k (h.increment k), unitInfoBytes p.words p.rc)] else [])

/-- The filler bytes that follow slice `i` (R198). -/
def State.fillerAfter (s : State) (c : Nat) (p : EncPicture) (i : Nat) : Nat :=
  let h := s.modelOf (s.chan c) p
  if p.lastOfDu h i then ((p.dus[p.duOfSlice h i]?).map (·.filler)).getD 0 / 8 else 0

/-- The NAL units that slice `i` adds to an emission, with their sizes in bytes, start codes included (R149, R198, R199). -/
def State.emittedNals (s : State) (c : Nat) (p : EncPicture) (i : Nat) : List (EncNal × Nat) :=
  let fill := s.fillerAfter c p i
  s.leadingNals c p i ++ [(.slice i (overheadKind p.kind p.sweep) p.tmvp, p.sliceBytes i)] ++ (if fill = 0 then [] else [(.filler fill, fill)])

/-- The same as bytes without the start code, and what ends in each. -/
def State.sliceNals (s : State) (c : Nat) (p : EncPicture) (i : Nat) : List (Nat × List DuMark) :=
  let h := s.modelOf (s.chan c) p
  let k := p.duOfSlice h i
  let fill := s.fillerAfter c p i
  let unit : List DuMark := match p.dus[k]? with
    | some d => if p.lastOfDu h i then [.unit c p.frame k (h.arrivalTime s.tm.rate d.arrival) h.over] else []
    | none => []
  (s.leadingNals c p i).map (fun e => (e.2 - 4, [])) ++
    [(p.sliceBytes i - 4, DuMark.slice c s.tm.sys :: (if fill = 0 then unit else []))] ++
    (if fill = 0 then [] else [(fill - 4, unit)])

/-- The results of the jobs of slice `i`, row by row. -/
def EncPicture.sliceResults (p : EncPicture) (i : Nat) : List Nat :=
  let (a, b) := sliceSpan p.words i
  ((List.range b).filter (a ≤ ·)).flatMap fun r => match p.sliceColumn i with
    | none => p.rowResults r
    | some col => [(p.rowResults r).getD col 0]

/-- The bytes of slice `i` as it is assembled (R169): start code, and its NAL unit, a function of the results of its jobs (R164). -/
def EncPicture.sliceData (p : EncPicture) (i : Nat) : List Nat :=
  [0, 0, 0, 1] ++ (List.range (p.sliceBytes i - 4)).map fun k => (Config.sliceByte (p.sliceResults i) k).toNat

/-- A filler data NAL unit of `n` bytes (R198). -/
def fillerData (hevc : Bool) (n : Nat) : List Nat :=
  [0, 0, 0, 1, Config.fillerHeader hevc 0 % 256, Config.fillerHeader hevc 1 % 256] ++ List.replicate (n - 7) 0xFF ++ [0x80]

/-! Packets (R332, R333). -/

/-- Form the packets of one flow: sizes with how many NAL units end in each, and the NAL units' marks. -/
def State.formPackets (f frame ts : Nat) (access : Bool) (blocked : Option Nat) :
    List ((Nat × Nat) × RtpForm) → List (List DuMark) → State → State
  | [], _, s => s
  | ((size, n), form) :: t, marks, s =>
    State.formPackets f frame ts access blocked t (marks.drop n)
      (s.formPacket f frame ts (access && t.isEmpty) size s.tm.sys blocked (marks.take n).flatten form)

/-- The removal time of a picture in SYSTIME units, a numerator over its time scale (R187). -/
def HrdModel.removalTime (h : HrdModel) (beat f : Nat) : Nat := (beatStart beat h.first + us h.offset) * h.n + (f - h.first) * h.d * 65536000000000

/-- The bytes of the SMPTE 302M data of the picture of frame `f` in a transport stream flow (R333, R433): every sample of its period, in
pairs of channels, each pair with 4 bits beside the word of each channel. -/
def State.embedBytes (s : State) (f frame m : Nat) : Nat :=
  let w := s.txWord f 11
  let n := gridFrom (beatStart s.tm.rate (frame + m)) - gridFrom (beatStart s.tm.rate frame)
  let word := bits ((tget {} s.aud (bits w 4 0 % 16)).fmt.getD 0 0) Reg.AUD_PORT_CFG_WORD.hi Reg.AUD_PORT_CFG_WORD.lo
  let wide := if word = 16 then 16 else if 17 ≤ word ∧ word ≤ 20 then 20 else 24
  4 + n * (bits w 19 14 / 2) * (2 * (wide + 4)) / 8

/-- The transport stream packets of one emission on a flow (R333), and whether tables go first: the access unit's first part starts its PES
packet, with the PCR in its first packet; the last is followed by the audio. Header sizes are those of ISO/IEC 13818-1 and SMPTE 302M
(PRESUMED, log 89), and audio goes last as its period has ended only then (DESIGN CHOICE, log 89). -/
def State.tsPackets (s : State) (f c : Nat) (p : EncPicture) (first access : Bool) (bytes : Nat) : List TsPacket × Bool :=
  let h := s.modelOf (s.chan c) p
  let b := (s.chan c).beforeOf p
  let due := match (tget {} s.net.tx f).tables with
    | some n => overheadKind p.kind p.sweep < 2 || cdiv (rateND s.tm.rate).1 (10 * (rateND s.tm.rate).2 * h.m) ≤ n
    | none => true
  let t := h.removalTime s.tm.rate p.frame
  let at90 (num den : Nat) : Nat := num * 90000 / (den * 65536000000000) % 2 ^ 33
  let start := if h.cbr then h.scale * b.1 else h.arrivalStart p.frame 0 b.2
  let pcr := (h.arrivalTime s.tm.rate start * 27000000 / ((h.over * 65536000000000 : Nat) : Int)).toNat % (2 ^ 33 * 300)
  let w (k hi lo : Nat) : Nat := bits (s.txWord f k) hi lo
  let tables := if first && due then tsSplit 0 183 true none none ++ tsSplit (w 10 12 0) 183 true none none else []
  let video := if first then tsSplit (w 9 12 0) (19 + bytes) true (some (at90 t h.n)) (some pcr) else tsSplit (w 9 12 0) bytes false none none
  let sample := gridInstant (gridFrom (beatStart s.tm.rate p.frame))
  let audio := if access && bit (s.txWord f 11) 5 then
      tsSplit (w 9 28 16) (14 + s.embedBytes f p.frame h.m) true (some (at90 (t + sample * h.n - beatStart s.tm.rate p.frame * h.n) h.n)) none
    else []
  (tables ++ video ++ audio, first && due)

/-- A flow's counters after transport stream packets. -/
def State.tsSent (s : State) (f : Nat) (first tables : Bool) (cc : List (Nat × Nat)) : State :=
  let x := tget {} s.net.tx f
  let n := if tables then some 1 else if first then x.tables.map (· + 1) else x.tables
  { s with net := { s.net with tx := tins f { x with cc := cc, tables := n } s.net.tx } }

/-- One emission of a channel goes to its flows and ferries (R199, R332, R333, R387). `first` and `access` say that it begins and ends
its access unit. -/
def State.sendEmission (s : State) (c : Nat) (p : EncPicture) (first access : Bool) (nals : List (Nat × List DuMark)) : State :=
  let codec := encField p.words Reg.ENC_CH_CFG_CODEC
  let bytes := (nals.map fun e => e.1 + 4).sum
  let ts := rtpStamp s.tm.rate p.frame
  let flow (t : State) (f : Nat) : State :=
    if bits (t.txWord f 0) 23 21 = 2 then
      let (l, tables) := t.tsPackets f c p first access bytes
      let (l, cc) := tsCount (tget {} t.net.tx f).cc l
      State.formPackets f p.frame ts access p.blocked (packTs l nals.length) (nals.map (·.2)) (t.tsSent f first tables cc)
    else
      let maxP := t.txWord f 8 % 16384
      let sizes := nals.map (·.1)
      State.formPackets f p.frame ts access p.blocked
        ((packNals maxP [] sizes).zip (packForms (codec = 0) access maxP [] sizes)) (nals.map (·.2)) t
  (s.each (s.flowsOf [codec, 2] c) flow).ferrySend c bytes p.frame

/-- A latency stage of a channel is measured, in ns (R201). -/
def State.latency (s : State) (c k ticks : Nat) : State :=
  let v := min 0xFFFFFFFF (ticks / 65536)
  let s1 := s.wr (RCE c) (Reg.RC_LAT_LAST k) v
  if s1.rd (RCE c) (Reg.RC_LAT_MAX k) < v then s1.wr (RCE c) (Reg.RC_LAT_MAX k) v else s1

/-- Stages 0 to 2 of slice `i` at its emission (R201). -/
def State.sliceLatency (s : State) (c : Nat) (p : EncPicture) (i : Nat) : State :=
  let row := p.row ((sliceSpan p.words i).2 - 1)
  match row.handed, row.released, (p.slices.getD i {}).assembled with
  | some a, some b, some d => ((s.latency c 0 (b - a)).latency c 1 (d - b)).latency c 2 (s.tm.sys - d)
  | _, _, _ => s

/-- Flags of a record whose item comes from frame `n` of raster `r` (R412), without THERMAL_MISSING. -/
def State.recordFlags (s : State) (r n : Nat) : Nat :=
  match (s.ras r).composed.find? fun f => f.frame = n with
  | some f => b2n f.decLoss <<< 2 ||| b2n f.errored <<< 3
  | none => 0

/-- The record of an emitted slice (R411), with the CRC-32C of its bytes and of the filler that follows it. -/
def State.sliceRecord (s : State) (c : Nat) (p : EncPicture) (i : Nat) : State :=
  let r := encField p.words Reg.ENC_CH_CFG_RASTER
  let flags := b2n p.overrun ||| b2n p.hintError <<< 1 ||| s.recordFlags r p.frame
  let fill := s.fillerAfter c p i
  let bytes := p.sliceData i ++ (if fill = 0 then [] else fillerData (isHevc p.words) fill)
  s.mateRecord { item := { kind := 0, unit := c, index := i % 256, frame := p.frame }, flags := flags, value := crc32c bytes }

/-- Slices `l` of picture `p` are emitted together. -/
def State.emitSlices (s : State) (c : Nat) (p : EncPicture) (l : List Nat) : State :=
  let access := l.contains (p.slices.length - 1)
  let s1 := s.sendEmission c p (l.contains 0) access (l.flatMap fun i => s.sliceNals c p i)
  let s2 := s1.each l fun t i => (t.sliceLatency c p i).sliceRecord c p i
  s2.setChan c ((s2.chan c).setPic { p with emitted := p.emitted + l.length,
                                            nals := p.nals ++ l.flatMap fun i => (s.emittedNals c p i).map (·.1) })

/-- Emission in bitstream order (R170, R32): `n` bounds the slices that may still leave. -/
def State.emitReady (c : Nat) : Nat → State → State
  | 0, s => s
  | n + 1, s =>
    match (s.chan c).pictures.find? fun p => p.emitted < p.slices.length with
    | some p =>
      if encField p.words Reg.ENC_CH_CFG_LATENCY = 0 then
        if (p.slices.getD p.emitted {}).assembled.isSome then State.emitReady c n (s.emitSlices c p [p.emitted]) else s
      else if p.slices.all fun z => z.assembled.isSome then
        State.emitReady c n (s.emitSlices c p (List.range p.slices.length))
      else s
    | none => s

/-- The rungs of a ladder have no use for the analysis of picture `n` of rung 0 any more (R226). -/
def State.analysisUsed (s : State) (x : EncChannel) (n : Nat) : Bool :=
  match x.rung with
  | some (l, 0) => s.enc.channels.all fun e => match e.2.rung with
    | some (k, i) => k ≠ l || i = 0 || !e.2.running || (n < e.2.nextPicture &&
        (match e.2.pic n with | some p => p.jobsDone | none => true))
    | none => true
  | _ => true

/-- A picture that a job of the channel still refers to: one of the MAX_REFS before a picture with jobs to complete, or before the next (R154,
R160, R226). -/
def EncChannel.referred (x : EncChannel) (p : EncPicture) : Bool :=
  let next := match x.pictures.find? fun q => !q.jobsDone with | some q => q.number | none => x.nextPicture
  next ≤ p.number + p.enc Reg.ENC_GOP_CFG_MAX_REFS

/-- The channel's oldest picture, once nothing refers to it any more, is dropped; the sizes and QPs of its rows stay known for
planning (R194). -/
def State.prunePicture (s : State) (c : Nat) : State :=
  let x := s.chan c
  match x.pictures with
  | p :: q :: rest =>
    let entered := match x.allRows.find? fun e => !(e.1.row e.2).entered with | some e => e.1.seq + e.2 | none => x.nextSeq
    if p.slices.length ≤ p.emitted && p.through (p.rows.length - 1) && q.before.isSome && p.seq + p.rows.length + 64 ≤ entered &&
        s.analysisUsed x p.number && !x.referred p then
      let known := (List.range p.rows.length).foldl (fun t r => tins (p.kind * 65536 + r) ((p.row r).qp, (p.row r).size) t) x.known
      s.setChan c { x with pictures := q :: rest, known := known }
    else s
  | _ => s

/-- Entropy engine `e` completes the assembly of its slice once every row of it is released and produced (R169, R170). -/
def State.sliceAssembled (s : State) (e : Nat) : State :=
  match tfind s.enc.entropy e with
  | some (c, n, i, t0) =>
    match (s.chan c).pic n with
    | some p =>
      let (a, b) := sliceSpan p.words i
      let rows := (List.range b).filter (a ≤ ·)
      if rows.all fun r => (p.row r).released.isSome && !(p.row r).recoding then
        let s1 := (s.setSlice c n i fun z => { z with assembled := some s.tm.sys }).entropyEnds e t0
        let s3 := (s1.obsAdd 2 e 1 1).workPut c p 3 (n % 3) ((p.sliceData i).zipIdx.map fun b => (i * 2 ^ 24 + b.2, BitVec.ofNat 8 b.1))
        let slots := ((s3.chan c).pictures.map fun q => q.slices.length).sum
        ((State.emitReady c slots s3).prunePicture c).encStopped c |>.encSettle
      else s
    | none => s
  | none => s

/-- SLICE_ASSEMBLED (R169, R170) on entropy engine `e` at SYSTIME `t`. -/
def execSliceAssembled (e t : Nat) (s : State) : Host.Outcome State Fault Refusal := live s (((s.advance t).sliceAssembled e).mateSettle)

/-! The start of a packet (R354, R200, R201). -/

/-- The last packet of a decoding unit leaves at `t1`: its slack (R200), in ns rounded down; the final arrival is `a / over`. -/
def State.unitSlack (s : State) (c du : Nat) (a : Int) (den t1 : Nat) : State :=
  let slack : Int := (a - (t1 * den : Nat)) / (65536 * den : Nat)
  let s1 := if slack < sgn 32 (s.rd (RCE c) Reg.RC_MIN_SLACK) then s.wr (RCE c) Reg.RC_MIN_SLACK (sat32 slack) else s
  let late := a < (t1 * den : Nat)
  let s2 := s1.wr (ENC c) ⟨0xC, 11, 11⟩ (b2n late)
  if late then
    (s2.inc (RCE c) Reg.RC_EMIT_LATE_COUNT).occur (ENC c) 0x31 du
      (min 0xFFFF ((((t1 * den : Nat) : Int) - a) / (65536000 * den : Nat)).toNat <<< 32 ||| s2.frameNo % 2 ^ 32)
  else s2

/-- A packet in which a decoding unit of a frame ends waits in some queue. -/
def State.unitWaits (s : State) (c frame du : Nat) : Bool :=
  s.sch.queues.any fun q => q.2.pkts.any fun k => k.marks.any fun m => match m with
    | .unit a f d _ _ => a = c && f = frame && d = du
    | .slice _ _ => false

/-- A packet in which a decoding unit ends leaves at `t1`: of all its flows and copies the last one counts (R200). -/
def State.unitLeaves (s : State) (c frame du : Nat) (a : Int) (den t1 : Nat) : State :=
  let x := s.chan c
  let k := frame * 65536 + du
  let t := max t1 (tget 0 x.left k)
  if s.unitWaits c frame du then s.setChan c { x with left := tput 0 x.left k t }
  else (s.setChan c { x with left := tdel k x.left }).unitSlack c du a den t

/-- What ends in a packet that leaves port `p` from `t`. -/
def State.packetMarks (s : State) (p t : Nat) (h : TxPacket) : State :=
  let t1 := t + s.wireTime p h.wire
  s.each h.marks fun u m => match m with
    | .unit c frame du a den => if u.mutedFor frame then u else u.unitLeaves c frame du a den t1
    | .slice c queued => u.latency c 3 (t1 - queued)

/-- The port's lanes transmit (R322, R308): their PHASE has passed PLL. -/
def State.portTransmits (s : State) (p : Nat) : Bool :=
  !(s.netLanes p).isEmpty && (s.netLanes p).all fun l => 2 ≤ s.phase true l

/-- NET port `p` can start a frame at `t` (R354). -/
def State.netSelect (s0 : State) (p t : Nat) : State :=
  let s := (s0.advance t).dropOversize p t
  let s1 := if t < (s.schPort p).freeAt || s.enabled (NET p) && !s.portTransmits p then s
    else
      match s.selectQueue p t with
      | some (k, committed) =>
        match s.headOf k with
        | some h => ((s.startHead p t k committed h).transmit p t h).packetMarks p t h
        | none => s
      | none => s
  s1.wr (SCH p) ⟨0xC, 2, 2⟩ (b2n (s1.gateHold p (max t (s1.schPort p).freeAt)))

/-- SCHED_SELECT (R354): SCHED port `p` can start a frame at SYSTIME `t`. -/
def execSchedSelect (p t : Nat) (s : State) : Host.Outcome State Fault Refusal :=
  live s (if p < 64 then s.netSelect p t else (s.advance t).fabSelect (p - 64) t)

end Sys2Proof.Machine
end

