-- ==== Sys2Proof/Machine/Audio.lean ====
section
/-!
DEFINITION. Audio ports (18_audio.md R422-R435): TDM frames on the sample grid, blocks and their records, transmission by
timestamp, and the streams that carry captured or ancillary data on; and the arrival of an Ethernet frame (R325).
-/

namespace Sys2Proof.Machine

/-- AUD port page; its hidden state. -/
abbrev AUD (p : Nat) : Page := ⟨.aud, p⟩
def State.audPort (s : State) (p : Nat) : AudPort := tget {} s.aud p
def State.setAud (s : State) (p : Nat) (x : AudPort) : State := { s with aud := tput {} s.aud p x }

/-- The sample count at an instant: the largest s with A(s) ≤ t (R422). -/
def sampleCount (t : Nat) : Nat := ((t + 1) * 48000 - 1) / (1000000000 * 65536)

/-- The format words of a port (R428): PORT_CFG, CLOCK_CFG without PLAYOUT, DIV_FRAC and BLOCK. -/
def State.audFormat (s : State) (p : Nat) : List Nat :=
  [s.rd (AUD p) Reg.AUD_PORT_CFG, s.rd (AUD p) Reg.AUD_CLOCK_CFG % 2 ^ 24, s.rd (AUD p) Reg.AUD_DIV_FRAC % 2 ^ 24,
   s.rd (AUD p) Reg.AUD_STREAM_CFG_BLOCK]

/-- A field of PORT_CFG, and BLOCK, of the format in force. -/
def AudPort.cfg (x : AudPort) (f : Field) : Nat := bits (x.fmt.getD 0 0) f.hi f.lo
def AudPort.blockLen (x : AudPort) : Nat := max 1 (x.fmt.getD 3 0)

/-- The mask that a port's record reports: the enabled slots of either direction (assumption log 41). -/
def maskOf (m : Nat × Nat) : Nat := m.1 ||| m.2

/-- The block in progress closes (R428-R430): its record waits for the ring where RX_EN is 1. -/
def State.audClose (s : State) (p : Nat) (broken : Bool) : State :=
  let x := s.audPort p
  match x.block with
  | none => s
  | some b =>
    let flags := b2n b.change.isSome ||| b2n b.gap <<< 1 ||| b2n (b.broken || broken) <<< 2 ||| b2n b.format <<< 3
    let rec' := blockRecord b.first b.mask0 flags (b.change.getD 0) b.mask x.seq p b.words
    let keep := s.rd (AUD p) Reg.AUD_RX_RING_RX_EN = 1
    let s1 := s.setAud p { x with block := none, seq := (x.seq + 1) % 2 ^ 32,
                                  records := if keep then x.records ++ [rec'] else x.records }
    if s.rd (AUD p) Reg.AUD_STREAM_CFG_TX_EN = 1 then s1.wr (AUD p) ⟨0xC, 1, 1⟩ (b2n b.gap) else s1

/-- Samples of a TX flow's channels take 3 bytes, or 2 where the port's word is 16 bits (R433, R334). -/
def AudPort.sampleBytes (x : AudPort) : Nat := if x.cfg Reg.AUD_PORT_CFG_WORD = 16 then 2 else 3

/-- KIND 4 flows of a port whose packet ends with the frame before `g` (R433). -/
def State.audFlows (s : State) (p g : Nat) : State :=
  let x := s.audPort p
  s.each (s.flowsOf [4] p) fun t f =>
    let n := if bit (t.txWord f 11) 20 then 6 else 48
    match x.since with
    | some a =>
      if g % n = 0 && a + n ≤ g then
        let w := t.txWord f 11
        let bytes := (x.recent.drop (x.recent.length - n)).flatMap fun words =>
          (List.range (bits w 19 14)).flatMap fun j => (List.range x.sampleBytes).map fun k =>
            words.getD (bits w 13 8 + j) 0 / 256 ^ (3 - k) % 256
        t.formPacket f t.tm.frame (g - n) false (n * bits w 19 14 * x.sampleBytes) t.tm.sys none [] (.samples bytes)
      else t
    | none => t

/-- What SDO carries in slot `i` of frame `g` (R426, R432): the driven bits, and whether a sample was missing. -/
def State.sdoSlot (s : State) (p g i : Nat) (x : AudPort) (sending : Bool) : Option Nat × Bool :=
  let q := AUD p
  let width := x.cfg Reg.AUD_PORT_CFG_SLOT_WIDTH
  let w := min (x.cfg Reg.AUD_PORT_CFG_WORD) width
  let src := s.rd q Reg.AUD_STREAM_CFG_SRC_STREAM
  if sending && bit (s.rd q Reg.AUD_TX_MASK) i then
    match if 6 * s.rd q Reg.AUD_CLOCK_CFG_PLAYOUT ≤ g && s.enabled (ING src) then
        s.audioSample src (g - 6 * s.rd q Reg.AUD_CLOCK_CFG_PLAYOUT) (s.rd q Reg.AUD_STREAM_CFG_FIRST_CH + i) else none with
    | some v => (some (v / 2 ^ (32 - w) * 2 ^ (width - w)), false)
    | none => (some 0, true)
  else (if x.cfg Reg.AUD_PORT_CFG_SDO_MODE = 1 then some 0 else none, false)

/-- A captured word, MSB-aligned in 32 bits (R426); `v` is what SDI carries in the slot. -/
def AudPort.captured (x : AudPort) (v : Nat) : Nat :=
  let width := x.cfg Reg.AUD_PORT_CFG_SLOT_WIDTH
  let w := min (x.cfg Reg.AUD_PORT_CFG_WORD) width
  v % 2 ^ width / 2 ^ (width - w) * 2 ^ (32 - w)

/-- The clocks of a TDM frame (R423, R426): bit clock j begins floor(j × ratio) audio PLL cycles after A(s), and FSYNC asserts with the first. -/
def AudPort.wave (x : AudPort) : AudWave :=
  let clock := x.fmt.getD 1 0
  let ratio := bits clock 23 16 * 2 ^ 24 + x.fmt.getD 2 0
  { clocks := (List.range (bits clock 10 0)).map fun j => j * ratio / 2 ^ 24,
    fsync := if x.cfg Reg.AUD_PORT_CFG_FSYNC_LONG = 1 then x.cfg Reg.AUD_PORT_CFG_SLOT_WIDTH else 1,
    activeLow := x.cfg Reg.AUD_PORT_CFG_FSYNC_POL = 1, inverted := x.cfg Reg.AUD_PORT_CFG_BCLK_INV = 1 }

/-- Frame `g` of a block in progress is transmitted and captured (R426, R429, R432). -/
def State.audSlots (s : State) (p g : Nat) (sdi : List Nat) : State :=
  let q := AUD p
  let x := s.audPort p
  let n := x.cfg Reg.AUD_PORT_CFG_SLOTS_M1 + 1
  let m := (s.rd q Reg.AUD_TX_MASK, s.rd q Reg.AUD_RX_MASK)
  let sending := s.rd q Reg.AUD_STREAM_CFG_TX_EN = 1 && x.block.isSome
  let out := (List.range n).map fun i => s.sdoSlot p g i x sending
  let gap := out.any (·.2)
  let words := (List.range 32).map fun i => if i < n && bit m.2 i then x.captured (sdi.getD i 0) else 0
  let s1 := (s.emit (.audio p g (out.map (·.1)) x.wave)).setAud p { x with recent := (x.recent ++ [words]).drop ((x.recent ++ [words]).length - 48) }
  let x := s1.audPort p
  match x.block with
  | some b =>
    let changed : Bool := match x.masks with | some old => !(old == m) | none => false
    let b1 := { b with words := b.words ++ [words], gap := b.gap || gap, mask := maskOf m,
                       change := if changed then some (g - b.first) else b.change }
    let s2 := s1.setAud p { x with block := some b1, masks := some m }
    if gap && !b.gap then s2.occur q 0x20 0 ((x.seq % 65536) <<< 32 ||| s2.frameNo % 2 ^ 32) else s2
  | none => s1.setAud p { x with masks := some m }

/-- A SYSTIME step closes the block in progress (R424). -/
def State.audStep (s : State) (p : Nat) : State :=
  let x := s.audPort p
  if x.last.isSome && x.steps ≠ s.tm.steps then
    let s1 := (s.audClose p true).occurF (AUD p) 0x21 0
    s1.setAud p { s1.audPort p with steps := s.tm.steps, since := none }
  else s

/-- Frame `g` begins on an enabled port (R422-R429). -/
def State.audFrame (s0 : State) (p g : Nat) (sdi : List Nat) : State :=
  let q := AUD p
  let stepped := (s0.audPort p).last.isSome && (s0.audPort p).steps ≠ s0.tm.steps
  let s := s0.audStep p
  let x := s.audPort p
  if (match x.last with | some l => Nat.ble g l | none => false) then s
  else
    let first := x.last.isNone
    let sF := s.audFlows p g
    let s1 := if first then
        ((sF.setAud p { x with fmt := s.audFormat p, steps := s.tm.steps }).wr q Reg.AUD_PORT_STATE_RUNNING 1).wr q
          Reg.AUD_PORT_STATE_PLL_LOCK 1
      else sF
    let edge := g % (s1.audPort p).blockLen = 0
    let s2 := if edge then s1.audClose p false else s1
    let x2 := s2.audPort p
    let fresh := edge && !first && x2.fmt ≠ s.audFormat p
    let s3 := if fresh then (s2.setAud p { x2 with fmt := s.audFormat p }).occurF q 0x22 0 else s2
    let x3 := s3.audPort p
    let m := maskOf (s.rd q Reg.AUD_TX_MASK, s.rd q Reg.AUD_RX_MASK)
    let s4 := if edge || stepped then
        s3.setAud p { x3 with block := some { first := g, mask0 := m, mask := m, format := fresh },
                              since := some (x3.since.getD g) }
      else s3
    let s5 := s4.audSlots p g sdi
    s5.setAud p { s5.audPort p with last := some g }

/-- AUDIO_FRAME_START (R422): a grid frame begins at SYSTIME `t` on every enabled port; `sdi` gives what SDI carries in the slots
of each port during the frame. -/
def execAudioFrameStart (t : Nat) (sdi : List (Nat × List Nat)) (s0 : State) : Host.Outcome State Fault Refusal :=
  let s := s0.advance t
  live s0 (s.each ((List.range 16).filter fun p => s.enabled (AUD p)) fun u p =>
    u.audFrame p (sampleCount u.tm.sys) (tget [] sdi p))

/-- AUDIO_BLOCK_WRITE (R430): the oldest waiting record of port `p` is written to its ring, header last. -/
def State.audWrite (s : State) (p : Nat) : State :=
  let x := s.audPort p
  match x.records with
  | r :: rest =>
    let k := s.rd (AUD p) Reg.AUD_PORT_STATE_RX_WRITTEN % 2 ^ s.rd (AUD p) Reg.AUD_RX_RING_ENTRIES_LOG2
    let a := s.rd (AUD p) Reg.AUD_RX_RING_BASE * 65536 + k * (32 + 128 * x.blockLen)
    ((s.setAud p { x with records := rest }).writeChecked .firmware a r).inc (AUD p)
      Reg.AUD_PORT_STATE_RX_WRITTEN
  | [] => s

/-- AUDIO_BLOCK_WRITE (R430) of port `p`. -/
def execAudioBlockWrite (p : Nat) (s : State) : Host.Outcome State Fault Refusal := live s (s.audWrite p)

/-- What the application of an arm does to a port (R426, R428): a disabled one stops and drives nothing. -/
def State.audApplied (s : State) (p : Nat) : State :=
  if s.enabled (AUD p) then s
  else ((s.setAud p { seq := (s.audPort p).seq }).wr (AUD p) Reg.AUD_PORT_STATE_RUNNING 0).wr (AUD p) ⟨0xC, 1, 1⟩ 0

/-- Every ring, decode area, host surface and work area that R79 and R152 protect: page, base, bytes. -/
def State.protectedExtents (s : State) (v : Values) : List (Page × Nat × Nat) :=
  ((enabledOf v .ingest 64).map fun k => (ING k, ingestBase v k, ingestExtent v k)) ++
  ((enabledOf v .dec 64).map fun k => (DEC k, decBase v k, (decArea v k).2)) ++
  (((enabledOf v .compLayer 128).filter fun l => v (LAYER l) Reg.LAYER_LAYER_CFG_SOURCE = 2).map fun l =>
    (LAYER l, (hostExtent v l).1, (hostExtent v l).2)) ++
  ((enabledOf v .enc 128).map fun k => (ENC k, v (ENC k) Reg.ENC_WORK_BASE % 2 ^ 21 * 65536, (s.chan k).units * 65536))

/-- The checks of R427 on an enabled port. -/
def State.audChecks (s : State) (v : Values) (p : Nat) : List Charge :=
  let q := AUD p
  let slots := v q Reg.AUD_PORT_CFG_SLOTS_M1 + 1
  let width := v q Reg.AUD_PORT_CFG_SLOT_WIDTH
  let word := v q Reg.AUD_PORT_CFG_WORD
  let n := v q Reg.AUD_CLOCK_CFG_FRAME_BCLKS
  let ratio := v q Reg.AUD_CLOCK_CFG_DIV_INT * 2 ^ 24 + v q Reg.AUD_DIV_FRAC % 2 ^ 24
  let src := v q Reg.AUD_STREAM_CFG_SRC_STREAM
  let base := v q Reg.AUD_RX_RING_BASE * 65536
  let e := v q Reg.AUD_RX_RING_ENTRIES_LOG2
  let len := 2 ^ e * (32 + 128 * v q Reg.AUD_STREAM_CFG_BLOCK)
  let rx := v q Reg.AUD_RX_RING_RX_EN = 1
  let flowBad (f : Nat) : Bool :=
    let w := s.txWord f 11
    let top := bits w 13 8 + bits w 19 14
    slots < top || (bits (s.txWord f 0) 23 21 = 4 && !bit w 20 && 8 < bits w 19 14) ||
      (bits (s.txWord f 0) 23 21 = 2 && !([2, 4, 6, 8].contains (bits w 19 14)))
  let embeds := (List.range 128).flatMap fun c => (s.flowsOf [2] c).filter fun f => bit (s.txWord f 11) 5 && bits (s.txWord f 11) 4 0 = p
  let hit := if rx then ((s.protectedExtents v).filter fun x => overlaps base len x.2.1 x.2.2).map (·.1) else []
  charge1 q (width < 8 || 32 < width || word < 16 || 24 < word || n < 16 || v q Reg.AUD_CLOCK_CFG_DIV_INT < 2 ||
    128 < v q Reg.AUD_CLOCK_CFG_DIV_INT || v q Reg.AUD_STREAM_CFG_BLOCK < 8 || 256 < v q Reg.AUD_STREAM_CFG_BLOCK || e < 4 ||
    n < v q Reg.AUD_PORT_CFG_OFFSET + slots * width || 2048 * 2 ^ 24 < n * ratio || n * ratio + ratio ≤ 2048 * 2 ^ 24 ||
    v q Reg.AUD_TX_MASK / 2 ^ slots ≠ 0 || v q Reg.AUD_RX_MASK / 2 ^ slots ≠ 0 || (rx && poolSize < base + len) ||
    (s.flowsOf [4] p ++ embeds).any flowBad) 0x01 ++
  (if v q Reg.AUD_STREAM_CFG_TX_EN = 1 && !(v (ING src) Reg.PAGE_CTL_ENABLE = 1 && v (ING src) Reg.INGEST_STREAM_CFG_KIND = 1)
    then [{ pages := [q, ING src], named := [q], reason := 0x01 }] else []) ++
  (if !hit.isEmpty then [{ pages := q :: hit, named := [q], reason := 0x01 }] else [])

/-! The arrival of an Ethernet frame (R325, R334). -/

/-- ANC entries completed by the streams of a chiplet go out on their KIND 5 flows, one packet per entry (R334). -/
def State.ancSend (s : State) (x : Nat) : State :=
  s.each ((List.range 32).map (32 * x + ·)) fun t i =>
    let z := t.stream i
    if z.ancOut.isEmpty then t
    else
      let t1 := t.setStream i { z with ancOut := [] }
      t1.each z.ancOut fun u n => u.each (u.flowsOf [5] i) fun w f =>
        w.formPacket f w.tm.frame (rtpStamp w.tm.rate w.tm.frame) true n w.tm.sys none [] .ancillary

/-- ETH_FRAME_RECEIVED (R325): frame `f` arrives on NET port `p` at SYSTIME `t`. -/
def execEthFrameReceived (p t : Nat) (f : EthFrame) (s : State) : Host.Outcome State Fault Refusal :=
  live s (((s.advance t).ethFrame p f).ancSend (p / 32))

end Sys2Proof.Machine
end

