-- ==== Sys2Proof/Machine/Cvu.lean ====
section
/-!
DEFINITION. Check-value units (19_check_values.md R436-R449): the CRC, memory scans, snoops, results and compares.
-/

namespace Sys2Proof.Machine

/-- CVU page; hidden state of a unit. -/
abbrev CVU (n : Nat) : Page := ⟨.cvu, n⟩
def State.unit (s : State) (n : Nat) : CvuUnit := tget {} s.cvu n
def State.setUnit (s : State) (n : Nat) (x : CvuUnit) : State := { s with cvu := tput {} s.cvu n x }

/-- Offset of the unit's OP_STATUS. -/
abbrev cvuOp : Nat := 0x58

/-! The algorithm (R436, R437). -/

/-- The low `n` bits of a number in reverse order. -/
def reflect (n v : Nat) : Nat := ((List.range n).map fun i => if v.testBit i then 2 ^ (n - 1 - i) else 0).sum

/-- One bit of a byte enters the CRC. -/
def crcBit (w poly r : Nat) (b : Bool) : Nat :=
  let top := xor (r.testBit (w - 1)) b
  let r1 := (r <<< 1) % 2 ^ w
  if top then r1 ^^^ poly else r1

/-- One byte enters the CRC. -/
def crcByte (w poly : Nat) (refin : Bool) (r b : Nat) : Nat :=
  let v := if refin then reflect 8 b else b
  (List.range 8).foldl (fun a k => crcBit w poly a (v.testBit (7 - k))) r

/-- w, P, init, refin, refout and xorout that a unit's configuration selects; w is 0 where SYS_ALG is reserved (R437). -/
def State.cvuAlg (s : State) (n : Nat) : List Nat :=
  let q := CVU n
  let x := s.unit n
  if s.rd q Reg.CVU_CVU_CFG_CLASS = 0 then
    match s.rd q Reg.CVU_CVU_CFG_SYS_ALG with
    | 0 => [16, 0x1021, 0xFFFF, 0, 0, 0]
    | 1 => [32, 0x04C11DB7, 0xFFFFFFFF, 1, 1, 0xFFFFFFFF]
    | 2 => [32, 0x1EDC6F41, 0xFFFFFFFF, 1, 1, 0xFFFFFFFF]
    | _ => [0, 0, 0, 0, 0, 0]
  else
    let w := s.rd q Reg.CVU_CVU_CFG_WIDTH_M1 + 1
    [w, x.poly % 2 ^ w, x.init % 2 ^ w, s.rd q Reg.CVU_CVU_CFG_REFIN, s.rd q Reg.CVU_CVU_CFG_REFOUT, x.xorout % 2 ^ w]

/-- The width, and the initial value, of the operation. -/
def CvuUnit.width (x : CvuUnit) : Nat := x.alg.getD 0 0
def CvuUnit.start (x : CvuUnit) : Nat := x.alg.getD 2 0

/-- A field of the sampled CVU_CFG. -/
def CvuUnit.cfgField (x : CvuUnit) (f : Field) : Nat := bits x.cfg f.hi f.lo
def CvuUnit.snoopField (x : CvuUnit) (f : Field) : Nat := bits x.snoop f.hi f.lo

/-- Bytes are fed. -/
def CvuUnit.feed (x : CvuUnit) (l : List Nat) : CvuUnit :=
  { x with running := l.foldl (crcByte x.width (x.alg.getD 1 0) (x.alg.getD 3 0 = 1)) x.running, done := x.done + l.length }

/-- The result that the running value gives. -/
def CvuUnit.final (x : CvuUnit) : Nat :=
  (if x.alg.getD 4 0 = 1 then reflect x.width x.running else x.running) ^^^ x.alg.getD 5 0

/-- The unit is RUNNING. -/
def State.cvuRuns (s : State) (n : Nat) : Bool := s.opState (CVU n) cvuOp = 1

/-! Results and ends (R441, R443, R444, R446). -/

/-- The operation ends in a STATE; a scan's lease ends with it (R447). -/
def State.cvuEnd (s : State) (n st : Nat) : State := (s.wr (CVU n) ⟨cvuOp, 2, 0⟩ st).scanRelease n

/-- The operation ends FAILED with a cause (R444). -/
def State.cvuFail (s : State) (n cause : Nat) : State :=
  ((s.cvuEnd n 4).wr (CVU n) Reg.CVU_CVU_STATE_FAIL_CAUSE cause).occurF (CVU n) 0x22 cause

/-- A result is formed and, with COMPARE_EN, compared (R441, R446); whether it mismatched. -/
def State.cvuResult (s : State) (n : Nat) : State × Bool :=
  let q := CVU n
  let x := s.unit n
  let v := x.final
  let s1 := ((s.setUnit n { x with result := v }).inc q Reg.CVU_RESULTS).wr q Reg.CVU_LAST_FRAME s.frameNo
  if x.cfgField Reg.CVU_CVU_CFG_COMPARE_EN = 0 then (s1, false)
  else
    let bad : Bool := !(v == x.expected % 2 ^ x.width)
    let s2 := ((s1.inc q Reg.CVU_COMPARES).wr q Reg.CVU_CVU_STATE_LAST_MATCH (b2n (!bad))).wr q Reg.CVU_CVU_STATE_LAST_MISMATCH
      (b2n bad)
    if bad then ((s2.inc q Reg.CVU_MISMATCHES).occurF q 0x20 0, true) else (s2, false)

/-! Memory scan (R441). -/

/-- PROGRESS of a scan: whole 4 KiB units of DONE. -/
def State.cvuProgress (s : State) (n : Nat) : State := s.wr (CVU n) ⟨cvuOp, 31, 8⟩ (min 0xFFFFFF ((s.unit n).done / 4096))

/-- The scan consumes bytes up to position `to` of its range. -/
def State.cvuConsume (s : State) (n upto : Nat) : State :=
  let x := s.unit n
  let l := (s.bytesAt (x.span.1 + x.done) (upto - x.done)).map fun b => b.toNat
  (s.setUnit n (x.feed l)).cvuProgress n

/-- How far a running scan has come when it is looked at or aborted is a free value: some 32-byte multiple below its end. -/
def State.cvuLook (s : State) (n : Nat) : State :=
  let x := s.unit n
  if s.cvuRuns n && x.cfgField Reg.CVU_CVU_CFG_MODE = 0 then
    let k := (x.span.2 - 1 - x.done) / 32
    (s.drawn.cvuConsume n (x.done + 32 * (s.free 37 % (k + 1))))
  else s

/-- CVU_SCAN_DONE (R441): the scan reaches the end of its range. -/
def State.cvuScanDone (s : State) (n : Nat) : State :=
  let x := s.unit n
  if s.cvuRuns n && x.cfgField Reg.CVU_CVU_CFG_MODE = 0 then ((s.cvuConsume n x.span.2).cvuResult n).1.cvuEnd n 2 else s

/-- CVU_SCAN_DONE (R441) of unit `n`. -/
def execCvuScanDone (n : Nat) (s : State) : Host.Outcome State Fault Refusal := live s (s.cvuScanDone n)

/-- CVU_MEMORY_ERROR (R444): an uncorrectable HBM error in the scanned block that begins `k` bytes into the range. -/
def State.cvuError (s : State) (n k : Nat) : State :=
  let x := s.unit n
  if s.cvuRuns n && x.cfgField Reg.CVU_CVU_CFG_MODE = 0 && x.done ≤ k && k < x.span.2 then (s.cvuConsume n k).cvuFail n 5 else s

/-- CVU_MEMORY_ERROR (R444). -/
def execCvuMemoryError (n k : Nat) (s : State) : Host.Outcome State Fault Refusal := live s (s.cvuError n k)

/-! START and ABORT (R438, R441, R444, R445, R447). -/

/-- A span overlaps sealed storage, or a surface, ring, decode area or host surface that is sealed (R445, R463). -/
def State.meetsSealed (s : State) (lo len : Nat) : Bool :=
  s.sealedSpan lo len ||
    (s.protectedExtents s.rd).any (fun e => overlaps lo len e.2.1 e.2.2 && s.sealedSpan e.2.1 e.2.2) ||
    s.leases.any fun e => overlaps lo len (e.2.base * 65536) (e.2.size * 65536) && s.sealedSpan (e.2.base * 65536) (e.2.size * 65536)

/-- The first frame, or publication, that a snoop may feed: one that begins at or after START (R442). -/
def State.snoopFirst (s : State) (kind inst : Nat) : Nat :=
  match kind with
  | 0 => (s.stream inst).ring.nextOrder + b2n (s.stream inst).ring.fill.isSome
  | 1 => match (s.ras inst).composed with | c :: _ => c.frame + 1 | [] => 0
  | 2 => match (s.chan inst).pictures.find? fun p => p.emitted = 0 with | some p => p.number | none => (s.chan inst).nextPicture
  | _ => 0

/-- The cause for which START fails, 0 for none (R444). -/
def State.cvuCause (s : State) (n : Nat) (owner : Bool) : Nat :=
  let q := CVU n
  let x := s.unit n
  let w := (s.cvuAlg n).getD 0 0
  let bad := w < 8
  let inst := s.rd q Reg.CVU_SNOOP_CFG_INST
  if s.rd q Reg.CVU_CVU_CFG_MODE = 0 then
    if x.len = 0 || poolSize < x.addr + x.len then 1
    else if bad then 2
    else if !owner && s.meetsSealed x.addr x.len then 4 else 0
  else if bad || s.rd q Reg.CVU_SNOOP_CFG_FRAMES = 0 then 2
  else
    match s.rd q Reg.CVU_SNOOP_CFG_KIND with
    | 0 => if 64 ≤ inst || s.rd (ING inst) Reg.INGEST_STREAM_CFG_KIND ≠ 0 then 3 else 0
    | 1 => if 32 ≤ inst then 3 else 0
    | 2 => if 128 ≤ inst then 3 else 0
    | 3 => if 896 ≤ inst then 3 else 0
    | _ => 3

/-- OP_CTL.START by a role (R441, R442, R444): the operation begins, or fails and consumes nothing. -/
def State.cvuStart (s : State) (a : Access) (n : Nat) : State :=
  let q := CVU n
  s.opStart q cvuOp 0 fun t =>
    let x := t.unit n
    let owner := t.roleOf a = some .owner
    let alg := t.cvuAlg n
    let t0 := ((t.wr q Reg.CVU_CVU_STATE_LAST_MISMATCH 0).wr q Reg.CVU_CVU_STATE_SEALED_FED 0).wr q
      Reg.CVU_CVU_STATE_FAIL_CAUSE 0
    let cause := t.cvuCause n owner
    let r := if t.rd q Reg.CVU_CVU_CFG_RESUME = 1 then x.running % 2 ^ alg.getD 0 0 else alg.getD 2 0
    let y := { x with cfg := t.rd q Reg.CVU_CVU_CFG, snoop := t.rd q Reg.CVU_SNOOP_CFG, alg := alg, span := (x.addr, x.len),
                      owner := owner, done := 0, gather := none, left := t.rd q Reg.CVU_SNOOP_CFG_FRAMES,
                      next := t.snoopFirst (t.rd q Reg.CVU_SNOOP_CFG_KIND) (t.rd q Reg.CVU_SNOOP_CFG_INST) }
    if cause ≠ 0 then ((t0.setUnit n y).setOp q cvuOp 1 0).cvuFail n cause
    else
      let t1 := (t0.setUnit n { y with running := r }).setOp q cvuOp 1 0
      if t.rd q Reg.CVU_CVU_CFG_MODE = 0 then
        let t2 := t1.scanTake n x.addr x.len
        if t.meetsSealed x.addr x.len then t2.wr q Reg.CVU_CVU_STATE_SEALED_FED 1 else t2
      else t1

/-- OP_CTL.ABORT (R447). -/
def State.cvuAbort (s : State) (n : Nat) : State :=
  if s.cvuRuns n then (s.cvuLook n).cvuEnd n 3 else s.opAbort (CVU n) cvuOp 0

/-! Snooping (R442, R443). -/

/-- The next frame of the snooped source that is whole: its number, whether it is sealed, its bytes, or none where the codec
chose them, and how many they are. -/
def State.snoopFrame (s : State) (x : CvuUnit) : Option (Nat × Bool × Option (List Nat) × Nat) :=
  let i := x.snoopField Reg.CVU_SNOOP_CFG_INST
  match x.snoopField Reg.CVU_SNOOP_CFG_KIND with
  | 0 =>
    let g := (s.stream i).ring
    match leastBy (tget 0 g.order) ((g.order.filter fun e => x.next ≤ e.2).map (·.1)) with
    | some k =>
      let fmt := samplingFormat (s.rd (ING i) Reg.INGEST_FORMAT_SAMPLING)
      let w := s.rd (ING i) Reg.INGEST_GEOMETRY_WIDTH
      let h := s.rd (ING i) Reg.INGEST_GEOMETRY_HEIGHT
      let bs := (List.range h).flatMap fun y =>
        (s.bytesAt (g.slotBase k + y * pitchOf fmt w) (w * formatBytes fmt)).map fun b => b.toNat
      some (tget 0 g.order k, s.sealedSpan g.base (g.slots * g.slotBytes), some bs, bs.length)
    | none => none
  | 1 =>
    ((s.ras i).composed.reverse.find? fun c => x.next ≤ c.frame && c.lines.length = c.height).map fun c =>
      let bs := c.lines.flatMap fun e => e.2.flatMap fun p =>
        [p.r / 256, p.r % 256, p.g / 256, p.g % 256, p.b / 256, p.b % 256]
      (c.frame, c.isSealed, some bs, bs.length)
  | 2 =>
    ((s.chan i).pictures.find? fun p => x.next ≤ p.number && p.slices.length ≤ p.emitted).map fun p =>
      let n := ((List.range p.slices.length).flatMap fun k => s.sliceNals i p k).foldl (fun m e => m + e.1 + 4) 0
      (p.number, p.isSealed, none, n)
  | _ => match x.gather with
    | some (f, isSealed, true, bs) => some (f, isSealed, some bs, bs.length)
    | _ => none

/-- A group of frames is complete: its result, and the next group or the end (R443). -/
def State.cvuGroup (s : State) (n : Nat) : State :=
  let r := s.cvuResult n
  let x := r.1.unit n
  if x.cfgField Reg.CVU_CVU_CFG_CONTINUOUS = 0 || (r.2 && x.cfgField Reg.CVU_CVU_CFG_STOP_ON_MISMATCH = 1) then r.1.cvuEnd n 2
  else r.1.setUnit n { x with running := x.start, done := 0, left := x.snoopField Reg.CVU_SNOOP_CFG_FRAMES }

/-- A whole snooped frame is fed (R442, R445); coded bytes make the running value a free one. -/
def State.cvuSnoop (s : State) (n : Nat) : State :=
  let x := s.unit n
  if !s.cvuRuns n || x.cfgField Reg.CVU_CVU_CFG_MODE = 0 then s
  else
    match s.snoopFrame x with
    | none => s
    | some (key, isSealed, content, count) =>
      if isSealed && !x.owner then s.cvuFail n 4
      else
        let fed := match content with
          | some l => x.feed l
          | none => { x with running := s.free 64 % 2 ^ x.width, done := x.done + count }
        let s0 := if content.isSome then s else s.drawn
        let s1 := s0.setUnit n { fed with next := key + 1, gather := none, left := x.left - 1 }
        let s2 := (if isSealed then s1.wr (CVU n) Reg.CVU_CVU_STATE_SEALED_FED 1 else s1).inc (CVU n) ⟨cvuOp, 31, 8⟩
        if x.left ≤ 1 then s2.cvuGroup n else s2

/-- CVU_SNOOP_FRAME (R442) of unit `n`. -/
def execCvuSnoopFrame (n : Nat) (s : State) : Host.Outcome State Fault Refusal := live s (s.cvuSnoop n)

/-- Units that snoop a tile lane: unit and lane. -/
def State.laneSnoops (s : State) : List (Nat × Nat) :=
  (s.cvu.filter fun e => s.cvuRuns e.1 && e.2.cfgField Reg.CVU_CVU_CFG_MODE = 1 && e.2.snoopField Reg.CVU_SNOOP_CFG_KIND = 3).map fun e =>
    (e.1, e.2.snoopField Reg.CVU_SNOOP_CFG_INST)

/-- The BEAT of a raster's frame begins the frame of its lanes' snoops (R442). -/
def State.snoopBeat (s : State) (r : Nat) (c : Composed) : State :=
  s.each (s.laneSnoops.filter fun e => (lanesOf (s.entriesL r)).contains e.2) fun t e =>
    t.setUnit e.1 { t.unit e.1 with gather := some (c.frame, c.isSealed, false, []) }

/-- The payload of the LINE packets of line `y` is gathered, sent or not (R442). -/
def State.snoopLine (s : State) (r y : Nat) (c : Composed) : State :=
  s.each s.laneSnoops fun t e =>
    match (t.unit e.1).gather with
    | some (f, sealed', false, bs) =>
      if f ≠ c.frame then t
      else
        let more := ((t.entriesL r).filter fun g => g.lane = e.2 && g.y ≤ y && y < g.y + g.h).flatMap fun g =>
          (linePacket g (y - g.y) c.frame 0 ((List.range g.w).map fun i => t.wirePixel r c g (g.x + i) y)).payload
        t.setUnit e.1 { t.unit e.1 with gather := some (f, sealed', false, bs ++ more) }
    | _ => t

/-- The frame's last LINE packet has been formed. -/
def State.snoopWhole (s : State) (frame : Nat) : State :=
  s.each s.laneSnoops fun t e =>
    match (t.unit e.1).gather with
    | some (f, sealed', false, bs) => if f = frame then t.setUnit e.1 { t.unit e.1 with gather := some (f, sealed', true, bs) } else t
    | _ => t

/-! The value port (R439, R440, R445). -/

/-- The width by which RUNNING reads: of the operation while it runs, else of the present configuration. -/
def State.cvuWidth (s : State) (n : Nat) : Nat :=
  let w := if s.cvuRuns n then (s.unit n).width else (s.cvuAlg n).getD 0 0
  if w = 0 then 64 else w

/-- A role below OWNER (R450). -/
def belowOwner (r : Option Role) : Bool := match r with | some .owner => false | some .factory => false | _ => true

/-- The value that VAL_SEL chooses, as a role sees it. -/
def State.cvuValue (s : State) (a : Access) (n : Nat) : Nat :=
  let x := s.unit n
  let hidden := s.rd (CVU n) Reg.CVU_CVU_STATE_SEALED_FED = 1 && belowOwner (s.roleOf a)
  match s.rd (CVU n) Reg.CVU_VAL_SEL % 16 with
  | 0 => x.poly | 1 => x.init | 2 => x.xorout | 3 => x.expected
  | 4 => if hidden then 0 else x.running % 2 ^ s.cvuWidth n
  | 5 => if hidden then 0 else x.result
  | 6 => x.addr | 7 => x.len | 8 => x.done
  | _ => 0

/-- A read of VAL_LO captures the selected value for its requester (R440). -/
def State.cvuReadLo (s0 : State) (a : Access) (n : Nat) : State × Nat :=
  let sel := s0.rd (CVU n) Reg.CVU_VAL_SEL % 16
  let s := if sel = 4 || sel = 8 then s0.cvuLook n else s0
  let v := s.cvuValue a n
  let x := s.unit n
  (s.setUnit n { x with reads := (x.reads.filter fun e => e.1 ≠ a.path) ++ [(a.path, v)] }, v % 2 ^ 32)

/-- A read of VAL_HI returns the upper half of the requester's capture, 0 where it holds none. -/
def State.cvuReadHi (s : State) (a : Access) (n : Nat) : Nat :=
  match (s.unit n).reads.find? fun e => e.1 = a.path with
  | some e => e.2 / 2 ^ 32
  | none => 0

/-- A write of VAL_LO is held. -/
def State.cvuWriteLo (s : State) (n : Nat) (v : Word) : State := s.setUnit n { s.unit n with held := v.toNat }

/-- A write of VAL_HI stores both halves in one cycle (R440). -/
def State.cvuWriteHi (s : State) (n : Nat) (v : Word) : State :=
  let x := s.unit n
  let w := x.held + 2 ^ 32 * v.toNat
  let sel := s.rd (CVU n) Reg.CVU_VAL_SEL % 16
  match sel with
  | 0 => s.setUnit n { x with poly := w }
  | 1 => s.setUnit n { x with init := w }
  | 2 => s.setUnit n { x with xorout := w }
  | 3 => s.setUnit n { x with expected := w }
  | 4 => if s.cvuRuns n then s.occurF (CVU n) 0x21 sel else s.setUnit n { x with running := w }
  | 6 => s.setUnit n { x with addr := w % 2 ^ 37 }
  | 7 => s.setUnit n { x with len := w % 2 ^ 37 }
  | _ => s

/-- While an OWNER's operation that met sealed content runs, writes to the page by a role below OWNER are dropped (R445). -/
def State.cvuClosed (s : State) (a : Access) (p : Page) : Bool :=
  p.ty = .cvu && s.cvuRuns p.inst && (s.unit p.inst).owner && s.rd p Reg.CVU_CVU_STATE_SEALED_FED = 1 && belowOwner (s.roleOf a)

end Sys2Proof.Machine
end

