-- ==== Sys2Proof/Machine/Security.lean ====
section
/-!
DEFINITION. Owner tokens, policy, key slots, attestation, debug sessions and what sealed content shows in registers
(20_security.md R450-R476).
-/

namespace Sys2Proof.Machine

/-- The SEC pages. -/
abbrev SEC (i : Nat) : Page := ⟨.sec, i⟩

/-- 48 bytes of a hash or measurement. -/
def hashBytes (h : Nat) : List Byte := beBytes 48 h

/-! Measurements (R467). -/

/-- Measurement `i`. -/
def State.measure (s : State) (i : Nat) : Nat := s.sec.meas.getD i 0

/-- M ← SHA-384(M ‖ data). -/
def State.extend (s : State) (i : Nat) (data : List Byte) : State :=
  { s with sec := { s.sec with meas := (List.range 8).map fun k =>
      if k = i then Config.sha384 (hashBytes (s.measure k) ++ data) else s.measure k } }

/-! Root, policy and certificate (R452, R453, R457, R460). -/

/-- The owner root is set; ROOT_HASH as the number whose bytes, first most significant, are those of the fuse. -/
def State.rootSet (s : State) : Bool := s.rd (SEC 0) Reg.SEC0_SEC_STATE_ROOT_SET = 1
def State.rootBytes (s : State) : List Byte := (List.range 12).flatMap fun k => leBytes 4 (s.rd (SEC 0) (Reg.SEC0_ROOT_HASH k))

/-- ROOT_HASH is programmed: a fuse bit goes from 0 to 1 only (R452). -/
def State.programRoot (s : State) (h : List Byte) : State :=
  s.each (List.range 12) fun t k =>
    t.wr (SEC 0) (Reg.SEC0_ROOT_HASH k) (t.rd (SEC 0) (Reg.SEC0_ROOT_HASH k) ||| leNat ((h.drop (4 * k)).take 4))

/-- A field of a policy record. -/
def policyNat (r : List Byte) (a n : Nat) : Nat := leNat ((r.drop a).take n)

/-- The policy that a record holds (R460). -/
def policyOf (r : List Byte) : Policy :=
  { flags := policyNat r 0 4, sessionMax := policyNat r 4 4, pwHash := beNat ((r.drop 8).take 48),
    keyHashes := (List.range 4).map fun k => beNat ((r.drop (56 + 48 * k)).take 48),
    masks := (List.range 34).map fun k => policyNat r (248 + 2 * k) 2 }

/-- The record of a policy, for M4. -/
def Policy.record (p : Policy) : List Byte :=
  leBytes 4 p.flags ++ leBytes 4 p.sessionMax ++ hashBytes p.pwHash ++ p.keyHashes.flatMap hashBytes ++ p.masks.flatMap (leBytes 2)

/-- A flag of the policy in force; 0 until a policy has been accepted. -/
def State.policyFlag (s : State) (i : Nat) : Bool := match s.sec.policy with | some p => bit p.flags i | none => false

/-- The policy in force is applied: measured, and its FRAME_NO kept (R460, R467, R474). -/
def State.policyApply (s : State) (p : Policy) : State :=
  let s1 := ({ s with sec := { s.sec with policy := some p } }.extend 4 p.record).wr (SEC 0) Reg.SEC0_SEC_STATE_POLICY_VALID 1
  s1.wr (SEC 2) Reg.SEC2_POLICY_FRAME s.frameNo

/-! Debug sessions (R469-R473). -/

/-- Every PV bit returns to its reset value (R473). -/
def State.pvReset (s : State) : State :=
  { s with cur := s.cur.filterMap fun e =>
      let r := resetOf e.1
      let m := match ownerPage e.1 with
        | some p => (match regDesc p (e.1 % 0x1000) with | some d => d.pv | none => 0)
        | none => 0
      let w := BitVec.ofNat 32 (mergeBits e.2.toNat r.toNat m)
      if w = r then none else some (e.1, w) }

/-- The session ends for a cause (R473, R475): 0 close, 1 expiry, 2 reset or EXTEST, 3 policy. -/
def State.sessionEnd (s : State) (cause : Nat) : State :=
  match s.sec.session with
  | none => s
  | some d =>
    let s1 := { s with sec := { s.sec with session := none } }
    (if d.service then s1.pvReset else s1).occurF (SEC 3) 0x21 cause

/-- A session opens for `dur` seconds; it replaces the one open (R470, R472). -/
def State.sessionOpen (s : State) (service : Bool) (key dur : Nat) : State :=
  let s0 := if s.serviceOpen then s.pvReset else s
  let s1 := { s0 with sec := { s0.sec with session := some { service := service, keyHash := key, expiry := s.tm.sys + ms (1000 * dur) } } }
  (s1.occurF (SEC 3) 0x20 (if service then 2 else 1)).inc (SEC 3) Reg.SEC3_SESSIONS_TOTAL

/-- A policy takes the session whose key it removes, or whose enable bit it clears (R473). -/
def State.policySession (s : State) : State :=
  match s.sec.session, s.sec.policy with
  | some d, some p =>
    let keeps := if d.service then bit p.flags 3 && p.keyHashes.contains d.keyHash else bit p.flags 2
    if keeps then s else s.sessionEnd 3
  | _, _ => s

/-! Key slots (R461, R462). -/

/-- The key slots that an entry in use names (R462, R324): SRTP slots of RX_FLOW and TX_FLOW entries, the four of a MACSEC
entry. -/
def State.slotsInUse (s : State) : List Nat :=
  s.net.tbl.flatMap fun e =>
    let i := e.1 % 32768
    let table := e.1 / 32768 % 8
    let x := e.1 / 262144
    let w := e.2.getD 0 0
    let names := match table with
      | 1 => if bit w 7 then [bits w 15 8] else []
      | 2 => if bit w 6 then [bits w 20 13] else []
      | 4 => (List.range 4).map fun k => bits (e.2.getD 4 0) (8 * k + 7) (8 * k)
      | _ => []
    if !names.isEmpty && s.netInUse x table i then names else []

/-- A key slot is in use. -/
def State.slotUsed (s : State) (k : Nat) : Bool := s.slotsInUse.contains k

/-- Bytes of a wrapped blob by its type; 0 for a type that is none (R462). -/
def blobBytes (ty : Nat) : Nat := if ty = 1 || ty = 3 then 185 else if ty = 2 then 173 else 0

/-- KEY_OP_CTL.START (R462): slot, offset and length are sampled. -/
def State.keyStart (s : State) : State :=
  s.opStart (SEC 1) 0x54 0 fun t =>
    ({ t with sec := { t.sec with keyOp := (t.rd (SEC 1) Reg.SEC1_KEY_INDEX % 256,
        t.rd (SEC 1) Reg.SEC1_KEY_SRC_LO + t.rd (SEC 1) Reg.SEC1_KEY_SRC_HI % 32 * 2 ^ 32, t.rd (SEC 1) Reg.SEC1_KEY_LEN % 512) } }).setOp
      (SEC 1) 0x54 1 0

/-- The cause for which a load fails, 0 where it does not; `tag` says whether the blob's GCM tag verifies (R462). -/
def State.keyCause (s : State) (tag : Bool) : Nat :=
  let o := s.sec.keyOp
  if poolSize < o.2.1 + o.2.2 then 1
  else
    let b := s.bytesAt o.2.1 o.2.2
    let n (a k : Nat) : Nat := leNat ((b.drop a).take k)
    if n 0 2 ≠ 0x4B57 || n 2 1 ≠ 1 || blobBytes (n 3 1) = 0 || o.2.2 ≠ blobBytes (n 3 1) || n 5 3 ≠ 0 then 2
    else if n 8 8 ≠ s.serialNo || n 4 1 ≠ o.1 then 3
    else if !tag then 4
    else if s.slotUsed o.1 then 5
    else 0

/-- KEY_LOAD_DONE (R462): the load ends. -/
def State.keyDone (s : State) (tag : Bool) : State :=
  if s.opState (SEC 1) 0x54 ≠ 1 then s
  else
    let o := s.sec.keyOp
    let c := s.keyCause tag
    let s1 := if c = 1 then s else s.wr (SEC 1) Reg.SEC1_KEY_OP_STATUS_PROGRESS o.2.2
    if c = 0 then
      let ty := (s.byteAt (o.2.1 + 3)).toNat
      let s2 := { s1 with sec := { s1.sec with slots := tins o.1 ty s1.sec.slots, keys := tins o.1 (s.bytesAt o.2.1 o.2.2) s1.sec.keys,
                                               loads := tins o.1 ((tget 0 s1.sec.loads o.1 + 1) % 65536) s1.sec.loads } }
      ((((s2.wr (SEC 1) Reg.SEC1_KEY_OP_STATUS_STATE 2).wr (SEC 1) Reg.SEC1_KEY_FAIL 0).inc (SEC 1) Reg.SEC1_LOADS_TOTAL).wr (SEC 1)
        Reg.SEC1_LAST_LOAD_FRAME s.frameNo).wr (SEC 1) Reg.SEC1_LAST_LOAD_SLOT o.1
    else
      let s2 := ((s1.wr (SEC 1) Reg.SEC1_KEY_OP_STATUS_STATE 4).wr (SEC 1) Reg.SEC1_KEY_FAIL c).inc (SEC 1) Reg.SEC1_LOAD_FAILS
      if c = 4 then s2.inc (SEC 1) Reg.SEC1_UNWRAP_FAILS else s2

/-- KEY_LOAD_DONE (R462). -/
def execKeyLoadDone (tag : Bool) (s : State) : Host.Outcome State Fault Refusal := live s (s.keyDone tag)

/-- KEY_CTL.CLEAR of the indexed slot (R462). -/
def State.keyClear (s : State) : State :=
  let k := s.rd (SEC 1) Reg.SEC1_KEY_INDEX % 256
  if s.slotUsed k then s.occurF (SEC 1) 0x20 k
  else { s with sec := { s.sec with slots := tdel k s.sec.slots, keys := tdel k s.sec.keys } }.inc (SEC 1) Reg.SEC1_CLEARS_TOTAL

/-! Challenge, response and password (R470-R472). -/

/-- DBG_CTL.CHALLENGE (R471): a new challenge is issued; its nonce is free. -/
def State.challenge (s : State) : State :=
  let n := s.sec.challenges + 1
  let b := leBytes 2 0x4348 ++ leBytes 1 1 ++ leBytes 1 0 ++ leBytes 8 s.serialNo ++ leBytes 32 (s.free 256) ++ leBytes 4 n
  { s.drawn with sec := { s.sec with challenges := n, challenge := some { number := n, bytes := b, issued := s.tm.sys, valid := true } } }

/-- The challenge is used or stale. -/
def State.challengeSpent (s : State) : State :=
  { s with sec := { s.sec with challenge := s.sec.challenge.map fun c => { c with valid := false } } }

/-- A check ends: its result, and the count and the record of a failure (R475). -/
def State.unlockEnd (s : State) (f : Field) (base r : Nat) : State :=
  let s1 := s.wr (SEC 3) f r
  if r = 0 then s1 else (s1.occurF (SEC 3) 0x22 (base + r)).inc (SEC 3) Reg.SEC3_UNLOCK_FAILS

/-- The result of a response (R472): 0 OPENED, 1 DISABLED, 2 STALE, 3 UNKNOWN_KEY, 4 DURATION, 5 SIGNATURE, 6 FORMAT; `sig` says
whether its signature verifies. -/
def State.responseResult (s : State) (b : List Byte) (sig : Bool) : Nat :=
  let n (a k : Nat) : Nat := leNat ((b.drop a).take k)
  let key := Config.sha384 ((b.drop 56).take 97)
  if b.length ≠ 249 || n 48 1 ≠ 1 || n 49 3 ≠ 0 then 6
  else if !s.policyFlag 3 || s.sec.debugDisabled then 1
  else
    match s.sec.challenge with
    | none => 2
    | some c =>
      if !c.valid || c.bytes ≠ b.take 48 then 2
      else
        match s.sec.policy with
        | none => 1
        | some p =>
          if key = 0 || !p.keyHashes.contains key then 3
          else if n 52 4 = 0 || p.sessionMax < n 52 4 then 4
          else if !sig then 5
          else 0

/-- A response is checked (R472); the challenge that it answers is consumed (R471). -/
def State.respond (s : State) (b : List Byte) (sig : Bool) : State :=
  let r := s.responseResult b sig
  let answers := match s.sec.challenge with | some c => r ≠ 6 && c.bytes = b.take 48 | none => false
  let s1 := if answers then s.challengeSpent else s
  let s2 := if r = 0 then
      s1.sessionOpen true (Config.sha384 ((b.drop 56).take 97)) (leNat ((b.drop 52).take 4))
    else s1
  s2.unlockEnd Reg.SEC3_RESP_RESULT 0 r

/-- The result of a password (R470): 0 OPENED, 1 DISABLED, 2 WAIT, 3 LOCKED, 4 WRONG, 5 FORMAT. -/
def State.passwordResult (s : State) (b : List Byte) : Nat :=
  if b.length < 8 || 64 < b.length then 5
  else
    match s.sec.policy with
    | none => 1
    | some p =>
      if !bit p.flags 2 || s.sec.debugDisabled then 1
      else if 16 ≤ s.sec.failures then 3
      else if s.sec.waitUntil.isSome then 2
      else if Config.sha384 (leBytes 8 s.serialNo ++ b) = p.pwHash then 0
      else 4

/-- A password is checked (R470). -/
def State.password (s : State) (b : List Byte) : State :=
  let r := s.passwordResult b
  let s1 := if r = 0 then
      let dur := match s.sec.policy with | some p => p.sessionMax | none => 0
      { s with sec := { s.sec with failures := 0 } }.sessionOpen false 0 dur
    else if r = 4 then
      let f := s.sec.failures + 1
      { s with sec := { s.sec with failures := f, waitUntil := some (s.tm.sys + ms (1000 * 2 ^ min (f - 1) 10)) } }
    else s
  s1.unlockEnd Reg.SEC3_PW_RESULT 0x10 r

/-- The bytes of a buffer of a check; none where it does not lie wholly in the host pool. -/
def State.buffer (s : State) (lo hi : Field) (n : Nat) : List Byte :=
  let a := s.rd (SEC 3) lo + s.rd (SEC 3) hi % 32 * 2 ^ 32
  if a + n ≤ poolSize then s.bytesAt a n else []

/-- RESP_OP_CTL.START (R472): the check runs and ends. -/
def State.respStart (s : State) (sig : Bool) : State :=
  s.opStart (SEC 3) 0x84 0 fun t =>
    (t.respond (t.buffer Reg.SEC3_RESP_SRC_LO Reg.SEC3_RESP_SRC_HI 249) sig).setOp (SEC 3) 0x84 2 249

/-- PW_OP_CTL.START (R470): the check runs and ends. -/
def State.pwStart (s : State) : State :=
  s.opStart (SEC 3) 0x9C 1 fun t =>
    let n := t.rd (SEC 3) Reg.SEC3_PW_LEN
    (t.password (if n ≤ 64 then t.buffer Reg.SEC3_PW_SRC_LO Reg.SEC3_PW_SRC_HI n else [])).setOp (SEC 3) 0x9C 2 n

/-- PW_DELAY_EXPIRY (R470): an attempt is accepted again. -/
def execPwDelayExpiry (s : State) : Host.Outcome State Fault Refusal :=
  done { s with sec := { s.sec with waitUntil := none } }

/-- SESSION_EXPIRY (R473). -/
def execSessionExpiry (s : State) : Host.Outcome State Fault Refusal := done (s.sessionEnd 1)

/-- CHALLENGE_EXPIRY (R471): 60 s after its issue a challenge is no longer valid. -/
def execChallengeExpiry (s : State) : Host.Outcome State Fault Refusal := done s.challengeSpent

/-- JTAG_DBG_UNLOCK (R469): a response or a password is shifted in. -/
def execJtagDbgUnlock (response : Bool) (b : List Byte) (sig : Bool) (s : State) : Host.Outcome State Fault Refusal :=
  live s (if response then s.respond b sig else s.password b)

/-- JTAG_DBG_SCAN (R469): in a SERVICE session the scan shifts out what it captures, which the spec does not describe; without
one it is not available. -/
def execJtagDbgScan (n : Nat) (s : State) : Host.Outcome State Fault Refusal :=
  live s (if s.serviceOpen then (s.emit (.memData (leBytes n (s.free (8 * n))))).drawn else s)

/-! Tokens (R454-R460). -/

/-- A token as it stands in the host pool; none where the buffer does not lie wholly there. -/
def State.token (s : State) (req : List Nat) : List Byte :=
  let a := reqOffset req 0
  let n := req.getD 2 0
  if n ≤ 4096 && a + n ≤ poolSize then s.bytesAt a n else []

/-- A number of a token's bytes; its payload. -/
def tokNat (b : List Byte) (a n : Nat) : Nat := leNat ((b.drop a).take n)
def tokPayload (b : List Byte) : List Byte := (b.drop 32).take (b.length - 128)

/-- The payload has the length, and its reserved bytes the value, that the action asks (R456). -/
def payloadOk (action : Nat) (p : List Byte) : Bool :=
  let n := leNat (p.take 1)
  let counted (lo hi each : Nat) : Bool :=
    4 ≤ p.length && lo ≤ n && n ≤ hi && leNat ((p.drop 1).take 3) = 0 && p.length = 4 + each * n
  match action with
  | 1 => p.length = 97
  | 2 => p.length = 316
  | 3 => p.length = 310
  | 4 => counted 1 16 12
  | 5 => counted 0 64 4
  | 6 => counted 1 64 8
  | 7 => p.length = 8 && leNat p ≤ 64
  | 8 => p.length = 0
  | 9 => p.length = 0
  | _ => false

/-- The first failure of checks 2 to 7 of R455, 0 where none; `sig` says whether the signature verifies. -/
def State.tokenCheck (s : State) (b : List Byte) (sig : Bool) : Nat :=
  let action := tokNat b 3 1
  if b.length < 128 || 4096 < b.length || tokNat b 0 2 ≠ 0x7A1E || tokNat b 2 1 ≠ 1 || tokNat b 4 2 ≠ b.length || tokNat b 6 2 ≠ 0 ||
    !payloadOk action (tokPayload b) then 2
  else if tokNat b 8 8 ≠ s.serialNo then 3
  else if !s.rootSet && action ≠ 1 then 4
  else if s.rootSet && action = 1 then 5
  else if !sig then 6
  else if tokNat b 16 8 ≤ s.rd (SEC 0) Reg.SEC0_OWNER_SEQ_LO + 2 ^ 32 * s.rd (SEC 0) Reg.SEC0_OWNER_SEQ_HI then 7
  else if tokNat b 24 8 ≠ 0 && s.rd SYS Reg.SYS_TIME_SRC_SOURCE = 0 then 8
  else if tokNat b 24 8 ≠ 0 && tokNat b 24 8 < s.tm.frame then 9
  else 0

/-- The ranges that a SEAL payload names: base, size, CLEAR_OK. -/
def sealEntries (p : List Byte) : List (Nat × Nat × Bool) :=
  (List.range (leNat (p.take 1))).map fun k =>
    (tokNat p (4 + 12 * k) 4 % 2 ^ 21, tokNat p (8 + 12 * k) 4 % 2 ^ 21, bit (tokNat p (12 + 12 * k) 4) 0)

/-- The lowest free indices of the 64 ranges take the entries. -/
def sealInsert (t : List (Nat × (Nat × Nat × Bool))) (l : List (Nat × Nat × Bool)) : List (Nat × (Nat × Nat × Bool)) :=
  l.foldl (fun t e => tins (((List.range 64).find? fun i => (tfind t i).isNone).getD 64) e t) t

/-- The SEALED check fails on the active values (R464). -/
def State.sealConflict (s : State) : Bool := (List.range 32).any fun r => !(s.sealedChecks s.rd r).isEmpty

/-- SEAL (R456, R463, R464): the ranges installed, or the detail of the failure. -/
def State.tokSeal (s : State) (p : List Byte) : Nat × State :=
  let l := sealEntries p
  if l.any fun e => e.2.1 = 0 || poolSize < (e.1 + e.2.1) * 65536 then (1, s)
  else if 64 < s.sec.ranges.length + l.length then (2, s)
  else
    let s1 := { s with sec := { s.sec with ranges := sealInsert s.sec.ranges l } }
    if s1.sealConflict then (3, s) else (0, s1)

/-- UNSEAL (R456). -/
def State.tokUnseal (s : State) (p : List Byte) : State :=
  let n := leNat (p.take 1)
  let gone := (List.range n).map fun k => tokNat p (4 + 4 * k) 4
  { s with sec := { s.sec with ranges := if n = 0 then [] else s.sec.ranges.filter fun e => !gone.contains e.1 } }

/-- ROOT_PROVISION (R456, R457): after a ROOT_FAULT only a hash with a 1 at every bit already programmed completes it. -/
def State.tokRoot (s : State) (p : List Byte) : Nat × State :=
  let h := hashBytes (Config.sha384 p)
  if beNat s.rootBytes &&& beNat h ≠ beNat s.rootBytes then (1, s)
  else
    let s1 := ((s.programRoot h).wr (SEC 0) Reg.SEC0_SEC_STATE_ROOT_SET 1).wr (SEC 0) Reg.SEC0_SEC_STATE_ROOT_FAULT 0
    (0, { s1 with sec := { s1.sec with rootKey := p } }.extend 3 p)

/-- POLICY_SET (R456, R460, R470, R473). -/
def State.tokPolicy (s : State) (b : List Byte) : Nat × State :=
  let p := policyOf b
  if 32 ≤ p.flags || p.sessionMax < 60 || 86400 < p.sessionMax then (1, s)
  else
    let fresh : Bool := match s.sec.policy with | some q => !(q.pwHash == p.pwHash) | none => true
    let s1 := if fresh then { s with sec := { s.sec with failures := 0, waitUntil := none } } else s
    (0, (s1.policyApply p).policySession)

/-- CERT_INSTALL (R453, R456); `sig` says whether the certificate's own signature verifies. -/
def State.tokCert (s : State) (b : List Byte) (sig : Bool) : Nat × State :=
  let keys := (List.range 97).all fun i => b.getD (20 + i) 0 = Config.publicKey 0 i && b.getD (117 + i) 0 = Config.publicKey 1 i
  if tokNat b 0 4 ≠ 1 || tokNat b 4 8 ≠ s.serialNo || (b.drop 12).take 8 ≠ s.rootBytes.take 8 || !keys then (1, s)
  else if !sig then (2, s)
  else
    let s1 := { s with sec := { s.sec with cert := some b } }.extend 5 b
    (0, s1.wr (SEC 0) Reg.SEC0_SEC_STATE_CERT_VALID 1)

/-- SVN_ADVANCE (R452, R456). -/
def State.tokSvn (s : State) (p : List Byte) : Nat × State :=
  let v := leNat p
  if v < s.rd (SEC 0) Reg.SEC0_SVN_MIN_SVN_MIN then (1, s)
  else if s.rd MBX Reg.MBX_FW_SVN % 128 < v then (2, s)
  else (0, s.wr (SEC 0) Reg.SEC0_SVN_MIN_SVN_MIN v)

/-- The effect of an action, or its detail; `write` executes one write of REG_WRITE (R456). -/
def State.tokAct (s : State) (write : State → Nat → Word → State) (b : List Byte) (o : MbxOutcome) : Nat × State :=
  let p := tokPayload b
  match tokNat b 3 1 with
  | 1 => s.tokRoot p
  | 2 => s.tokPolicy p
  | 3 => s.tokCert p o.cosigned
  | 4 => s.tokSeal p
  | 5 => (0, s.tokUnseal p)
  | 6 => (0, s.each (List.range (leNat (p.take 1))) fun t k =>
      write t (tokNat p (4 + 8 * k) 4) (BitVec.ofNat 32 (tokNat p (8 + 8 * k) 4)))
  | 7 => s.tokSvn p
  | 8 => (0, { s with sec := { s.sec with debugDisabled := true } }.sessionEnd 3)
  | 9 => (0, { s with sec := { s.sec with failures := 0, waitUntil := none } })
  | _ => (0, s)

/-- The end of a token (R455, R474, R475): result, action and detail are shown, counted and recorded. -/
def State.tokenEnd (s : State) (action result detail : Nat) : State × List Nat :=
  let s1 := s.wr (SEC 0) Reg.SEC0_TOKEN_RESULT (result ||| (action % 256) <<< 8 ||| detail <<< 16)
  let s2 := if result = 0 then (s1.occurF (SEC 0) 0x21 action).inc (SEC 0) Reg.SEC0_TOKENS_ACCEPTED
    else (s1.occur (SEC 0) 0x20 result ((action % 256) <<< 40 ||| s.frameNo % 2 ^ 32)).inc (SEC 0) Reg.SEC0_TOKENS_REFUSED
  (s2, [result, detail, s2.rd (SEC 0) Reg.SEC0_OWNER_SEQ_LO, s2.rd (SEC 0) Reg.SEC0_OWNER_SEQ_HI])

/-- TOKEN_SUBMIT (R455, R458): a refused token changes nothing else; an accepted one sets OWNER_SEQ to its SEQ. -/
def State.tokenSubmit (s : State) (write : State → Nat → Word → State) (o : MbxOutcome) (req : List Nat) : State × List Nat :=
  let b := s.token req
  let action := tokNat b 3 1
  let r := s.tokenCheck b o.signed
  if r ≠ 0 then s.tokenEnd action r 0
  else
    let seq := tokNat b 16 8
    let s0 := (s.wr (SEC 0) Reg.SEC0_OWNER_SEQ_LO seq).wr (SEC 0) Reg.SEC0_OWNER_SEQ_HI (seq / 2 ^ 32)
    let e := s0.tokAct write b o
    if e.1 ≠ 0 then s.tokenEnd action 10 e.1 else e.2.tokenEnd action 0 0

/-- The running TOKEN_SUBMIT carries a token of this action and completes. -/
def State.tokenRun (s : State) (write : State → Nat → Word → State) (action : Nat) (o : MbxOutcome) : State :=
  if tokNat (s.token s.mbx.req) 3 1 = action then s.mbxRun 0x0501 fun t req => t.tokenSubmit write o req else s

/-- Of an action other than REG_WRITE. -/
def noWrite (s : State) (_ : Nat) (_ : Word) : State := s

/-- TOKEN_ROOT_PROVISION (R456, R457). -/
def execTokenRootProvision (o : MbxOutcome) (s : State) : Host.Outcome State Fault Refusal := live s (s.tokenRun noWrite 1 o)

/-- TOKEN_POLICY_SET (R460). -/
def execTokenPolicySet (o : MbxOutcome) (s : State) : Host.Outcome State Fault Refusal := live s (s.tokenRun noWrite 2 o)

/-- TOKEN_CERT_INSTALL (R456). -/
def execTokenCertInstall (o : MbxOutcome) (s : State) : Host.Outcome State Fault Refusal := live s (s.tokenRun noWrite 3 o)

/-- TOKEN_SEAL (R463). -/
def execTokenSeal (o : MbxOutcome) (s : State) : Host.Outcome State Fault Refusal := live s (s.tokenRun noWrite 4 o)

/-- TOKEN_UNSEAL (R456). -/
def execTokenUnseal (o : MbxOutcome) (s : State) : Host.Outcome State Fault Refusal := live s (s.tokenRun noWrite 5 o)

/-- TOKEN_SVN_ADVANCE (R456). -/
def execTokenSvnAdvance (o : MbxOutcome) (s : State) : Host.Outcome State Fault Refusal := live s (s.tokenRun noWrite 7 o)

/-- TOKEN_DEBUG_PERMA_CLOSE (R456). -/
def execTokenDebugPermaClose (o : MbxOutcome) (s : State) : Host.Outcome State Fault Refusal := live s (s.tokenRun noWrite 8 o)

/-- TOKEN_PW_RESET (R456). -/
def execTokenPwReset (o : MbxOutcome) (s : State) : Host.Outcome State Fault Refusal := live s (s.tokenRun noWrite 9 o)

/-! Identity and attestation (R458, R468). -/

/-- The device certificate, or without one its layout with ROOT_ID and signature at 0 (R453, R458). -/
def State.certificate (s : State) : List Byte :=
  s.sec.cert.getD (leBytes 4 1 ++ leBytes 8 s.serialNo ++ leBytes 8 0 ++ (List.range 97).map (Config.publicKey 0) ++
    (List.range 97).map (Config.publicKey 1) ++ leBytes 96 0)

/-- DEVICE_ID (R458). -/
def State.deviceId (s : State) (req : List Nat) : State × List Nat :=
  let a := reqOffset req 0
  if poolSize < a + 310 then (s, [2]) else (s.writeChecked .firmware a s.certificate, [0, b2n s.sec.cert.isSome])

/-- ATTEST (R468): the quote; its signature is free. -/
def State.attest (s : State) (req : List Nat) : State × List Nat :=
  let a := reqOffset req 0
  if poolSize < a + 528 then (s, [2])
  else
    let q := leBytes 8 s.serialNo ++ leBytes 6 s.frameNo ++ leBytes 2 0 ++ ((List.range 8).flatMap fun k => leBytes 4 (req.getD (2 + k) 0)) ++
      ((List.range 8).flatMap fun k => hashBytes (s.measure k)) ++ leBytes 96 (s.free 768)
    (s.drawn.writeChecked .firmware a q, [0])

/-- MEAS_EXTEND (R458): M6 or M7 is extended with 48 bytes; for another index the spec states no result, so it is a free value (assumption
log 92). -/
def State.measExtend (s : State) (req : List Nat) : State × List Nat :=
  let i := req.getD 0 0
  if i = 6 || i = 7 then (s.extend i ((List.range 12).flatMap fun k => leBytes 4 (req.getD (1 + k) 0)), [0])
  else (s.drawn, [s.free 32])

/-- DEVICE_ID (R458). -/
def execDeviceId (s : State) : Host.Outcome State Fault Refusal := live s (s.mbxRun 0x0502 State.deviceId)

/-- ATTEST (R468). -/
def execAttest (s : State) : Host.Outcome State Fault Refusal := live s (s.mbxRun 0x0503 State.attest)

/-- MEAS_EXTEND (R458). -/
def execMeasExtend (s : State) : Host.Outcome State Fault Refusal := live s (s.mbxRun 0x0504 State.measExtend)

/-! What the SEC pages show (R474). -/

/-- A bit map of `n` × 32 as words. -/
def mapBits (f : Nat → Bool) (k : Nat) : Nat := ((List.range 32).map fun j => if f (32 * k + j) then 2 ^ j else 0).sum

/-- Whole seconds from now to an instant, rounded up. -/
def State.secondsTo (s : State) (t : Nat) : Nat := cdiv (t - s.tm.sys) (ms 1000)

/-- The registers of the SEC pages that follow from the rest of the state. -/
def State.secWord (s : State) (i off : Nat) : Option Nat :=
  match i with
  | 0 => if 0x88 ≤ off ∧ off < 0xB8 then
      some (leNat (((hashBytes (s.measure (s.rd (SEC 0) Reg.SEC0_MEAS_INDEX % 8))).drop (off - 0x88)).take 4)) else none
  | 1 =>
    let k := s.rd (SEC 1) Reg.SEC1_KEY_INDEX % 256
    if off = 0x58 then
      some (tget 0 s.sec.slots k ||| b2n (tfind s.sec.slots k).isSome <<< 8 ||| b2n (s.slotUsed k) <<< 9 ||| tget 0 s.sec.loads k <<< 16)
    else if off = 0x64 then some s.sec.slots.length
    else if 0x68 ≤ off ∧ off < 0x88 then some (mapBits (fun j => (tfind s.sec.slots j).isSome) ((off - 0x68) / 4))
    else if 0x88 ≤ off ∧ off < 0xA8 then some (mapBits (fun j => s.slotUsed j) ((off - 0x88) / 4))
    else none
  | 2 =>
    let e := tfind s.sec.ranges (s.rd (SEC 2) Reg.SEC2_SEAL_INDEX % 64)
    if off = 0x44 then some ((e.map (·.1)).getD 0)
    else if off = 0x48 then some ((e.map (·.2.1)).getD 0)
    else if off = 0x4C then some (b2n e.isSome ||| b2n ((e.map (·.2.2)).getD false) <<< 1)
    else if off = 0x50 then some s.sec.ranges.length
    else if off = 0x54 then some ((s.sec.ranges.map fun x => x.2.2.1).sum % 2 ^ 22)
    else if off = 0x60 then some s.sealedRasters
    else if 0x64 ≤ off ∧ off < 0x74 then
      some (mapBits (fun l => s.cmp.layers.any fun e => e.1 = l && match e.2.prev with
        | some (r, f, h) => h.isSealed && s.cmp.rasters.any fun x => x.1 = r && (x.2.composed.head?.map (·.frame)) = some f
        | none => false) ((off - 0x64) / 4))
    else if 0x74 ≤ off ∧ off < 0x84 then
      some (mapBits (fun c => match s.workArea c with
        | some (b, n) => s.sealedSpan (b * 65536) (n * 65536)
        | none => false) ((off - 0x74) / 4))
    else if 0x84 ≤ off ∧ off < 0x8C then
      some (mapBits (fun j => s.enabled (ING j) && s.sealedSpan (ingestBase s.rd j) (ingestExtent s.rd j)) ((off - 0x84) / 4))
    else if 0x8C ≤ off ∧ off < 0x94 then
      some (mapBits (fun d => s.enabled (DEC d) && s.sealedSpan (decBase s.rd d) (decArea s.rd d).2) ((off - 0x8C) / 4))
    else if off = 0x94 then some ((s.sec.policy.map (·.flags)).getD 0)
    else if off = 0x98 then some ((s.sec.policy.map (·.sessionMax)).getD 0)
    else if 0x9C ≤ off ∧ off < 0xBC then
      let k := (off - 0x9C) / 4
      some (leNat (((hashBytes (((s.sec.policy.map (·.keyHashes)).getD []).getD (k / 2) 0)).drop (4 * (k % 2))).take 4))
    else none
  | _ =>
    if off = 0x40 then
      some ((if s.serviceOpen then 2 else if s.diagOpen then 1 else 0) ||| b2n s.sec.debugDisabled <<< 2
        ||| b2n (16 ≤ s.sec.failures) <<< 3 ||| (s.sec.failures % 32) <<< 4
        ||| b2n ((s.sec.challenge.map (·.valid)).getD false) <<< 9 ||| (s.sec.challenges % 65536) <<< 16)
    else if 0x48 ≤ off ∧ off < 0x78 then
      some (leNat ((((s.sec.challenge.map (·.bytes)).getD []).drop (off - 0x48)).take 4))
    else if off = 0xA4 then some (match s.sec.waitUntil with | some t => s.secondsTo t | none => 0)
    else if off = 0xA8 then some (match s.sec.session with | some d => s.secondsTo d.expiry | none => 0)
    else if off = 0xAC ∨ off = 0xB0 then
      some (match s.sec.session with
        | some d => leNat (((hashBytes d.keyHash).drop (off - 0xAC)).take 4)
        | none => 0)
    else if off = 0xBC then
      some (match s.sec.challenge with | some c => (s.tm.sys - c.issued) / ms 1 % 2 ^ 32 | none => 0)
    else none

end Sys2Proof.Machine
end

