-- ==== Sys2Proof/Machine/Commit.lean ====
section
/-!
DEFINITION. Commits, fabric commits and the start of a snapshot (03_frame_commits.md R55-R76): arm, validation, application,
cancellation, the commit window, the two-phase vote; what an application starts (R253).
-/

namespace Sys2Proof.Machine

/-! Groups and arms as SYS shows them (R55, R58). -/

/-- The groups of a mask, ascending. -/
def groupList (mask : Nat) : List Nat := (List.range 32).filter fun g => bit mask g

/-- Groups that an arm holds, its validation included (R58). -/
def State.armedMask (s : State) : Nat := s.cm.arms.foldl (fun m a => m ||| a.groups) 0

/-- GROUP_ARMED, GROUP_LATE and VALIDATING follow the arms. -/
def State.armsShown (s : State) : State :=
  let on := s.cm.arms.filter (·.accepted)
  let mask (l : List Arm) : Nat := l.foldl (fun m a => m ||| a.groups) 0
  ((s.wr SYS Reg.SYS_GROUP_ARMED (mask on)).wr SYS Reg.SYS_GROUP_LATE (mask (on.filter (·.late)))).wr SYS
    Reg.SYS_COMMIT_STATUS_VALIDATING (b2n (on.length < s.cm.arms.length))

/-- COMMIT_STATUS of an arm that has ended its checks: its VALIDATING is kept. -/
def State.armStatus (s : State) (result reason group : Nat) : State :=
  ((s.wr SYS Reg.SYS_COMMIT_STATUS_ARM_RESULT result).wr SYS Reg.SYS_COMMIT_STATUS_REASON reason).wr SYS
    Reg.SYS_COMMIT_STATUS_GROUP group

/-- The result of a group: GROUP_RESULT and what SHADOW_STATE shows in its pages (R42, R55). -/
def State.groupResult (s : State) (result : Nat) (reasons : List (Nat × Nat)) (g : Nat) : State :=
  let t := s.wr SYS ⟨0x060 + 4 * (g / 8), 4 * (g % 8) + 2, 4 * (g % 8)⟩ result
  let x : GroupInfo := { result := result, frame := s.frameNo, reasons := reasons }
  { t with cm := { t.cm with groups := tins g x t.cm.groups } }

/-- One occurrence per group of a mask (R57). -/
def State.occurGroups (s : State) (code mask detail : Nat) : State := s.each (groupList mask) fun t g => t.occur SYS code g detail

/-- An arm is dropped: its staged values are discarded. -/
def State.dropArm (s : State) (groups : Nat) : State :=
  ({ s with cm := { s.cm with arms := s.cm.arms.filter fun a => a.groups ≠ groups } }).armsShown

/-- An arm ends ABORTED for all of its groups (R64). -/
def State.abortArm (s : State) (a : Arm) : State :=
  let s1 := (s.dropArm a.groups).each (groupList a.groups) (State.groupResult · 4 [])
  s1.occurGroups 0x22 a.groups s.frameNo

/-! Arming (R58, R60, R65, R66). -/

/-- BAR0 offsets, in `t`, of registers of the pages that are in the groups of a mask. -/
def State.staging (s : State) (mask : Nat) (t : List (Nat × Word)) : List (Nat × Word) :=
  t.filter fun e => match ownerPage e.1 with
    | some p => committing p && bit mask (s.groupOf p)
    | none => false

/-- A port page is in the groups of a mask. -/
def State.inMask (s : State) (mask : Nat) (p : Page) : Bool := bit mask (s.groupOf p)

/-- The latch that an arm with timestamp `t` waits for on a raster: the frame at whose latch it applies, and whether it is LATE
(R65, R66). -/
def State.targetLatch (s : State) (r t : Nat) : Nat × Bool :=
  let x := s.ras r
  match x.scan with
  | none => (0, false)
  | some (ft, _) =>
    let cur := if ft.stop ≤ t then x.next.getD { ft with frame := ft.frame + ft.div, start := ft.stop } else ft
    let margin := s.rdL (SCAN r) Reg.SCAN_RG_CFG_COMMIT_MARGIN
    let close := min (cur.lineStart (cur.vActive - margin)) (cur.lineStart cur.vActive - ns 1000)
    if t < cur.start && !x.leadIn then (cur.frame, true)
    else if t < close then (cur.frame, false)
    else (cur.frame + cur.div, true)

/-- The first frame that uses an arm applied at the latch of frame `due`. -/
def State.firstUse (s : State) (r due : Nat) : Nat :=
  match (s.ras r).scan with | some (ft, _) => due + ft.div | none => due

/-- The reason for which R60 rejects an arm; none where it is armed. `remote` is an arm that PREPARE makes (R69). -/
def State.armRefused (s : State) (mask : Nat) (target : Option Target) (remote : Bool) : Option Nat :=
  let late (f : Nat) : Bool := beatStart s.tm.rate (f - 2) - us 100 ≤ s.tm.sys
  if s.rd SYS Reg.SYS_COMMIT_STATUS_VALIDATING = 1 then some 0x05
  else if mask = 0 then some 0x02
  else match target with
    | none => some 0x04
    | some tg =>
      if (match tg with | .raster r => !s.enabled (SCAN r) | _ => false) then some 0x04
      else if mask &&& s.armedMask ≠ 0 then some 0x03
      else match tg with
        | .epoch f =>
          if remote then none
          else if !s.isCoord || s.fab.noCoord then some 0x12
          else if late f then some 0x13 else none
        | _ => if s.isFenced then some 0x07 else none

/-- The groups of a mask are armed: pending values, cells and table entries are staged, and PENDING falls in their pages, but
that of SYS while a local arm leaves a changed BEAT_RATE out (R25, R58). -/
def State.armGroups (s : State) (mask : Nat) (tg : Target) (remote : Option Nat) : State :=
  let sysIn := s.inMask mask SYS
  let isLocal := match tg with | .epoch _ => false | _ => true
  let keep := sysIn && isLocal && s.wordP SYS 0x100 ≠ s.word SYS 0x100
  let st := s.staging mask s.pnd
  let staged := if isLocal then tput (resetOf 0x100) st 0x100 (s.word SYS 0x100) else st
  let latch := match tg with | .raster r => s.targetLatch r s.tm.sys | _ => (0, false)
  let ports := [0, 1].filter fun x => s.inMask mask (CAL x)
  let tables := [0, 1].filter fun x => s.inMask mask (SCHT x)
  let cells := ports.flatMap s.pendCells
  let entries := tables.flatMap s.schPending
  let a : Arm := { groups := mask, target := tg, stamp := s.tm.sys, staged := staged, cells := cells, entries := entries, flows := s.net.tbl,
                   accepted := false, late := latch.2, due := latch.1, remote := remote }
  let stays (b : Nat) : Bool := match ownerPage b with
    | some p => !bit mask (s.groupOf p) || (p.ty = .sys && keep)
    | none => true
  ({ s with
    dirty := s.dirty.filter stays
    scn := { s.scn with touched := s.scn.touched.filter fun c => !ports.contains (c / 524288) }
    sch := { s.sch with touched := s.sch.touched.filter fun k => !tables.contains (k / 262144) }
    cm := { s.cm with arms := s.cm.arms ++ [a] } }).armsShown.each [0, 1] State.calShown

/-- COMMIT_TARGET and COMMIT_FRAME as a target; none for the reserved KIND. -/
def State.commitTarget (s : State) : Option Target :=
  match s.rd SYS Reg.SYS_COMMIT_TARGET_KIND with
  | 0 => some .now
  | 1 => some (.raster (s.rd SYS Reg.SYS_COMMIT_TARGET_RASTER))
  | 2 => some (.epoch (s.rd SYS Reg.SYS_COMMIT_FRAME_LO + 2 ^ 32 * (s.rd SYS Reg.SYS_COMMIT_FRAME_HI % 65536)))
  | _ => none

/-- COMMIT_ARM.ARM (R58, R60). -/
def State.arm (s : State) : State :=
  let mask := s.rd SYS Reg.SYS_COMMIT_MASK
  let tg := s.commitTarget
  match s.armRefused mask tg false with
  | some r => s.armStatus 2 r 0
  | none => s.armGroups mask (tg.getD .now) none

/-! Validation (R59, R103). -/

/-- The values that the checks of an arm read: staged where the arm, or another arm, holds the page, else active (R103). -/
def State.valuesOf (s : State) (a : Arm) : Values := fun p f =>
  if s.armHolds a p then s.rdS a p f
  else match s.cm.arms.find? fun b => s.armHolds b p with
    | some b => s.rdS b p f
    | none => s.rd p f

/-- The ring check of R79: the other rings and host surfaces that an enabled stream's ring overlaps. -/
def ringChecks (v : Values) (i : Nat) : List Charge :=
  let b := ingestBase v i
  let n := ingestExtent v i
  let hit : List Page :=
    ((enabledOf v .ingest 64).filter fun k => k ≠ i && overlaps b n (ingestBase v k) (ingestExtent v k)).map ING ++
    ((enabledOf v .dec 64).filter fun k => overlaps b n (decBase v k) (decArea v k).1).map DEC ++
    ((enabledOf v .compLayer 128).filter fun l => v (LAYER l) Reg.LAYER_LAYER_CFG_SOURCE = 2
      && overlaps b n (hostExtent v l).1 (hostExtent v l).2).map LAYER
  if hit.isEmpty || n = 0 then [] else [{ pages := ING i :: hit, reason := 0x10 }]

/-- The checks on a beat rate that a fabric commit carries (R25). -/
def State.rateChecks (s : State) (a : Arm) (v : Values) : List Charge :=
  match a.target with
  | .epoch _ =>
    let code := v SYS Reg.SYS_BEAT_RATE
    if !s.armHolds a SYS then []
    else charge1 SYS (13 < code) 0x01 ++ charge1 SYS (code ≠ s.rd SYS Reg.SYS_BEAT_RATE && s.pictureRunning) 0x08
  | _ => []

/-- Every check of a commit on the values `v`: the checks of one page where the arm holds it, those of several pages wherever they
arise (R59). -/
def State.charges (s0 : State) (a : Arm) : List Charge :=
  let v := s0.valuesOf a
  let active : Values := fun p f => s0.rd p f
  let beat := v SYS Reg.SYS_BEAT_RATE
  let s := if beat < 14 then { s0 with tm := { s0.tm with rate := beat } } else s0
  let mine (t : PageType) (n : Nat) : List Nat := (List.range n).filter fun i => s.armHolds a ⟨t, i⟩
  let mineOn (t : PageType) (n : Nat) : List Nat := (mine t n).filter fun i => v ⟨t, i⟩ Reg.PAGE_CTL_ENABLE = 1
  let tables (x : Nat) : List (Nat × List Nat) :=
    match (a :: s0.cm.arms).find? fun b => s0.armHolds b (SCHT x) with | some b => b.entries | none => []
  let flows : State := { s0 with net := { s0.net with tbl := a.flows } }
  let on (t : PageType) (n : Nat) : List Nat := enabledOf v t n
  let quads := (mine .wide 128).foldl (fun l n => sins (n / 4) l) []
  s.rateChecks a v ++
  (mineOn .ingest 64).flatMap (ingestFieldChecks v) ++ (on .ingest 64).flatMap (ringChecks v) ++ [0, 1].flatMap (ingestBudget v) ++
  (on .compLayer 128).flatMap (s.layerChecks v active) ++ (List.range 32).flatMap (layerCount v) ++
  (List.range 32).flatMap (s.sealedChecks v) ++ (mineOn .compScaler 48).flatMap (s.scalerChecks v) ++
  (if s.armHolds a POOL then poolChecks v else []) ++ (mine .colour 32).flatMap (s.colourChecks v) ++
  (on .enc 128).flatMap (s.encChecks v active) ++ (List.range 16).flatMap (s.ladderChecks v) ++ (on .dec 64).flatMap (s.decChecks v) ++
  (on .scan 32).flatMap (s.scanChecks v active s.tm.rate) ++ [0, 1].flatMap (scanBudget v s.tm.rate) ++
  (mine .tile 2).flatMap (tileChecks v) ++ (mineOn .wide 128).flatMap (wideChecks v) ++ quads.flatMap (quadChecks v) ++
  (mineOn .tileLane 896).flatMap (tileLaneChecks v) ++ (on .net 64).flatMap (netChecks v) ++
  [0, 1].flatMap (fun x => s.schTableChecks v (tables x) (fun x i => flows.netWord x 2 i 0) x) ++
  (List.range 80).flatMap (s.schPortChecks v) ++ (on .aud 16).flatMap (s.audChecks v) ++ (on .fabPort 16).flatMap (fabPortChecks v) ++
  (if v MATE Reg.PAGE_CTL_ENABLE = 1 then mateChecks v else [])

/-- The lowest reason charged to a page. -/
def lowest (l : List (Nat × Nat)) (k r : Nat) : List (Nat × Nat) :=
  match tfind l k with
  | some x => tins k (min x r) l
  | none => tins k r l

/-- The pages of the arm that fail, with their lowest reasons: a check whose chapter names the page that fails is charged to
pages of that kind alone where the arm holds one (R59). -/
def State.failures (s : State) (a : Arm) : List (Nat × Nat) :=
  (s.charges a).foldl (fun l c =>
    let named := c.named.filter (s.armHolds a)
    let pages := if named.isEmpty then c.pages.filter (s.armHolds a) else named
    pages.foldl (fun m p => lowest m (pageBase p) c.reason) l) []

/-- The group of a page by its BAR0 offset. -/
def State.groupAt (s : State) (b : Nat) : Nat := match ownerPage b with | some p => s.groupOf p | none => 0

/-! Application (R61, R253). -/

/-- Copy a page's active words to its latched values. -/
def State.latchPage (s : State) (p : Page) : State :=
  let b := pageBase p
  let mine (k : Nat) : Bool := b ≤ k && k < b + 0x1000
  let keys := ((s.cur ++ s.lat).filter fun e => mine e.1).foldl (fun l e => sins e.1 l) []
  { s with lat := keys.foldl (fun t k => tput (resetOf k) t k (tget (resetOf k) s.cur k)) s.lat }

/-- The lead-in frame (R253): the earliest frame of the grid whose latch is at least 1,000 ns after SYSTIME and which starts no
earlier than `after`, by the active values. -/
def State.leadInFrame (s : State) (r after : Nat) : FrameTiming :=
  let t := s.latchPage (SCAN r)
  let k := t.rdL (SCAN r) Reg.SCAN_RG_CFG_DIVISOR_M1 + 1
  let f0 := beatAt t.tm.rate t.tm.sys / k * k - k
  let fits (j : Nat) : Bool :=
    let ft := t.timing r (f0 + j * k) k
    t.tm.sys + ns 1000 ≤ ft.lineStart ft.vActive && after ≤ ft.start
  t.timing r (f0 + ((List.range 16).find? fits).getD 15 * k) k

/-- The first line of a frame that starts after SYSTIME; V_TOTAL where none does. -/
def State.nextLine (s : State) (ft : FrameTiming) : Nat :=
  ((List.range ft.vTotal).find? fun l => s.tm.sys < ft.lineStart l).getD ft.vTotal

/-- The raster begins its lead-in frame: its lanes follow its own grid, and FRAMES counts from 0 again (R253). -/
def State.beginLeadIn (s : State) (r : Nat) (ft : FrameTiming) : State :=
  let q := SCAN r
  let s1 := s.latchPage q
  let idx := (s1.thermalEntries r).map (·.1)
  let s2 := { s1 with scn := { s1.scn with
    gains := idx.foldl (fun l i => tdel i l) s1.scn.gains
    silent := idx.foldl (fun l i => tdel i l) s1.scn.silent
    stale := idx.foldl (fun l i => sdel i l) s1.scn.stale } }
  let x := s2.ras r
  let s3 := s2.setRas r { x with tileCfg := [0x40, 0x44].map fun o => (s.word (TILE (rasterIo r)) o).toNat, scan := some (ft, s2.nextLine ft), next := none, leadIn := true, stopping := false, composed := [],
                                 tone := none, curve := 0, errNext := false, first := true, startedAt := s2.tm.sys }
  (((s3.wr q Reg.SCAN_RG_STATE_EFF_DIV_M1 (ft.div - 1)).wr q Reg.SCAN_RG_STATE_FRAMES 0).placeRaster r ft).park

/-- ENABLE of a raster rises from 0 to 1 (R253): SAFE_HOLD is forced, and the raster starts, unless it is running and no latch has yet
taken the ENABLE 0 before it; where it completes the frame in which that latch lay, its lead-in follows that frame, and where it was only
starting it starts again. In a device that is not ACTIVE it waits (R485). -/
def State.rasterStart (s : State) (r : Nat) : State :=
  let x := s.ras r
  if x.scan.isSome && !x.stopping && !x.leadIn then s
  else
    let c := COMP r
    let hold : Word := fset (s.word c 0x48) 0 0 1
    let s1 := (s.setWord c 0x48 hold).setWordP c 0x48 (fset (s.wordP c 0x48) 0 0 1)
    if s.rd ⟨.pwr, 0⟩ Reg.PWR_DEV_STATE % 8 ≠ 0 then s1
    else
      let s2 := s1.wr (SCAN r) Reg.SCAN_RG_STATE_LEAD_IN 1
      match x.scan with
      | some (ft, _) =>
        if x.leadIn then s2.beginLeadIn r (s2.leadInFrame r 0) else s2.setRas r { x with next := some (s2.leadInFrame r ft.stop) }
      | none => s2.beginLeadIn r (s2.leadInFrame r 0)

/-- What follows the application of new words in a page (R93, R253, R306, R321, R345, R359, R366, R395, R427); `o` is the state
before. -/
def State.pageApplied (s o : State) (p : Page) : State :=
  match p.ty with
  | .ingest => s.ingestApplied o p.inst
  | .compLayer => s.layerApplied o p.inst
  | .compRaster => s.compApplied p.inst
  | .sched => s.schPortApplied o p.inst
  | .net => (s.netApplied o (p.inst / 2 * 2)).netApplied o (p.inst / 2 * 2 + 1)
  | .wide => s.laneApplied o true p.inst
  | .tileLane => s.laneApplied o false p.inst
  | .fabPort => s.fabPortApplied o p.inst
  | .mate => s.mateApplied o
  | .aud => s.audApplied p.inst
  | .scan => if s.enabled p && !o.enabled p then s.rasterStart p.inst else s
  | _ => s

/-- Remove entries from the pending buffers that were staged and not written since the arm (R267, R345). -/
def State.freeEntries (s : State) (entries : List (Nat × List Nat)) : State :=
  { s with sch := { s.sch with
    pend := s.sch.pend.filter fun e => !(entries.any fun c => c.1 = e.1) || s.sch.touched.contains e.1 } }

/-- All groups of an arm take their staged values in one cycle (R61). -/
def State.applyArm (s : State) (a : Arm) : State :=
  let o := s
  let mine (k : Nat) : Bool := match ownerPage k with | some p => committing p && s.armHolds a p | none => false
  let keys := ((s.cur ++ a.staged).map (·.1)).foldl (fun l k => if mine k then sins k l else l) []
  let word (k : Nat) : Word := match ownerPage k with | some p => s.wordS a p (k - pageBase p) | none => 0
  let cur := keys.foldl (fun t k => tput (resetOf k) t k (word k)) s.cur
  let pages := (keys.filter fun k => word k ≠ tget (resetOf k) s.cur k).foldl
    (fun (l : List Nat) k => match ownerPage k with | some p => sins (pageBase p) l | none => l) []
  let s1 := ((({ s with cur := cur }).dropArm a.groups).applyCells a.cells).each a.entries fun t e => t.schApplyEntry e.1 e.2
  let s2 := (s1.freeEntries a.entries).each (groupList a.groups) (State.groupResult · 1 [])
  let s3 := (s2.wr SYS Reg.SYS_APPLY_FRAME_LO s.frameNo).wr SYS Reg.SYS_APPLY_FRAME_HI_FRAME_NO (s.frameNo / 2 ^ 32)
  s3.each pages fun t b => match ownerPage b with | some p => t.pageApplied o p | none => t

/-- Accepted RASTER_BEAT arms of a raster whose latch is that of frame `f` or an earlier one are applied (R62, R66). -/
def State.applyDue (s : State) (r f : Nat) : State :=
  s.each (s.cm.arms.filter fun a => a.accepted && a.target = .raster r && a.due ≤ f) State.applyArm

/-- A raster has stopped: the arms that wait for its latch are applied (R66). -/
def State.applyStopped (s : State) (r : Nat) : State :=
  s.each (s.cm.arms.filter fun a => a.accepted && a.target = .raster r) State.applyArm

/-! Fabric commits (R68-R73). -/

/-- FAB_COMMIT_STATE and VOTES_MISSING show the current or last fabric commit (R55). -/
def State.txnShown (s : State) : State :=
  match s.cm.txns with
  | x :: _ =>
    let s1 := (s.wr SYS Reg.SYS_FAB_COMMIT_STATE_STATE x.st).wr SYS Reg.SYS_FAB_COMMIT_STATE_TXN x.txn
    s1.wr SYS Reg.SYS_FAB_COMMIT_INFO_VOTES_MISSING x.unvoted.length
  | [] => s

/-- A fabric commit by its transaction number. -/
def State.txnOf (s : State) (n : Nat) : Option FabTxn := s.cm.txns.find? fun x => x.txn = n

/-- A fabric commit replaced. -/
def State.setTxn (s : State) (x : FabTxn) : State :=
  ({ s with cm := { s.cm with txns := s.cm.txns.map fun (y : FabTxn) => if y.txn = x.txn then x else y } }).txnShown

/-- A new fabric commit becomes the current one. Of the earlier ones those in progress are kept, and those that ended ABORTED until
B(F − 1): till then their decision is repeated, or may still reach a NO voter (R69 steps 2″ and 3). -/
def State.addTxn (s : State) (x : FabTxn) : State :=
  ({ s with cm := { s.cm with txns := x :: s.cm.txns.filter fun (y : FabTxn) =>
      y.txn ≠ x.txn && ((1 ≤ y.st && y.st ≤ 3) || (y.st = 5 && s.frameNo + 1 < y.target)) } }).txnShown

/-- FIRST_NO_VALID, FIRST_NO and ABORT_REASON (R55). -/
def State.abortInfo (s : State) (reason : Nat) (first : Option Nat) : State :=
  ((s.wr SYS Reg.SYS_FAB_COMMIT_INFO_FIRST_NO_VALID (b2n first.isSome)).wr SYS Reg.SYS_FAB_COMMIT_INFO_FIRST_NO (first.getD 0)).wr SYS
    Reg.SYS_FAB_COMMIT_INFO_ABORT_REASON reason

/-- FAB_ABORT is recorded (R57). -/
def State.fabAbortRecord (s : State) (txn reason : Nat) (first : Option Nat) : State :=
  s.occur SYS 0x23 reason ((txn % 65536) <<< 32 ||| b2n first.isSome <<< 12 ||| (first.getD 0) % 4096)

/-- The arm that a fabric commit holds on this device. -/
def State.txnArm (s : State) (x : FabTxn) : Option Arm := s.cm.arms.find? fun a => a.target = .epoch x.target && a.groups = x.mask

/-- The groups that a fabric commit armed end ABORTED. -/
def State.txnDrop (s : State) (x : FabTxn) : State := match s.txnArm x with | some a => s.abortArm a | none => s

/-- Send a COMMIT message to a member. -/
def State.commitSend (s : State) (dst : Nat) (b : FabBody) : State := s.fabSend dst b b.kind 0

/-- The decision message of a fabric commit (R384). -/
def FabTxn.message (x : FabTxn) : FabBody :=
  match x.decision with
  | some (c, reason, first, epoch) => .decision x.txn c reason epoch (first.getD 0xFFFF)
  | none => .decision x.txn false 0 0 0xFFFF

/-- A device takes a decision (R69 step 4). -/
def State.takeDecision (s : State) (x : FabTxn) (commit : Bool) (reason : Nat) (first : Option Nat) (epoch : Nat) : State :=
  let y := { x with decision := some (commit, reason, first, epoch), st := if commit then 3 else 5 }
  let s1 := s.setTxn y
  if commit then s1 else ((s1.txnDrop x).abortInfo reason first).fabAbortRecord x.txn reason first

/-- The coordinator decides (R69 step 3): it holds the decision at once and sends it to every member. -/
def State.txnDecide (s : State) (x : FabTxn) (members : List Nat) (commit : Bool) (reason : Nat) (first : Option Nat) : State :=
  let epoch := s.rd SYS Reg.SYS_CONFIG_EPOCH
  let s1 := s.takeDecision { x with unacked := members } commit reason first epoch
  let m : FabBody := .decision x.txn commit reason epoch (first.getD 0xFFFF)
  s1.each members fun t n => t.commitSend n m

/-- Validation has accepted the coordinator's arm (R69 step 1): the next TXN is taken and PREPARE is sent to every node landed now;
with no other member every vote is YES. -/
def State.txnBegin (s : State) (a : Arm) (f : Nat) : State :=
  let members := s.fab.members.map (·.1)
  let x : FabTxn := { txn := s.cm.nextTxn, st := 1, target := f, mask := a.groups, coordinator := s.nodeId, unvoted := members,
                      unacked := members, decision := none }
  let s1 := ({ s with cm := { s.cm with nextTxn := (s.cm.nextTxn + 1) % 65536 } }).addTxn x
  let s2 := s1.each members fun t n => t.commitSend n (.prepare x.txn a.groups f (members.length + 1))
  if members.isEmpty then s2.txnDecide x [] true 0 none else s2

/-- A member votes NO (R69 step 2″): it is ABORTED at once. -/
def State.voteNo (s : State) (x : FabTxn) (reason : Nat) : State :=
  let own := some s.nodeId
  let s1 := ((s.setTxn { x with st := 5 }).txnDrop x).abortInfo reason own
  (s1.fabAbortRecord x.txn reason own).commitSend x.coordinator (.vote x.txn false reason)

/-- A member votes YES. -/
def State.voteYes (s : State) (x : FabTxn) : State :=
  (s.setTxn { x with st := 2 }).commitSend x.coordinator (.vote x.txn true 0)

/-- PREPARE reaches a member (R69 step 2). -/
def State.prepareIn (s : State) (src txn mask target : Nat) : State :=
  let x : FabTxn := { txn := txn, st := 1, target := target, mask := mask, coordinator := src, unvoted := [], unacked := [],
                      decision := none }
  let s1 := s.addTxn x
  if beatStart s.tm.rate (target - 2) ≤ s.tm.sys then s1.voteNo { x with mask := 0 } 0x13
  else match s1.armRefused mask (some (.epoch target)) true with
    | some r => (s1.armStatus 2 r 0).voteNo { x with mask := 0 } r
    | none => s1.armGroups mask (.epoch target) (some txn)

/-- FAB_PREPARE_RECEIVED (R69) on port `p`. -/
def execFabPrepareReceived (p : Nat) (f : FabFrame) (s : State) : Host.Outcome State Fault Refusal :=
  live s (s.fabArrive p f fun t => match f.body with
    | .prepare txn mask target _ => t.prepareIn f.src txn mask target
    | _ => t)

/-- A vote reaches the coordinator (R69 step 3); one whose TXN is not the current one is discarded (R384). -/
def State.voteIn (s : State) (src txn : Nat) (yes : Bool) (reason : Nat) : State :=
  match s.cm.txns with
  | x :: _ =>
    if x.txn = txn && x.st = 1 && x.coordinator = s.nodeId && x.unvoted.contains src then
      let members := x.unacked
      let y := { x with unvoted := sdel src x.unvoted }
      if !yes then (s.setTxn y).txnDecide y members false reason (some src)
      else if y.unvoted.isEmpty then (s.setTxn y).txnDecide y members true 0 none
      else s.setTxn y
    else s
  | [] => s

/-- FAB_VOTE_RECEIVED (R69) on port `p`. -/
def execFabVoteReceived (p : Nat) (f : FabFrame) (s : State) : Host.Outcome State Fault Refusal :=
  live s (s.fabArrive p f fun t => match f.body with
    | .vote txn yes reason => t.voteIn f.src txn yes reason
    | _ => t)

/-- The fabric commits of this coordinator whose votes are missing and whose vote deadline B(F − 1) − 50 µs comes first. -/
def State.voteLate (s : State) : List FabTxn :=
  let open' := s.cm.txns.filter fun (x : FabTxn) => x.st = 1 && x.coordinator = s.nodeId && !x.unvoted.isEmpty
  open'.filter fun (x : FabTxn) => open'.all fun (y : FabTxn) => x.target ≤ y.target

/-- FAB_VOTE_DEADLINE (R69 step 3): votes are missing 50 µs before B(F − 1). -/
def execFabVoteDeadline (s : State) : Host.Outcome State Fault Refusal :=
  live s (s.each s.voteLate fun t x => t.txnDecide x x.unacked false 0x14 none)

/-- FAB_DECISION_REPEAT (R69 step 3): until B(F − 1). -/
def execFabDecisionRepeat (s : State) : Host.Outcome State Fault Refusal :=
  live s (s.each (s.cm.txns.filter fun x => x.coordinator = s.nodeId && x.decision.isSome && s.frameNo + 1 < x.target) fun t x =>
    t.each x.unacked fun u n => u.commitSend n x.message)

/-- A decision reaches a member (R69 step 4, R72). -/
def State.decisionIn (s : State) (src txn : Nat) (commit : Bool) (reason epoch firstNo : Nat) : State :=
  let first := if firstNo < 4096 then some firstNo else none
  let s1 := match s.txnOf txn with
    | none => s.checkConfig epoch
    | some x =>
      if x.st = 4 then s
      else
        let s0 := s.checkConfig epoch
        if x.st = 5 then (if commit then s0 else s0.abortInfo reason first)
        else if x.decision.isSome then s0
        else if x.st = 2 || !commit then s0.takeDecision x commit reason first epoch
        else s0
  s1.commitSend src (.ack txn)

/-- FAB_DECISION_RECEIVED (R69) on port `p`. -/
def execFabDecisionReceived (p : Nat) (f : FabFrame) (s : State) : Host.Outcome State Fault Refusal :=
  live s (s.fabArrive p f fun t => match f.body with
    | .decision txn commit reason config firstNo => (t.decisionIn f.src txn commit reason config firstNo).mateSettle
    | _ => t)

/-- FAB_ACK_RECEIVED (R384) on port `p`. -/
def execFabAckReceived (p : Nat) (f : FabFrame) (s : State) : Host.Outcome State Fault Refusal :=
  live s (s.fabArrive p f fun t => match f.body with
    | .ack txn => (match t.txnOf txn with
      | some x => if x.coordinator = t.nodeId then t.setTxn { x with unacked := sdel f.src x.unacked } else t
      | none => t)
    | _ => t)

/-- A fabric commit is applied (R69 step 5, R73): CONFIG_EPOCH follows the decision's, the fence clears, and outputs resume from the frames
of the target; a BEAT_RATE that it changes waits for its boundary (R25). -/
def State.txnApply (s : State) (x : FabTxn) (epoch : Nat) : State :=
  let s1 := match s.txnArm x with | some a => s.applyArm a | none => s
  let s2 := (s1.setTxn { x with st := 4, unacked := [] }).wr SYS Reg.SYS_CONFIG_EPOCH (epoch + 1)
  let code := s2.rd SYS Reg.SYS_BEAT_RATE
  let s3 := { s2 with
    cm := { s2.cm with fenced := false, resume := if s.cm.fenced then some x.target else s.cm.resume }
    tm := { s2.tm with rateNext := if code = s.rd SYS Reg.SYS_BEAT_RATE then s2.tm.rateNext else some (code, x.target) } }
  s3.coordSync.mateSettle

/-- A member that voted holds no decision at B(F − 1) (R71). -/
def State.txnMissing (s : State) (x : FabTxn) : State :=
  let s1 := (s.setTxn { x with st := 5 }).txnDrop x
  let s2 := s1.occur SYS 0x24 0 ((x.txn % 65536) <<< 32 ||| x.target % 2 ^ 32)
  let s3 := if s2.cm.fenced then s2 else ({ s2 with cm := { s2.cm with fenced := true } }).occurF SYS 0x27 1
  s3.mateSettle

/-- B(F − 1) of every fabric commit whose target has come this near. -/
def State.txnsDue (s : State) : State :=
  s.each (s.cm.txns.filter fun x => x.target ≤ s.frameNo + 1) fun t x =>
    match x.st, x.decision with
    | 3, some (_, _, _, epoch) => t.txnApply x epoch
    | 2, _ => t.txnMissing x
    | _, _ => t

/-- FAB_COMMIT_APPLY (R69 step 5, R71). -/
def execFabCommitApply (s : State) : Host.Outcome State Fault Refusal := live s s.txnsDue

/-! Validation ends (R59, R63, R66). -/

/-- A raster does not scan out: a RASTER_BEAT arm that targets it applies as a NOW arm (R66). -/
def State.stoppedFor (s : State) (tg : Target) : Bool :=
  match tg with
  | .now => true
  | .raster r => (s.ras r).scan.isNone
  | .epoch _ => false

/-- Validation of an arm finds these failures: all of its groups are REJECTED, or, for an arm that PREPARE made, the member votes
NO (R59, R69). COMMIT_STATUS takes the lowest reason of the lowest failing group. DESIGN CHOICE (log 83): of several reasons the vote
carries the lowest over all failing pages; R69 says "its reason". -/
def State.armFails (s : State) (a : Arm) (bad : List (Nat × Nat)) : State :=
  let g := bad.foldl (fun m e => min m (s.groupAt e.1)) 31
  let r := (bad.filter fun e => s.groupAt e.1 = g).foldl (fun m e => min m e.2) 0xFF
  let s1 := s.armStatus 2 r g
  match a.remote with
  | some n => (match s1.txnOf n with | some x => s1.voteNo x (bad.foldl (fun m e => min m e.2) 0xFF) | none => s1.abortArm a)
  | none =>
    ((s1.dropArm a.groups).each (groupList a.groups) (State.groupResult · 3 bad)).occurGroups 0x21 a.groups s.frameNo

/-- Validation of an arm passes. -/
def State.armPasses (s : State) (a : Arm) : State :=
  let b := { a with accepted := true }
  let s1 := ({ s with cm := { s.cm with arms := s.cm.arms.map fun (c : Arm) => if c.groups = a.groups then b else c } }).armsShown
  let s2 := (s1.armStatus 1 0 0).inc SYS Reg.SYS_COMMIT_SEQ
  if s2.stoppedFor a.target then s2.applyArm b
  else match a.target, a.remote with
    | .epoch f, none => s2.txnBegin b f
    | .epoch _, some n => (match s2.txnOf n with | some x => s2.voteYes x | none => s2)
    | .raster r, _ =>
      if a.late then (s2.each (groupList a.groups) (State.groupResult · 2 [])).occurGroups 0x20 a.groups (s2.firstUse r a.due) else s2
    | .now, _ => s2

/-- Validation of the arm in progress finishes (R59). -/
def State.validated (s : State) : State :=
  match s.cm.arms.find? fun a => !a.accepted with
  | some a =>
    let bad := s.failures a
    if bad.isEmpty then s.armPasses a else s.armFails a bad
  | none => s

/-- COMMIT_VALIDATION_DONE (R59). -/
def execCommitValidationDone (s : State) : Host.Outcome State Fault Refusal := live s s.validated

/-! Cancellation (R64, R70). -/

/-- A cancel meets an arm that holds a selected group; `mask` selects groups. -/
def State.cancelArm (s : State) (mask : Nat) (a : Arm) : State :=
  let late := s.occurGroups 0x01 (mask &&& a.groups) s.frameNo
  match a.target with
  | .epoch f =>
    (match s.cm.txns.find? fun x => x.target = f && x.mask = a.groups && (1 ≤ x.st && x.st ≤ 3) with
     | some x =>
       if x.st = 1 && x.coordinator = s.nodeId && a.remote.isNone then s.txnDecide x x.unacked false 0x15 none
       else if x.st = 1 then s.voteNo x 0x15
       else late
     | none => s.abortArm a)
  | _ => s.abortArm a

/-- COMMIT_ARM.CANCEL: every arm that holds a selected group; ABORT_LATE for each selected group that no arm holds. -/
def State.cancel (s : State) : State :=
  let mask := s.rd SYS Reg.SYS_COMMIT_MASK
  let free := (groupList mask).filter fun g => !bit s.armedMask g
  let s1 := s.each (s.cm.arms.filter fun a => a.groups &&& mask ≠ 0) fun t a => t.cancelArm mask a
  s1.each free fun t g => t.occurF SYS 0x01 g

/-! A snapshot starts (R74, R75). -/

/-- The offset of SNAP_OP_STATUS. -/
abbrev snapOp : Nat := 0x0D4

/-- Bytes of the snapshot buffer (R76). -/
def snapBytes : Nat := 3657792

/-- SNAP_BASE: the buffer's BAR2 offset. -/
def State.snapBase (s : State) : Nat :=
  s.rd SYS Reg.SYS_SNAP_BASE_LO / 4096 * 4096 + 2 ^ 32 * (s.rd SYS Reg.SYS_SNAP_BASE_HI % 32)

/-- A capture for beat `n` begins to run, with the rights of a role. -/
def State.snapRun (s : State) (n role : Nat) : State :=
  let t := s.setOp SYS snapOp 1 0
  { t with cm := { t.cm with snap := some { beat := n, role := role, base := s.snapBase, captured := none } } }

/-- START of the snapshot (R75). -/
def State.snapStart (s : State) (a : Access) : State :=
  s.opStart SYS snapOp 0 fun t =>
    let mode := t.rd SYS Reg.SYS_SNAP_MODE % 4
    let n := if mode = 0 then t.frameNo + 1 else t.rd SYS Reg.SYS_SNAP_FRAME_LO + 2 ^ 32 * (t.rd SYS Reg.SYS_SNAP_FRAME_HI % 65536)
    let role := match t.roleOf a with | some r => roleBit r | none => 4
    if mode = 3 then t.setOp SYS snapOp 4 0
    else if mode = 2 && (!t.isCoord || t.fab.noCoord) then t.setOp SYS snapOp 4 0
    else if poolSize < t.snapBase + snapBytes then t.setOp SYS snapOp 4 0
    else if n ≤ t.frameNo then (t.setOp SYS snapOp 4 0).occurF SYS 0x25 0
    else
      let u := t.snapRun n role
      if mode = 2 then u.each u.fab.members fun v e => v.commitSend e.1 (.snap n) else u

/-- SNAP(S) reaches a member (R75). -/
def State.snapIn (s : State) (n : Nat) : State :=
  s.opStart SYS snapOp 0 fun t =>
    if poolSize < t.snapBase + snapBytes then t.setOp SYS snapOp 4 0
    else if beatStart t.tm.rate (n - 2) ≤ t.tm.sys then (t.setOp SYS snapOp 4 0).occurF SYS 0x25 0
    else t.snapRun n 4

/-- SNAP_MESSAGE_RECEIVED (R75) on port `p`. -/
def execSnapMessageReceived (p : Nat) (f : FabFrame) (s : State) : Host.Outcome State Fault Refusal :=
  live s (s.fabArrive p f fun t => match f.body with
    | .snap n => t.snapIn n
    | _ => t)

end Sys2Proof.Machine
end

