-- ==== Sys2Proof/Machine/Raster.lean ====
section
/-!
DEFINITION. The lines of a raster (R30, R33, R62, R123, R250-R254, R259, R286-R288): the events of each line, the latch, step
frames, the end of a frame and of a raster; and accesses to the host pool through BAR2 (R18, R88, R465).
-/

namespace Sys2Proof.Machine

/-- The composed picture of frame `n` of a raster, while it is kept. -/
def State.frameOf (s : State) (r n : Nat) : Option Composed := (s.ras r).composed.find? fun c => c.frame = n

/-! Scan-out of a line (R252, R286, R334, R388). -/

/-- The KIND 3 packets of one line of a raster's broadcast picture: 2-byte extended sequence number, one 6-byte sample row data
header, and groups of 5 bytes for 2 pixels. -/
def videoPackets (payloadMax width : Nat) : List Nat :=
  let groups := (width + 1) / 2
  let per := max 1 ((payloadMax - 8) / 5)
  (List.range (cdiv groups per)).map fun k => 8 + 5 * min per (groups - k * per)

/-- The KIND 3 flows of raster `r` send a frame (R334): every packet leaves at the instant of its sender type. -/
def State.sendVideo (s : State) (r : Nat) (ft : FrameTiming) (c : Composed) : State :=
  s.each (s.flowsOf [3] r) fun t f =>
    let line := videoPackets (t.txWord f 8 % 16384) ft.width
    let n := line.length * ft.vActive
    let sealed' := if c.blocked then some c.frame else none
    t.each (List.range n) fun u k =>
      u.formPacket f ft.frame (rtpStamp u.tm.rate ft.frame) (k + 1 = n) (line.getD (k % line.length) 0)
        (beatStart u.tm.rate ft.frame + Config.senderOffset (u.txWord f 11 % 2) k n) sealed' []
        (.row (k / line.length) (2 * (max 1 ((u.txWord f 8 % 16384 - 8) / 5)) * (k % line.length)))

/-- Pixels of a line as RECT_EXPORT takes them (R388): after thermal gain, before quantisation; a pixel of several entries is that
of the lowest, one of no entry is the wall component. -/
def State.exportPixels (s : State) (r y : Nat) (c : Composed) : List (Nat × Nat × Nat) :=
  let es := s.entriesL r
  (List.range c.width).map fun x =>
    match es.find? fun e => e.x ≤ x && x < e.x + e.w && e.y ≤ y && y < e.y + e.h with
    | some e => withGain (s.entryGain r e) (s.calibrated r c e x y)
    | none => s.wall r (c.at x y)

/-- Scan-out of active line `y`: LINE packets, snoops and rectangles for the fabric. -/
def State.scanLine (s : State) (r y : Nat) (c : Composed) : State :=
  let s1 := (s.rasterLine r y c).snoopLine r y c
  if c.isSealed || s1.fab.exports.isEmpty then s1 else s1.rectSend r c.frame y (s1.exportPixels r y c)

/-- A line is composed, and with the last line of a row of 64 × 64 blocks that row of the hint map is complete (R131, R206). -/
def State.composeAt (s : State) (r y height : Nat) : State :=
  let s1 := s.composeLine r y
  if y % 64 = 63 || y + 1 = height then (s1.identRow r (y / 64)).hintRow r (y / 64) else s1

/-! The latch (R62, R259). -/

/-- Latch a page that names raster `r` in its field `f`; one that no longer names it leaves. -/
def State.latchNaming (s : State) (r : Nat) (f : Field) (p : Page) : State :=
  if s.rd p f = r then s.latchPage p
  else if s.enabledL p && s.rdL p f = r then s.unlatch p else s

/-- The raster's layers, and the scalers that they name, are latched. -/
def State.latchLayers (s : State) (r : Nat) : State :=
  let s1 := s.each (List.range 128) fun t l => t.latchNaming r Reg.LAYER_LAYER_CFG_RASTER (LAYER l)
  s1.each (s1.layersOn r) fun t l =>
    let k := t.rdL (LAYER l) Reg.LAYER_BLEND_SCALER
    if t.rdL (LAYER l) Reg.LAYER_BLEND_SCALE_EN = 1 && k < 48 then t.latchPage (SCALER k) else t

/-- A ferry that a running DEC stream reads (R387). -/
def State.ferryRead (s : State) (d : Nat) : Option (Nat × Nat) :=
  if (s.decStream d).running && s.rdL (DEC d) Reg.DEC_DEC_CFG_SOURCE = 1 then
    some (s.rdL (DEC d) Reg.DEC_FERRY_SRC_NODE, s.rdL (DEC d) Reg.DEC_FERRY_SRC_FERRY_ID)
  else none

/-- A DEC stream that a layer of the raster reads is latched; the ferry it reads is joined or left (R237, R387). -/
def State.latchDec (s : State) (d : Nat) : State :=
  let after := ((s.latchPage (DEC d)).decLatched d).ferryRead d
  if after = s.ferryRead d then (s.latchPage (DEC d)).decLatched d
  else
    let s1 := if (s.ferryRead d).isSome then s.ferryJoin d true else s
    let s2 := (s1.latchPage (DEC d)).decLatched d
    if after.isSome then s2.ferryJoin d false else s2

/-- The encode channels that the raster feeds, their rate-control entries and ladders, are latched (R153). A device that is not
ACTIVE starts none (R485). -/
def State.latchEncoders (s : State) (r : Nat) : State :=
  let cs := (List.range 128).filter fun c =>
    s.rd (ENC c) Reg.ENC_CH_CFG_RASTER = r || (s.enabledL (ENC c) && s.rdL (ENC c) Reg.ENC_CH_CFG_RASTER = r)
  let s1 := s.each cs fun t c =>
    let u := t.latchNaming r Reg.ENC_CH_CFG_RASTER (ENC c)
    if t.rd (ENC c) Reg.ENC_CH_CFG_RASTER = r then u.latchPage (RCE c) else u
  let s2 := s1.each ((List.range 16).filter fun l => (ladderRungs s1.rd l).any fun c => cs.contains c) fun t l => t.latchPage (LADDER l)
  if s2.rd ⟨.pwr, 0⟩ Reg.PWR_DEV_STATE % 8 ≠ 0 then s2 else s2.each cs State.encLatched

/-- The conditions of R259 for following the reference with divisor `k`: none where all hold, else the failed one. -/
def State.followFails (s : State) (r k : Nat) : Option Nat :=
  let v : Values := fun p f => if p.ty = .tileLane then s.rd p f else s.rdL p f
  let limit := if s.rd (COMP r) Reg.CRASTER_COMP_STATE_TWO_PIPES = 1 then 7200000000 else 3600000000
  if (List.range 128).any fun c => s.enabledL (ENC c) && s.rdL (ENC c) Reg.ENC_CH_CFG_RASTER = r
      && (s.rdL (ENC c) Reg.ENC_CH_CFG_DIVISOR_M1 + 1) % k ≠ 0 then some 0
  else if peakAbove v s.tm.rate r k limit then some 1
  else if !(overfull v s.tm.rate k (s.rdL (SCAN r) Reg.SCAN_V_TIMING_V_TOTAL) (s.entriesL r)).isEmpty then some 2
  else none

/-- The step that frame `ft` takes to divisor `k` (R259 steps 1-5): the new divisor, the new frame period and the instant e. -/
def State.stepOf (s : State) (r : Nat) (ft : FrameTiming) (k : Nat) : Nat × Nat × Nat :=
  let phase := ns (s.rdL (SCAN r) Reg.SCAN_PHASE_PHASE_NS)
  let start (m : Nat) : Nat := beatStart s.tm.rate m + phase
  let period (m : Nat) : Nat := beatStart s.tm.rate (m + k) - beatStart s.tm.rate m
  let m0 := ft.frame / k * k
  let fits (j : Nat) : Bool :=
    let m := m0 + j * k
    ft.start * ft.vTotal + (ft.vTotal - 64) * ft.period + 64 * period m ≤ start m * ft.vTotal
  let m := m0 + ((List.range 32).find? fits).getD 31 * k
  (k, period m, start m)

/-- The timing of the frame that follows `ft`, by the values just latched, before R259. -/
def State.frameAfter (s : State) (r : Nat) (ft : FrameTiming) : FrameTiming :=
  match ft.step with
  | some (k, _, e) => s.timing r (beatAt s.tm.rate (e - ns (s.rdL (SCAN r) Reg.SCAN_PHASE_PHASE_NS))) k
  | none => s.timing r (ft.frame + ft.div) ft.div

/-- RATE_MISMATCH is shown or not; its start is recorded with the failed condition. -/
def State.showMismatch (s : State) (r : Nat) (failed : Option Nat) : State :=
  let x := s.ras r
  let s1 := (s.setRas r { x with mismatch := failed.isSome }).wr (SCAN r) ⟨0xC, 1, 1⟩ (b2n failed.isSome)
  match failed with
  | some c => if x.mismatch then s1 else s1.occurF (SCAN r) 0x22 c
  | none => s1

/-- The frame that follows `ft` is latched (R259): it is a step frame where the target divisor differs and can be followed. -/
def State.latchFrame (s : State) (r : Nat) (ft : FrameTiming) : State :=
  let q := SCAN r
  let nf := s.frameAfter r ft
  let follow := s.rdL q Reg.SCAN_RG_CFG_DIV_FOLLOW = 1
  let k := if follow then s.rd SYS Reg.SYS_REF_STATE_REF_DIV_M1 + 1 else s.rdL q Reg.SCAN_RG_CFG_DIVISOR_M1 + 1
  let put (t : State) (f : FrameTiming) : State := t.setRas r { t.ras r with next := some f }
  if k = nf.div then put (s.showMismatch r none) nf
  else
    match if follow then s.followFails r k else none with
    | some c => put (s.showMismatch r (some c)) nf
    | none => (put (s.showMismatch r none) { nf with step := some (s.stepOf r nf k) }).occur q 0x21 k nf.frame

/-- The records of a frame's enabled check rectangles go to the mate (R411, R412). -/
def State.rectRecords (s : State) (r : Nat) (c : Composed) (bank : Nat) : State :=
  let es := s.entriesL r
  let flags := s.recordFlags r c.frame ||| b2n (s.mate.thermalMissing.contains r) <<< 4
  s.each ((List.range 8).filter fun i => bit ((s.rectWords r bank i).getD 2 0) 0) fun t i =>
    t.mateRecord { item := { kind := 1, unit := r, index := i, frame := c.frame }, flags := flags, value := s.rectValue r c es (s.rectWords r bank i) }

/-- The start of line V_ACTIVE (R30 step 3): what ends with the frame's last line, arms that wait for this latch, then the latch. -/
def State.latchLine (s : State) (r : Nat) (ft : FrameTiming) : State :=
  let s1 := match s.frameOf r ft.frame with
    | some c =>
      let t := (s.rasterShow r ft.frame).snoopWhole ft.frame
      (t.checkRects r c).rectRecords r c (t.rdL (SCAN r) Reg.SCAN_RG_CFG_CHECK_BANK)
    | none => s
  let s2 := s1.applyDue r ft.frame
  let s3 := (((((s2.latchPage (COMP r)).latchPage (COL r)).latchPage (SCAN r)).latchLayers r).hostEntries).stillLatch r
  let decs := ((s3.layersOn r).filter fun l => s3.rdL (LAYER l) Reg.LAYER_LAYER_CFG_SOURCE = 1).foldl
    (fun d l => sins (s3.rdL (LAYER l) Reg.LAYER_LAYER_CFG_STREAM) d) []
  let s4 := ((s3.each decs State.latchDec).latchEncoders r).latchExports r
  let s5 := { s4 with scn := { s4.scn with hold := s4.scn.hold.filter fun e => e.1 / 2 ^ 20 ≠ r } }
  let cfg := [0x40, 0x44].map fun o => (s5.word (TILE (rasterIo r)) o).toNat
  if s5.enabledL (SCAN r) then
    let s6 := s5.latchFrame r ft
    let y := s6.ras r
    let s7 := s6.setRas r { y with tileCfg := cfg, curve := s6.chooseCurve r, selfNext := 0 < y.selfTest }
    match (s7.ras r).next with
    | some nf => s7.mateThermal r nf.frame nf.div
    | none => s7
  else
    let s6 := s5.each ((s5.layersWere r).filter fun l => !(s5.layersOn r).contains l) State.layerLeaves
    s6.setRas r { s6.ras r with stopping := true, next := none, tileCfg := cfg }

/-- Step 4 of R30: composition of the next frame begins, unless the raster stops or the device leaves ACTIVE (R254, R485). -/
def State.composeNext (s : State) (r : Nat) : State :=
  let x := s.ras r
  if s.rd ⟨.pwr, 0⟩ Reg.PWR_DEV_STATE % 8 ≠ 0 then s.setRas r { x with stopping := true, next := none }
  else match x.next with
    | some nf => if x.stopping then s else (s.composeStart r nf).encFrameStart r
    | none => s

/-! The lines of a frame (R250, R253, R254, R286). -/

/-- The events of line `l` of the frame `ft`, at its start instant. -/
def State.lineEvents (s0 : State) (r : Nat) (ft : FrameTiming) (l : Nat) : State :=
  let s := (s0.advance (ft.lineStart l)).frameOut
  let lead := (s.ras r).leadIn
  let s1 := if l ≠ 0 then s
    else if lead then s.rasterBeats r ft true
    else match s.frameOf r ft.frame with
      | some c => ((s.rasterBeats r ft false).snoopBeat r c).sendVideo r ft c
      | none => s.rasterBeats r ft true
  let s2 := if ft.vActive ≤ l || lead then s1
    else match s1.frameOf r ft.frame with
      | some c => s1.scanLine r l c
      | none => s1
  let s3 := if l + 64 < ft.vActive && !lead then s2.composeAt r (l + 64) ft.vActive else s2
  let s4 := if l + 64 = ft.vActive && !lead then s3.composeEnd r else s3
  let s5 := if l = ft.vActive then s4.latchLine r ft else s4
  let s6 := if l + 64 = ft.vTotal then s5.composeNext r else s5
  let s7 := if ft.vTotal ≤ l + 64 && !(s6.ras r).stopping then
      (match (s6.ras r).next with | some nf => s6.composeAt r (l + 64 - ft.vTotal) nf.vActive | none => s6)
    else s6
  s7.setRas r { s7.ras r with scan := some (ft, l + 1) }

/-- The frame leases of a stopped raster whose encode jobs are complete are released (R87). -/
def State.releaseStopped (s : State) (r : Nat) : State :=
  let fs := (s.leases.flatMap fun e => (e.2.frames.filter fun f => f.1 = r).map (·.2)).foldl (fun l f => sins f l) []
  s.each (fs.filter fun f => !s.encodeReads r f) fun t f => t.leaseReleaseFrame r f

/-- The raster's last frame has ended (R66, R87, R254): lanes idle, RATE_MISMATCH and THERMAL_STALE are shown no more, arms that wait are applied; a raster enabled again meanwhile
begins its lead-in. -/
def State.rasterEnd (s : State) (r : Nat) : State :=
  let q := SCAN r
  let x := s.ras r
  let idx := (s.thermalEntries r).map (·.1)
  let s0 := { s with scn := { s.scn with stale := s.scn.stale.filter fun i => !idx.contains i } }
  let s1 := ((s0.setRas r { x with scan := none, next := none, leadIn := false, stopping := false, mismatch := false }).wr q ⟨0xC, 1, 1⟩ 0).wr
    q ⟨0xC, 4, 4⟩ 0
  let s2 := ((s1.wr q Reg.SCAN_RG_STATE_RUNNING 0).wr q Reg.SCAN_RG_STATE_STEP 0).releaseStopped r
  let s3 := if x.next.isNone then s2.wr q Reg.SCAN_RG_STATE_LEAD_IN 0 else s2
  let s4 := s3.park.applyStopped r
  if x.next.isSome && (s4.ras r).scan.isNone then s4.beginLeadIn r (s4.leadInFrame r 0) else s4

/-- Line 0 of a frame: scan-out of the next frame begins (R30 step 5, R253, R259 step 5). -/
def State.nextFrame (s : State) (r : Nat) (nf : FrameTiming) : State :=
  let q := SCAN r
  let x := s.ras r
  let s1 := if x.leadIn then (s.wr q Reg.SCAN_RG_STATE_RUNNING 1).wr q Reg.SCAN_RG_STATE_LEAD_IN 0 else s.inc q Reg.SCAN_RG_STATE_FRAMES
  let s2 := (s1.wr q Reg.SCAN_RG_STATE_EFF_DIV_M1 (nf.div - 1)).wr q Reg.SCAN_RG_STATE_STEP (b2n nf.step.isSome)
  let s3 := s2.setRas r { x with scan := some (nf, 0), next := none, leadIn := false }
  (if x.leadIn then s3.park else s3).lineEvents r nf 0

/-- A raster reaches its next line (R250). -/
def State.rasterLineStart (s : State) (r : Nat) : State :=
  let x := s.ras r
  match x.scan with
  | none => s
  | some (ft, l) =>
    if l < ft.vTotal then s.lineEvents r ft l
    else
      let t := s.advance ft.stop
      if x.stopping then (if x.leadIn then t else t.inc (SCAN r) Reg.SCAN_RG_STATE_FRAMES).rasterEnd r
      else match x.next with
        | some nf => t.nextFrame r nf
        | none => t.rasterEnd r

/-- RASTER_LINE_START (R250) of raster `r`. -/
def execRasterLineStart (r : Nat) (s : State) : Host.Outcome State Fault Refusal := live s (s.rasterLineStart r)

/-- The last active line of a frame of a raster has been scanned out (R33, R87). -/
def State.scannedOut (s : State) (r f : Nat) : Bool :=
  match (s.ras r).scan with
  | none => true
  | some (ft, l) => f < ft.frame || (f = ft.frame && ft.vActive < l)

/-- FRAME_LEASE_RELEASE (R33, R87): the later of scan-out and the last encode job of frame `f` has come. -/
def execFrameLeaseRelease (r f : Nat) (s : State) : Host.Outcome State Fault Refusal :=
  live s (if s.scannedOut r f && !s.encodeReads r f then s.leaseReleaseFrame r f else s)

/-! BAR2 (R18, R45, R88, R127, R465). -/

/-- ACCESS_UNMAPPED of a BAR2 request that reaches beyond the host pool. -/
def State.bar2Unmapped (s : State) (isWrite : Bool) (a n : Nat) : State :=
  if a + n ≤ poolSize then s else s.occur SYS 0x10 4 (b2n isWrite <<< 37 ||| max a poolSize % 2 ^ 37)

/-- The host's bytes enter the host pool (R88): protected blocks are dropped, the others end still pool runs that read them (R127). -/
def State.poolWrite (s : State) (a : Nat) (bytes : List Byte) : State :=
  s.writeChecked .pcie a bytes

/-- A PCIe write request to BAR2; nothing answers before reset is released (R510). -/
def State.bar2Write (s : State) (a : Nat) (bytes : List Byte) : State :=
  if s.pow.up then (s.poolWrite a bytes).bar2Unmapped true a bytes.length else s

/-- BAR2_WRITE (R88) at BAR2 offset `a`. -/
def execBar2Write (a : Nat) (bytes : List Byte) (s : State) : Host.Outcome State Fault Refusal := done (s.bar2Write a bytes)

/-- What a read of `n` host pool bytes returns: 0 for sealed storage, and all ones beyond the host pool. -/
def State.poolRead (s : State) (a n : Nat) : List Byte :=
  (List.range n).map fun i =>
    if poolSize ≤ a + i then 0xFF else if s.sealedSpan (a + i) 1 then 0 else s.byteAt (a + i)

/-- SEALED_READ is recorded and counted once for a request that meets sealed storage: `via` is 0 for PCIe, 1 for JTAG. -/
def State.sealedRead (s : State) (via a n : Nat) : State :=
  match (List.range n).find? fun i => a + i < poolSize && s.sealedSpan (a + i) 1 with
  | some i => (s.occur (SEC 2) 0x20 via ((a + i) % 2 ^ 37)).inc (SEC 2) Reg.SEC2_SEALED_READS
  | none => s

/-- A PCIe read request to BAR2. -/
def State.bar2Read (s : State) (a n : Nat) : State :=
  if s.pow.up then ((s.sealedRead 0 a n).bar2Unmapped false a n).emit (.memData (s.poolRead a n)) else s

/-- BAR2_READ (R465) of `n` bytes at BAR2 offset `a`. -/
def execBar2Read (a n : Nat) (s : State) : Host.Outcome State Fault Refusal := done (s.bar2Read a n)

end Sys2Proof.Machine
end

