-- ==== Sys2Proof/Machine/View.lean ====
section
/-!
DEFINITION. What a register shows (R35, R36): the stored words, the registers that follow from the rest of the state, and the
common header, for an access's role, without any side effect. Reads over every path, the mirror, the system snapshot (R76) and
the retention snapshot (R487) are made of it.
-/

namespace Sys2Proof.Machine

/-! Slack states as the PWR_DOM page shows them (R477-R481). -/

/-- The PWR, PWR_DOM and CLK pages. -/
abbrev PWR : Page := ⟨.pwr, 0⟩
abbrev PWD : Page := ⟨.pwrDom, 0⟩
abbrev CLK : Page := ⟨.clk, 0⟩

/-- The lanes of a lane domain are all disabled: 16-19 hold 224 tile lanes each, 20 and 21 64 wide lanes each (log 20). -/
def State.lanesOff (s : State) (d : Nat) : Bool :=
  if d < 20 then (List.range 224).all fun i => !s.enabled (TL (224 * (d - 16) + i))
  else (List.range 64).all fun i => !s.enabled (WL (64 * (d - 20) + i))

/-- The deepest state that R479 and R484 allow a domain: 0 RUN, 1 GATE, 2 NAP, 3 DARK. -/
def State.allowed (s : State) (d : Nat) : Nat :=
  let dim : Bool := s.rd PWR Reg.PWR_DEV_STATE = 1
  if d = 0 then 0
  else if !dim && s.rd PWR Reg.PWR_GOV_CFG_GOV_EN = 0 then 0
  else if d < 3 then 1
  else if d < 7 then if dim then 2 else 1
  else if d < 11 then if dim || s.enc.parked.contains (d - 7) then 3 else 2
  else if d = 11 then if dim then 3 else 1
  else if d = 12 then if dim || !(s.dec.any fun e => e.2.grant.isSome) then 3 else 1
  else if d = 13 then if dim || !((List.range 64).any fun i => s.enabled (ING i)) then 3 else 1
  else if d < 16 then 2
  else if d < 20 then if dim || s.lanesOff d then 3 else 0
  else if d < 22 then if s.lanesOff d then 3 else b2n dim
  else 1

/-- The deepest state allowed now: R479 capped by DOM_CFG.DEEPEST (R478). -/
def State.deepest (s : State) (d : Nat) : Nat := min (s.allowed d) (s.rd PWD (Reg.DOM_DOM_CFG_DEEPEST d))

/-- Entry and exit costs of a slack state in ns (R477). -/
def slackEntry (st : Nat) : Nat := match st with | 1 => 10 | 2 => 1000 | 3 => 30000 | _ => 0
def slackExit (st : Nat) : Nat := match st with | 1 => 20 | 2 => 2000 | 3 => 150000 | _ => 0

/-- Time that a domain has spent resident in state `st`, the stay in progress included. -/
def State.residence (s : State) (d st : Nat) : Nat :=
  let x := s.slack d
  (match st with | 1 => x.gate | 2 => x.nap | _ => x.dark) + (if x.st = st then s.tm.sys - x.since else 0)

/-- The PWR_DOM block of a domain, by word (R481). -/
def State.domWord (s : State) (d k : Nat) : Option Nat :=
  let x := s.slack d
  match k with
  | 1 => some (x.st ||| s.deepest d <<< 2 ||| b2n (s.tm.sys < x.exitEnd || (x.st ≠ 0 && s.tm.sys < x.since)) <<< 4
      ||| b2n (7 ≤ d ∧ d < 11 ∧ s.enc.parked.contains (d - 7)) <<< 5)
  | 2 => some (min 0xFFFFFFFF x.horizon)
  | 3 => some (s.residence d 1 / us 1 % 2 ^ 32)
  | 4 => some (s.residence d 2 / us 1 % 2 ^ 32)
  | 5 => some (s.residence d 3 / us 1 % 2 ^ 32)
  | _ => none

/-! The common header (R40-R42, R526). -/

/-- Implemented bits of PAGE_STATUS[30:0] (R526). -/
def conditionCount (p : Page) : Nat :=
  match p.ty with
  | .sys => 7
  | .sec => if p.inst = 1 then 1 else if p.inst = 2 then 2 else 3
  | .pwr => 5 | .pwrDom => 0 | .clk => 1 | .evt => 0 | .mbx => 3 | .ingest => 4 | .lease => 1
  | .compRaster => 2 | .compLayer => 4 | .compScaler => 1 | .stillPool => 2 | .colour => 3
  | .enc => 11 | .tsk => 3 | .ladder => 1 | .encRc => 0 | .dec => 6
  | .scan => 6 | .tileMap => 0 | .cal => 1 | .tile => 3 | .wide => 5 | .tileLane => 6
  | .net => 2 | .netGlobal => 2 | .sched => 3 | .schedTable => 2 | .fabPort => 4 | .fab => 5 | .mate => 8
  | .aud => 3 | .cvu => 3 | .rcEntry => 0

/-- PAGE_ID (R40, R41). -/
def pageId (p : Page) : Nat := ((pageInfo p.ty).code + p.inst / 256) <<< 16 ||| (p.inst % 256) <<< 8 ||| 1

/-- PAGE_CAP (R42, R526). -/
def pageCap (p : Page) : Nat :=
  1 ||| b2n (buffered p.ty) <<< 1 ||| b2n (tablePort p.ty) <<< 2 ||| b2n (abortable p.ty) <<< 3 ||| 1 <<< 4
    ||| conditionCount p <<< 8 ||| (pageInfo p.ty).blockRegs <<< 16

/-- SHADOW_STATE (R42); 0 in a page with BUFFERED 0 and in ENC RC (R184). LAST_RESULT and its frame are those of the group that the page is
in now. DESIGN CHOICE (log 83): after a rejected commit of that group, a page without a reason of its own, also one that joined the group
later, shows PARTNER_REJECTED, code 6. -/
def State.shadowState (s : State) (p : Page) : Nat :=
  if !committing p then 0
  else
    let g := s.groupOf p
    let x := tget {} s.cm.groups g
    b2n (s.dirty.contains (pageBase p)) ||| b2n (s.cm.arms.any fun a => a.accepted && bit a.groups g) <<< 1 ||| x.result <<< 2
      ||| (if x.result = 3 then (tfind x.reasons (pageBase p)).getD 6 else 0) <<< 8 ||| (x.frame % 65536) <<< 16

/-- The header registers that are not stored as they read. -/
def State.headerWord (s : State) (p : Page) (off : Nat) : Option Nat :=
  let q := s.queue p
  let head := (q.recs.headD 0).toNat
  match off with
  | 0x00 => some (pageId p)
  | 0x04 => some (pageCap p)
  | 0x0C => some (s.pageStatus p)
  | 0x10 => some (q.recs.length ||| q.lost <<< 16)
  | 0x14 => some (head % 2 ^ 32)
  | 0x18 => some (head / 2 ^ 32)
  | 0x1C => some q.total
  | 0x24 => some (s.shadowState p)
  | 0x28 => some (s.rights p)
  | _ => none

/-! Block registers that follow from the rest of the state. -/

/-- Bits `[hi:lo]` of a list's members, 32 from `32 k`. -/
def setWordBits (l : List Nat) (k : Nat) : Nat := ((l.filter fun i => i / 32 = k).map fun i => 2 ^ (i % 32)).sum

/-- The lease table entry that TBL_INDEX shows (R96). -/
def State.leaseWord (s : State) (off : Nat) : Option Nat :=
  let e := tfind s.leases (s.rd LEASE ⟨0x40, 11, 0⟩)
  match off with
  | 0x44 => some ((e.map (·.base)).getD 0)
  | 0x48 => some ((e.map (·.size)).getD 0)
  | 0x4C => some ((e.map fun x => b2n x.filling ||| b2n x.leased <<< 1 ||| b2n (!x.scans.isEmpty) <<< 2 ||| b2n x.retired <<< 3
      ||| x.owner <<< 4 ||| x.stream <<< 8 ||| x.frames.length <<< 16).getD 0)
  | 0x50 => some ((e.map (·.last)).getD 0 % 2 ^ 32)
  | 0x54 => some s.leases.length
  | 0x58 => some (s.releasedFrame % 2 ^ 32)
  | 0x5C => some (s.releasedFrame / 2 ^ 32 % 65536)
  | 0x74 => some (((s.leases.filter fun e => e.2.leased).map fun e => e.2.size).sum)
  | _ => none

/-- The time registers as a requester's read shows them (R28); the mirror of FRAME_NO_LO shows FRAME_NO and captures nothing. -/
def State.timeWord (s : State) (a : Access) (off : Nat) : Option Nat :=
  if off = 0x104 then some (s.frameNo % 2 ^ 32)
  else if 0x108 ≤ off ∧ off ≤ 0x118 then some (s.capturedWord a.path off).toNat
  else none

/-- EVT levels (R51-R54). -/
def State.evtWord (s : State) (off : Nat) : Option Nat :=
  let up := s.sourcesUp
  if 0x40 ≤ off ∧ off < 0x80 then some (setWordBits up ((off - 0x40) / 4))
  else if off = 0x280 ∨ off = 0x284 then
    some (setWordBits ((List.range 64).filter fun v => s.vectorLevel up v) ((off - 0x280) / 4))
  else if off = 0x290 then some (setWordBits ((List.range 4).filter fun i => s.pinLevel i) 0)
  else if off = 0x29C then some (s.evt.fabLost % 2 ^ 32)
  else none

/-- LUT_DATA and TONE_STATE of a COLOUR page; STATS index 0 shows the capture that exists (R142, R144, R145). -/
def State.colourWord (s : State) (a : Access) (r off : Nat) : Option Nat :=
  if off = 0x4C then some (s.toneStateShown a r)
  else if off = 0x54 then
    let (i, table, _) := s.lutPort r
    if table = 4 ∧ i = 0 then
      some (match (s.ras r).captured with | some v => statsWord (v.shownTo (s.roleOf a)) 0 | none => 0)
    else some (s.lutRead a r).2
  else none

/-- FLOOR_COST_ROW and FLOOR_COST_DU of a channel's pending values; 0 while they give no coded size (R184). -/
def State.floorWord (s : State) (c off : Nat) : Option Nat :=
  let w := encWordsOf s.wordP c
  let rc := rcWordsOf s.wordP c
  if off = 0xB8 then some (floorCostRow w)
  else if off = 0xBC then some (if floorCostRow w = 0 then 0 else floorCostDu (hrdModel s.tm.rate 0 w rc) w rc % 2 ^ 32)
  else none

/-- A calibration port's words: the mirror of CAL_DATA shows the cell, a read its pending copy where it has one (R265). -/
def State.calWord (s : State) (a : Access) (x off : Nat) (active : Bool) : Option Nat :=
  if off = 0x44 then
    let c := s.rd (CAL x) Reg.CAL_CAL_INDEX_CELL
    let w := s.rd (CAL x) Reg.CAL_CAL_INDEX_WORD
    some (if active then (if c / 524288 ≠ x || 5 < w then 0 else (s.cell c).getD w 0) else (s.calRead a x).2)
  else if off = 0x5C then some ((s.calShown x).word (CAL x) 0x5C).toNat
  else none

/-- A SCHED table port's words (R345). -/
def State.schtWord (s : State) (x off : Nat) : Option Nat :=
  if off = 0x68 then
    let staged := ((s.cm.arms.filter fun a => s.armHolds a (SCHT x)).map fun a =>
      (a.entries.filter fun e => e.1 / 32768 / 8 = x).length).sum
    some ((s.schPending x).length ||| staged <<< 16)
  else if off = 0x6C then some (cdiv (s.bufUsed x) 1024)
  else none

/-- A check-value unit's words (R440); the mirror of VAL_LO captures nothing. -/
def State.cvuWord (s : State) (a : Access) (n off : Nat) : Option Nat :=
  let t := s.cvuLook n
  match off with
  | 0x4C => some (t.cvuValue a n % 2 ^ 32)
  | 0x50 => some (s.cvuReadHi a n)
  | 0x58 => some (t.word (CVU n) 0x58).toNat
  | _ => none

/-- The gated islands: those of domains outside RUN (R483). -/
def State.gatedIslands (s : State) : List Nat := (List.range 41).filter fun i => (s.slack (islandDomain i)).st ≠ 0

/-- The value of a register that is not simply stored. -/
def State.computed (s : State) (a : Access) (p : Page) (off : Nat) (active : Bool) : Option Nat :=
  if off < 0x40 then s.headerWord p off
  else
    match p.ty with
    | .sys => s.timeWord a off
    | .sec => s.secWord p.inst off
    | .pwr => if off = 0x74 then some (s.pow.entries / 1024 % 2 ^ 32) else none
    | .pwrDom => s.domWord ((off - 0x40) / 0x18) ((off - 0x40) % 0x18 / 4)
    | .clk => if off = 0xB4 ∨ off = 0xB8 then some (setWordBits s.gatedIslands ((off - 0xB4) / 4)) else none
    | .evt => s.evtWord off
    | .mbx => if off = 0xD8 ∧ s.pow.booted then some ((s.tm.sys - s.pow.bootedAt) / ms 10 % 2 ^ 32) else none
    | .lease => s.leaseWord off
    | .compScaler => if off = 0x48 then some (s.coefRead a p.inst).2 else none
    | .stillPool => if 0x64 ≤ off then some (s.poolWord off) else none
    | .colour => s.colourWord a p.inst off
    | .tsk => if 0x8C ≤ off ∧ off < 0xC0 then some (s.obsWord ((off - 0x8C) / 4)) else none
    | .encRc => s.floorWord (s.rd p Reg.RC_RC_INDEX_CHANNEL) off
    | .scan =>
      if off = 0x58 then some ((s.word p off).toNat ||| s.lockNow <<< 3)
      else if off = 0x5C && !belowOwner (s.roleOf a) then
        some (tget 0 s.scn.checks p.inst ||| s.rd p Reg.SCAN_CHECK_STATE_FRAME <<< 24)
      else none
    | .tileMap =>
      match off with
      | 0x44 => some (s.mapRead a p.inst).2
      | 0x48 => some (s.enabledEntries p.inst).length
      | 0x4C => some (lanesOf (s.enabledEntries p.inst)).length
      | _ => none
    | .cal => s.calWord a p.inst off active
    | .tile =>
      match off with
      | 0x60 => some (s.faultSummary p.inst)
      | 0x70 => some (s.idleLanes p.inst)
      | 0x74 => some (s.ownEpoch % 65536)
      | 0x7C => some (s.tempMax p.inst)
      | _ => if 0x4C ≤ off ∧ off < 0x5C then some (s.tileWord p.inst off) else none
    | .sched => if off = 0x48 then some (cdiv (s.queuedFor p.inst) 1024) else none
    | .schedTable => s.schtWord p.inst off
    | .mate => if 0xA0 ≤ off ∧ off < 0xC0 then some (s.healthShown ((off - 0xA0) / 4)) else none
    | .cvu => s.cvuWord a p.inst off
    | _ => none

/-- What a read of a register returns (R36): WA bits 0, RW bits pending, or active in the mirror, the others current. An offset
that no register has shows 0. -/
def State.view (s : State) (a : Access) (p : Page) (off : Nat) (active : Bool) : Nat :=
  match regDesc p off with
  | none => 0
  | some d =>
    match s.computed a p off active with
    | some v => v % 2 ^ 32
    | none =>
      let h := s.home p off
      let w := (s.word h off).toNat
      mergeBits (if active then w else mergeBits w (s.wordP h off).toNat d.rw) 0 d.wa

/-- The access as which a role's snapshot reads: no requester's capture is seen (R76, log 21). -/
def snapAccess (role : Nat) : Access := if role = 1 then ⟨.token 0 0, true⟩ else ⟨.fabric 0xFFFF, true⟩

/-- A register's active value as a role may see it: 0 in a page that the role may not read (R43, R76, R487). -/
def State.shownTo (s : State) (role : Nat) (p : Page) (off : Nat) : Nat :=
  if bit (s.rights p) role || readableByAll off then s.view (snapAccess role) p off true else 0

/-- The offsets of a page's block registers, ascending, those of SYS that no chapter defines included (R34). -/
def blockOffsets (p : Page) : List Nat := (List.range (pageInfo p.ty).blockRegs).map fun i => 0x40 + 4 * i

/-- The active values of every block register in the order of R76 as a role sees their fields, by position, without the zeros
(R487); page rights are those of the role that reads them back. -/
def State.retained (s : State) (role : Nat) : List (Nat × Nat) :=
  let regs := allPages.flatMap fun p => (blockOffsets p).map fun off => (p, off)
  (regs.zipIdx.map fun e => (e.2, s.view (snapAccess role) e.1.1 e.1.2 true)).filter fun e => e.2 ≠ 0

/-- HELM_OUT (R399): the island cycles of each period of 800 for which it is high; none while its driver is off (reset, VIN_MAIN absent,
DIM). -/
def State.helmOut (s : State) : Option Nat :=
  if s.pow.up && s.rd PWR Reg.PWR_DEV_STATE % 8 ≠ 1 then some (if s.role = 1 then 600 else 200) else none

end Sys2Proof.Machine
end

