-- ==== Sys2Proof/Machine/Power.lean ====
section
/-!
DEFINITION. The slack governor, the device states, supplies, clocks, beat boundaries and resets (01_architecture.md R24-R27,
21_power_reset_boot.md R477-R489, R500, 22_pins_electrical.md R509, R510).
-/

namespace Sys2Proof.Machine

/-! The slack governor (R477-R479). -/

/-- Replace a domain's slack state. -/
def State.setSlack (s : State) (d : Nat) (x : DomSlack) : State := { s with pow := { s.pow with doms := tput {} s.pow.doms d x } }

/-- The earliest of some instants. -/
def earliest (l : List (Option Nat)) : Option Nat := (leastOf (l.filterMap id))

/-- The instant of the first line from `l` on at which a running raster composes (R30). -/
def State.nextCompose (s : State) (r : Nat) : Option Nat :=
  let x := s.ras r
  match x.scan with
  | none => none
  | some (ft, l) =>
    if l + 64 < ft.vActive && !x.leadIn then some (ft.lineStart l)
    else if x.stopping then none
    else if l < ft.vTotal then some (ft.lineStart (max l (ft.vTotal - 64)))
    else some ft.stop

/-- The instant of the next line of a running raster, in scan or composition. -/
def State.lineAhead (s : State) (r : Nat) : Option Nat :=
  let x := s.ras r
  match x.scan with
  | some (ft, l) =>
    earliest [if l < ft.vActive && !x.leadIn then some (ft.lineStart l)
              else if x.stopping then none else some ft.stop, s.nextCompose r]
  | none => none

/-- Line `l` of a frame composes, or is scanned out. -/
def lineComposes (ft : FrameTiming) (leadIn stopping : Bool) (l : Nat) : Bool :=
  (l + 64 < ft.vActive && !leadIn) || (ft.vTotal ≤ l + 64 && !stopping)

/-- A raster composes a line now (`scan` false), or composes or scans one out (`scan` true). -/
def State.lineBusy (s : State) (r : Nat) (scan : Bool) : Bool :=
  let x := s.ras r
  match x.scan with
  | some (ft, l) => 0 < l && (lineComposes ft x.leadIn x.stopping (l - 1) || (scan && l - 1 < ft.vActive && !x.leadIn))
  | none => false

/-- The start instant of the next frame that a running channel codes after its raster's frame `ft` (R151, R153). -/
def State.nextCoded (s : State) (c : Nat) (ft : FrameTiming) : Option Nat :=
  let m := s.rdL (ENC c) Reg.ENC_CH_CFG_DIVISOR_M1 + 1
  let f0 := beatAt s.tm.rate (ft.stop - ns (s.rdL (SCAN (s.rdL (ENC c) Reg.ENC_CH_CFG_RASTER)) Reg.SCAN_PHASE_PHASE_NS))
  ((List.range 8).find? fun j => (f0 + j * ft.div) % m = 0).map fun j =>
    ft.stop + (beatStart s.tm.rate (f0 + j * ft.div) - beatStart s.tm.rate f0)

/-- The next row hand-off of a running channel (R155): the end of the scan line in which the last raster line it needs is
composed, and not before line 0; else row 0 of its next picture. -/
def State.nextHandoffAt (s : State) (c : Nat) : Option Nat :=
  let x := s.chan c
  let ras := s.rdL (ENC c) Reg.ENC_CH_CFG_RASTER
  match (s.ras ras).scan with
  | none => none
  | some (ft, _) =>
    match x.nextHandoff with
    | some (p, r) =>
      let h := ((s.frameOf ras p.frame).map (·.height)).getD 0
      let need := min ((p.geo.y + p.geo.lastSourceLine r) / 64 * 64 + 63) (h - 1)
      if p.frame = ft.frame then some (ft.lineStart (need + 1 - 64))
      else some (ft.stop + (ft.lineStart (need + 1 - 64) - ft.start))
    | none => if x.running && !(s.ras ras).stopping then s.nextCoded c ft else none

/-- The next known event of a domain (R478, R479), as a SYSTIME; none where it is woken by work alone. -/
def State.nextKnown (s : State) (d : Nat) : Option Nat :=
  let rs := s.cmp.rasters.map (·.1)
  if 7 ≤ d ∧ d < 11 then earliest ((s.enc.channels.filter fun e => e.2.running).map fun e => s.nextHandoffAt e.1)
  else if d = 14 then earliest (rs.map s.nextCompose)
  else if d = 15 then earliest (rs.map s.lineAhead)
  else none

/-- Work is in progress in a domain, as far as the state shows it. -/
def State.domainBusy (s : State) (d : Nat) : Bool :=
  let rs := s.cmp.rasters.map (·.1)
  if d = 1 then s.opState MBX mbxOp = 1 || s.cm.arms.any fun a => !a.accepted
  else if 7 ≤ d ∧ d < 11 then s.enc.pixel.any fun e => e.1 / 24 = d - 7
  else if d = 11 then !s.enc.entropy.isEmpty
  else if d = 12 then s.dec.any fun e => e.2.pictures.any fun p => !p.complete
  else if d = 13 then s.ing.any fun e => e.2.ring.fill.isSome
  else if d = 14 then rs.any fun r => s.lineBusy r false
  else if d = 15 then rs.any fun r => s.lineBusy r true
  else if d = 22 then s.sch.queues.any fun e => !e.2.pkts.isEmpty
  else if d = 23 then s.fab.ports.any fun e => !e.2.queue.isEmpty
  else false

/-- GUARD_NS in force: below 100 acts as 100 (R482). -/
def State.guardNs (s : State) : Nat := max 100 (s.rd PWR Reg.PWR_GOV_CFG_GUARD_NS)

/-- The deepest of the states up to `deep` whose entry, exit and guard fit a horizon in ns (R478). -/
def fitState (deep guard : Nat) (h : Option Nat) : Nat :=
  ([3, 2, 1].find? fun st => st ≤ deep && (match h with
    | some h => decide (slackEntry st + slackExit st + guard ≤ h)
    | none => true)).getD 0

/-- A domain enters a slack state at the SYSTIME reached: resident once its entry is complete. -/
def State.enterSlack (s : State) (d st horizon : Nat) : State :=
  let x := s.slack d
  let t := s.setSlack d { x with st := st, since := s.tm.sys + ns (slackEntry st), horizon := horizon }
  { t with pow := { t.pow with entries := t.pow.entries + 1 } }

/-- A domain begins to leave its slack state: an entry in progress completes first, and its residence is counted (R477, R478). -/
def State.leaveSlack (s : State) (d : Nat) : State :=
  let x := s.slack d
  let stay := s.tm.sys - x.since
  let y := { x with st := 0, leaving := x.st, exitEnd := max s.tm.sys x.since + ns (slackExit x.st) }
  s.setSlack d (match x.st with
    | 0 => x
    | 1 => { y with gate := x.gate + stay }
    | 2 => { y with nap := x.nap + stay }
    | _ => { y with dark := x.dark + stay })

/-- GOV_SLACK_ENTRY (R478): one decision of the governor for a domain in RUN with no work in progress. -/
def State.govEntry (s : State) (d : Nat) : State :=
  let x := s.slack d
  if s.rd PWR Reg.PWR_GOV_CFG_GOV_EN = 0 || d = 0 || 23 < d || x.st ≠ 0 || s.tm.sys < x.exitEnd || s.domainBusy d then s
  else
    let h := (s.nextKnown d).map fun e => (e - s.tm.sys) / 65536
    let shown := min 0xFFFFFFFF (h.getD 0xFFFFFFFF)
    let st := fitState (s.deepest d) s.guardNs h
    if st = 0 then s.setSlack d { x with horizon := shown } else s.enterSlack d st shown

/-- GOV_SLACK_ENTRY (R478) for domain `d` at SYSTIME `t`. -/
def execGovSlackEntry (d t : Nat) (s : State) : Host.Outcome State Fault Refusal := live s ((s.advance t).govEntry d)

/-- GOV_SLACK_EXIT (R478): a known event with less notice than the exit costs records GOV_LATE. -/
def State.govExit (s : State) (d : Nat) : State :=
  let x := s.slack d
  if x.st = 0 then s
  else
    let late : Bool := match s.nextKnown d with | some e => e < s.tm.sys + ns (slackExit x.st) | none => false
    let s1 := s.leaveSlack d
    if late then (s1.occurF PWR 0x21 d).inc PWR Reg.PWR_GOV_LATE_COUNT else s1

/-- GOV_SLACK_EXIT (R478) for domain `d` at SYSTIME `t`. -/
def execGovSlackExit (d t : Nat) (s : State) : Host.Outcome State Fault Refusal := live s ((s.advance t).govExit d)

/-! The retention snapshot (R76, R487). -/

/-- The 64-byte header of R76. -/
def State.snapHeader (s : State) (frame : Nat) : List Byte :=
  leBytes 8 frame ++ leBytes 8 (s.tm.sys / 65536) ++ leBytes 4 (s.tm.sys % 65536) ++ leBytes 4 (s.rd SYS Reg.SYS_CONFIG_EPOCH)
    ++ leBytes 4 (s.rd ⟨.fab, 0⟩ Reg.FAB_NODE_STATE_NODE_ID) ++ leBytes 4 1786 ++ leBytes 32 0

/-- The retention snapshot is written. -/
def State.retain (s : State) : State :=
  let t := { s with pow := { s.pow with retention := some { frame := s.frameNo, header := s.snapHeader s.frameNo,
                                                            owner := s.retained 1, lower := s.retained 2 } } }
  t.wr MBX Reg.MBX_RETENTION_FRAME s.frameNo

/-! Device states (R484-R486). -/

/-- DEV_STATE changes (R482). -/
def State.setDev (s : State) (st : Nat) : State :=
  ((s.wr PWR Reg.PWR_DEV_STATE st).occurF PWR 0x20 st).inc PWR Reg.PWR_STATE_CHANGES

/-- A running channel stops as under R153. -/
def State.encHalt (s : State) (c : Nat) : State :=
  let x := s.chan c
  if x.running then ((s.setChan c { x with running := false }).wr (ENC c) Reg.ENC_CH_STATE_STATE 3).encStopped c else s

/-- REQ_DIM in ACTIVE (R485): the holder yields, running channels stop; rasters stop with the frame in scan-out. -/
def State.reqDim (s : State) : State :=
  if s.rd PWR Reg.PWR_DEV_STATE = 0 then
    let s1 := (s.loseHelm 0).setDev 2
    s1.each (s1.enc.channels.map (·.1)) State.encHalt
  else s

/-- REQ_ACTIVE (R485, R501): in DIM the domains are restored; while entering DIM it is taken after the entry. -/
def State.reqActive (s : State) : State :=
  if s.rd PWR Reg.PWR_DEV_STATE = 1 then s.setDev 3
  else if s.rd PWR Reg.PWR_DEV_STATE = 2 then { s with pow := { s.pow with wantActive := true } }
  else s

/-- REQ_DORMANT in ACTIVE or DIM (R486): the helm is yielded. -/
def State.reqDormant (s : State) : State :=
  if s.rd PWR Reg.PWR_DEV_STATE < 2 then (s.loseHelm 0).setDev 4 else s

/-- The state of a domain in DIM; none where it stays in RUN or GATE (R484). -/
def State.dimState (s : State) (d : Nat) : Option Nat :=
  if (3 ≤ d ∧ d < 7) ∨ d = 14 ∨ d = 15 then some 2
  else if (7 ≤ d ∧ d < 14) ∨ (16 ≤ d ∧ d < 20) then some 3
  else if (d = 20 ∨ d = 21) ∧ s.lanesOff d then some 3
  else none

/-- Rasters and channels have come to rest (R485 steps 2 and 3). -/
def State.atRest (s : State) : Bool :=
  (s.cmp.rasters.all fun e => e.2.scan.isNone) && (List.range 128).all fun c => s.rd (ENC c) Reg.ENC_CH_STATE_STATE < 2

/-- DIM_ENTRY_DONE (R485 steps 4 and 5). -/
def State.dimEntry (s : State) : State :=
  if s.rd PWR Reg.PWR_DEV_STATE = 2 && s.atRest then
    let s1 := s.each (List.range 32) State.leaseReleaseRaster
    let s2 := s1.each (List.range 24) fun t d =>
      match t.dimState d with
      | some st => if (t.slack d).st = st then t else (t.leaveSlack d).enterSlack d st 0xFFFFFFFF
      | none => t
    let s3 := (s2.retain.setDev 1).wr PWR Reg.PWR_DIM_ENTER_FRAME s.frameNo
    if s3.pow.wantActive then ({ s3 with pow := { s3.pow with wantActive := false } }).setDev 3 else s3
  else s

/-- DIM_ENTRY_DONE (R485). -/
def execDimEntryDone (s : State) : Host.Outcome State Fault Refusal := live s s.dimEntry

/-- DIM_EXIT_DONE (R485): domains are in RUN, rasters and channels restart, rings start afresh, and the device is ACTIVE. -/
def State.dimExit (s : State) : State :=
  if s.rd PWR Reg.PWR_DEV_STATE = 3 then
    let s1 := s.each (List.range 24) fun t d =>
      let u := t.leaveSlack d
      u.setSlack d { u.slack d with exitEnd := 0 }
    let s2 := (s1.setDev 0).wr PWR Reg.PWR_DIM_EXIT_FRAME s.frameNo
    let s3 := s2.each ((List.range 32).filter fun r => s2.enabled (SCAN r)) State.rasterStart
    let s4 := s3.each ((List.range 64).filter fun i => s3.enabled (ING i)) State.ringRestart
    s4.each ((s4.dec.filter fun e => e.2.running).map (·.1)) State.decStart
  else s

/-- DIM_EXIT_DONE (R485). -/
def execDimExitDone (s : State) : Host.Outcome State Fault Refusal := live s s.dimExit

/-! Resets (R27, R87, R461, R473, R488, R489, R500). -/

/-- The registers that hold fuses and other state of the device itself, or of DOMAIN_00, across a reset (R27, R29, R452, R489). -/
def keptWords : List (Page × Nat) :=
  [(SYS, 0x148), (SYS, 0x180), (SYS, 0x184), (SYS, 0x188), (⟨.fab, 0⟩, 0x4C), (⟨.fab, 0⟩, 0x50)]
    ++ (([0x40] ++ (List.range 12).map (fun k => 0x48 + 4 * k) ++ [0x78, 0x7C, 0x80]).map fun o => (SEC 0, o))

/-- What security keeps in fuses, flash and DOMAIN_00 (R452, R460, R463, R470, R484); the sealed ranges, the wait and a COLD reset:
log 22. -/
def SecState.afterReset (x : SecState) (cold : Bool) : SecState :=
  { policy := x.policy, cert := x.cert, rootKey := x.rootKey, failures := x.failures, debugDisabled := x.debugDisabled,
    ranges := if cold then [] else x.ranges, waitUntil := if cold then none else x.waitUntil }

/-- What DOMAIN_00 and the flashes keep of power and boot (R484, R490, R497). -/
def PowState.afterReset (x : PowState) (cause sys : Nat) : PowState :=
  { main := x.main, aux := x.aux, powered := x.powered, xo := x.xo, trip := x.trip, up := false, booted := false,
    jtag := if cause = 0 then .idcode else x.jtag, boundary := if cause = 0 then [] else x.boundary, remaps := x.remaps, hard := x.hard, records := x.records,
    testZero := cause = 7 || (x.testZero && !x.booted), strap := x.strap, railsOff := x.railsOff,
    watchdogs := if cause = 0 then [] else if cause = 5 then x.watchdogs ++ [sys] else x.watchdogs,
    retention := if cause = 0 then none else x.retention }

/-- A reset of a kind other than LINK, by its RESET_CAUSE code (R488, R489): every register returns to its reset value, the lease
table and key slots are empty, and DOMAIN_00 is kept. The block stays in reset until RESET_RELEASE. -/
def State.afterReset (s : State) (cause : Nat) : State :=
  let cold : Bool := cause = 0
  let s0 : State := { State.reset with
    pending := s.pending, out := s.out, freeCount := s.freeCount, mem := if cause < 2 then [] else s.mem,
    tm := if cold then {} else { s.tm with rateNext := none, captures := [] },
    sec := s.sec.afterReset cold, pow := s.pow.afterReset cause s.tm.sys }
  let s1 := s0.each keptWords fun t e => t.setWord e.1 e.2 (s.word e.1 e.2)
  let rate : Word := BitVec.ofNat 32 s1.tm.rate
  let s2 := (s1.setWord SYS 0x100 rate).setWordP SYS 0x100 rate
  let count := if cold then 1 else bits (s.word SYS 0x144).toNat 31 16 + 1
  (s2.wr SYS ⟨0x144, 3, 0⟩ cause).wr SYS ⟨0x144, 31, 16⟩ count

/-- A reset of a kind other than LINK: both flashes are reset with the device (R522). -/
def State.resetKind (s : State) (cause : Nat) : State := (s.afterReset cause).emits [.flashReset 0 10000, .flashReset 1 10000]

/-- A cause of a reset while the device is not in one (R489). -/
def State.resetBy (s : State) (cause : Nat) : State := if s.pow.up then s.resetKind cause else s

/-- A reset requested through SYS or MBX: a holder yields, and the reset takes effect 20 µs later (R403, R489). -/
def State.resetRequest (s : State) (cause : Nat) : State :=
  if s.pow.due.isSome then s
  else
    let t := s.loseHelm 0
    { t with pow := { t.pow with due := some (cause, t.tm.sys + us 20) } }

/-- DEVICE_RESET_EFFECT (R489). -/
def State.resetEffect (s : State) : State :=
  match s.pow.due with
  | some (cause, t) =>
    let u := if s.tm.sys ≤ t then { s with tm := { s.tm with sys := t, frame := beatAt s.tm.rate t } } else s
    u.resetBy cause
  | none => s

/-- DEVICE_RESET_EFFECT (R489). -/
def execDeviceResetEffect (s : State) : Host.Outcome State Fault Refusal := done s.resetEffect

/-- RESET_N_LOW (R489, R513). -/
def execResetNLow (s : State) : Host.Outcome State Fault Refusal := done (s.resetBy 2)

/-- WATCHDOG_EXPIRY (R488). -/
def execWatchdogExpiry (s : State) : Host.Outcome State Fault Refusal := done (s.resetBy 5)

/-- THERMAL_TRIP (R488): the device is held in reset. -/
def State.thermalTrip (s : State) : State :=
  let t := s.resetBy 6
  { t with pow := { t.pow with trip := true } }

/-- THERMAL_TRIP (R488). -/
def execThermalTrip (s : State) : Host.Outcome State Fault Refusal := done s.thermalTrip

/-- THERMAL_TRIP_RELEASE (R488): the junction is below 110 °C. -/
def execThermalTripRelease (s : State) : Host.Outcome State Fault Refusal := done { s with pow := { s.pow with trip := false } }

/-- A TEST reset (R469, R488); the next boot zeroes the host pool. -/
def State.testReset (s : State) : State :=
  let t := s.resetBy 7
  { t with pow := { t.pow with testZero := true } }

/-- IDCODE (R515): version 1, part 0x9640, manufacturer 0x4B9. -/
def jtagIdcode : Nat := 0x19640973

/-- The cells of the boundary-scan chain (R513, R515): every 3V3 and 1V8 land but those of the port itself, which IEEE 1149.1 keeps out of
it. -/
def boundaryCells : Nat := 9 + 64 + 14

/-- The register that an instruction selects, as it captures, the bit next to TDO first (IEEE 1149.1, R515). The levels of the lands are free
values (assumption log 84). -/
def State.jtagCapture (s : State) : JtagInstruction → List Bool
  | .idcode => (List.range 32).map jtagIdcode.testBit
  | .sample | .extest => (List.range boundaryCells).map (s.free boundaryCells).testBit
  | .bypass | .clamp | .highz => [false]

/-- An instruction is loaded, then bits are shifted through the register that it selects (R469, R515). SAMPLE/PRELOAD and EXTEST leave what
was shifted in in the boundary register, whose levels the output lands carry under EXTEST and CLAMP. EXTEST, CLAMP and HIGHZ reset. -/
def State.jtagLoad (s : State) (i : JtagInstruction) (tdi : List Bool) : State :=
  let reg := s.jtagCapture i
  let s1 := match i with | .extest | .clamp | .highz => s.testReset | _ => s
  let s2 := { s1 with pow := { s1.pow with
    jtag := i, boundary := match i with | .sample | .extest => (reg ++ tdi).drop tdi.length | _ => s1.pow.boundary } }
  let s3 := match i with | .sample | .extest => s2.drawn | _ => s2
  s3.emit (.jtag ((reg ++ tdi).take tdi.length))

/-- JTAG_EXTEST (R469); nothing answers while DOMAIN_00 has no power. -/
def execJtagExtest (s : State) (i : JtagInstruction := .extest) (tdi : List Bool := []) : Host.Outcome State Fault Refusal :=
  done (if s.pow.powered then s.jtagLoad i tdi else s)

/-- LINK_RESET (R488): DOMAIN_02 alone: the MSI-X table and vector arming; a debug session ends. -/
def State.linkReset (s : State) : State :=
  if s.pow.up then
    let s1 := { s with evt := { s.evt with disarmed := [], unmasked := [], msix := [] } }
    (s1.sessionEnd 2).inc SYS Reg.SYS_LINK_RESETS
  else s

/-- LINK_RESET (R488). -/
def execLinkReset (s : State) : Host.Outcome State Fault Refusal := done s.linkReset

/-! Power (R486, R509, R510). -/

/-- Power leaves every domain except DOMAIN_00: what they held is lost, the always-on state stays, WAKE_CFG with it. -/
def State.powerOff (s : State) : State :=
  let t := s.afterReset 1
  let u := ((t.setWord PWR 0x64 (s.word PWR 0x64)).setWord SYS 0x144 (s.word SYS 0x144)).setWord PWR 0x68 (s.word PWR 0x68)
  { u with pow := { u.pow with testZero := false } }

/-- DORMANT_ENTRY_DONE (R486, R487). -/
def State.dormantEntry (s : State) : State :=
  if s.rd PWR Reg.PWR_DEV_STATE = 4 then
    let t := s.retain.powerOff
    { t with pow := { t.pow with dormant := true } }
  else s

/-- DORMANT_ENTRY_DONE (R486). -/
def execDormantEntryDone (s : State) : Host.Outcome State Fault Refusal := live s s.dormantEntry

/-- A reset of kind MAIN with its wake cause (R482, R486). -/
def State.mainReset (s : State) (wake : Nat) : State := (s.resetKind 1).wr PWR Reg.PWR_WAKE_CAUSE wake

/-- A wake source that WAKE_CFG enables ends DORMANT (R486). -/
def State.wake (s : State) (on : Bool) (cause : Nat) : State := if s.pow.dormant && s.pow.main && on then s.mainReset cause else s

/-- WAKE_PIN (R486): WAKE_N low for 1 ms. -/
def execWakePin (s : State) : Host.Outcome State Fault Refusal := done (s.wake (s.rd PWR Reg.PWR_WAKE_CFG_WAKE_PIN = 1) 1)

/-- WAKE_LANE_SIGNAL (R486): a signal on wide lane `n` for 100 µs. -/
def execWakeLaneSignal (n : Nat) (s : State) : Host.Outcome State Fault Refusal :=
  done (s.wake (s.rd PWR Reg.PWR_WAKE_CFG_LANE_SIGNAL = 1 && s.rd PWR Reg.PWR_WAKE_CFG_WAKE_LANE = n) 3)

/-- Every supply is gone: all state is lost but fuses and flash. -/
def State.allLost (s : State) : State :=
  let t := s.afterReset 0
  { t with pow := { t.pow with main := false, aux := false, powered := false, xo := false, railsOff := [] } }

/-- VIN_MAIN_LOSS (R486, R509, R511): AUX-ONLY, or everything is lost; no snapshot is written. -/
def State.mainLoss (s : State) : State :=
  if !s.pow.main then s
  else if s.pow.aux then
    let t := s.powerOff
    { t with pow := { t.pow with main := false, dormant := false } }
  else s.allLost

/-- VIN_MAIN_LOSS (R486): VIN_MAIN is below 36 V or above 62 V for 50 µs. -/
def execVinMainLoss (s : State) : Host.Outcome State Fault Refusal := done s.mainLoss

/-- VIN_MAIN_RETURN (R486, R488): VIN_MAIN is back in AUX-ONLY. -/
def State.mainReturn (s : State) : State :=
  if s.pow.powered && !s.pow.main then
    let t := s.mainReset 4
    { t with pow := { t.pow with main := true } }
  else s

/-- VIN_MAIN_RETURN (R486). -/
def execVinMainReturn (s : State) : Host.Outcome State Fault Refusal := done s.mainReturn

/-- VIN_AUX_LOSS (R509). -/
def State.auxLoss (s : State) : State :=
  if s.pow.main then { s with pow := { s.pow with aux := false } } else if s.pow.aux then s.allLost else s

/-- VIN_AUX_LOSS (R509): VIN_AUX is below 2.2 V or above 5.8 V for 50 µs. -/
def execVinAuxLoss (s : State) : Host.Outcome State Fault Refusal := done s.auxLoss

/-- POWER_ON (R488, R510, R513): a supply passes its start threshold. The first one powers DOMAIN_00, a COLD reset, and the SMBus
address straps are sampled. -/
def State.powerOn (s : State) (viaMain : Bool) (strap : Nat) : State :=
  let on (x : PowState) : PowState := if viaMain then { x with main := true } else { x with aux := true }
  if s.pow.powered then (if viaMain then s else { s with pow := on s.pow })
  else
    let t := s.resetKind 0
    { t with pow := { on t.pow with powered := true, strap := strap % 4 } }

/-- POWER_ON (R510): VIN_MAIN (`viaMain`) or VIN_AUX, with SMB_ADDR_1 and SMB_ADDR_0. -/
def execPowerOn (viaMain : Bool) (strap : Nat) (s : State) : Host.Outcome State Fault Refusal := done (s.powerOn viaMain strap)

/-- SYS_XO_READY (R510): SYS_XO has been present for 1 ms; SYSTIME starts at 0. -/
def State.xoReady (s : State) : State :=
  if s.pow.powered && !s.pow.xo then { s with tm := {}, pow := { s.pow with xo := true } } else s

/-- SYS_XO_READY (R510). -/
def execSysXoReady (s : State) : Host.Outcome State Fault Refusal := done s.xoReady

/-! Clocks (R483). -/

/-- Firmware treats a compute island's work as an uncorrectable error under R171 or R122. -/
def State.islandWork (s : State) (i : Nat) : State :=
  if i < 4 then s.each ((List.range 24).map fun j => 24 * i + j) State.jobError
  else if i < 8 then s.each ((List.range 4).map fun j => 128 + 4 * (i - 4) + j) State.jobError
  else if i < 12 then
    s.each ((List.range 32).filter fun r => s.rd (SCAN r) Reg.SCAN_RG_STATE_RUNNING = 1 &&
      s.rd (COMP r) Reg.CRASTER_COMP_STATE_CHIPLET = i - 8) fun t r => t.composeError r 0
  else s

/-- The PLL of an island is locked, or not. -/
def State.showLock (s : State) (i : Nat) (lock : Bool) : State := s.wr CLK ⟨if i < 32 then 0x44 else 0x48, i % 32, i % 32⟩ (b2n lock)

/-- ISLAND_PLL_LOSS (R483); the compute islands are 0-28 (log 20). -/
def State.pllLoss (s : State) (i : Nat) : State :=
  if 41 ≤ i || s.pow.unlocked.contains i then s
  else
    let s1 := ({ s with pow := { s.pow with unlocked := sins i s.pow.unlocked } }).showLock i false
    let s2 := s1.inc CLK Reg.CLK_LOCK_EVENTS
    if i < 29 then (s2.occurF CLK 0x20 i).islandWork i else s2

/-- ISLAND_PLL_LOSS (R483) of island `i`. -/
def execIslandPllLoss (i : Nat) (s : State) : Host.Outcome State Fault Refusal := live s (s.pllLoss i)

/-! Beat boundaries (R24, R25, R32, R287, R416, R482, R483). -/

/-- The error counters of the lanes and ports since the last beat. -/
def State.laneErrors (s : State) (m : Sensors) : State :=
  let s1 := s.each m.lanes fun t e =>
    if e.1 < 128 then
      let q := WL e.1
      let u := t.addTo q Reg.WL_SYM_ERRORS e.2.1
      if u.rd q Reg.WL_LANE_CTL_PRBS_RX = 1 then u.wr q Reg.WL_PRBS_ERRORS (min 0xFFFFFFFF (u.rd q Reg.WL_PRBS_ERRORS + e.2.2)) else u
    else
      let q := TL (e.1 - 128)
      if t.rd q Reg.TL_LANE_CTL_PRBS_RX = 1 then
        t.wr q Reg.TL_LANE_STATE_PRBS_ERRORS (min 0xFFFF (t.rd q Reg.TL_LANE_STATE_PRBS_ERRORS + e.2.2))
      else t
  s1.each (List.range 64) fun t p =>
    match tfind m.fec p with
    | some (bad, fixed) =>
      ((t.addTo (NET p) ⟨0x54, 15, 0⟩ bad).addTo (NET p) ⟨0x54, 31, 16⟩ fixed).wr (NET p) Reg.NET_PORT_STATE_HIGH_SER (b2n (bad ≠ 0))
    | none => t.wr (NET p) Reg.NET_PORT_STATE_HIGH_SER 0

/-- Supply, power, temperature and clock registers take what the sensors read (R482, R483). -/
def State.sense (s : State) (m : Sensors) : State :=
  let s1 := ((s.wr PWR Reg.PWR_VIN_MAIN_MV_VIN_MAIN m.vin).wr PWR Reg.PWR_VIN_AUX_MV_VIN_AUX m.aux).wr PWR Reg.PWR_SUPPLY_STATE
    (b2n s.pow.main ||| b2n s.pow.aux <<< 1 ||| b2n (m.vin < 40000) <<< 2 ||| b2n (m.aux < 2500) <<< 3)
  let mw := min (2 ^ 20 - 1) m.mw
  let s2 := ((s1.wr PWR Reg.PWR_INPUT_MW mw).wr PWR Reg.PWR_PEAK_MW (max mw (s1.rd PWR Reg.PWR_PEAK_MW))).wr PWR
    Reg.PWR_JUNCTION_MAX (m.junction % 65536)
  let s3 := s2.each (List.range 12) fun t k =>
    t.wr PWR (Reg.PWR_DOM_POWER k) (m.power.getD (2 * k) 0 % 65536 ||| (m.power.getD (2 * k + 1) 0 % 65536) <<< 16)
  let s4 := (s3.wr PWR Reg.PWR_ENERGY_LO m.energy).wr PWR Reg.PWR_ENERGY_HI (m.energy / 2 ^ 32)
  let s5 := s4.wr CLK Reg.CLK_CLK_STATE (b2n m.refclk156 ||| b2n m.refclk100 <<< 1 ||| b2n m.xo <<< 2 ||| b2n m.audio <<< 3)
  let s6 := s5.each (List.range 4) fun t k => t.wr CLK ⟨0x50 + 4 * k, 31, 0⟩ (m.ppm.getD k 0)
  let mhz (i : Nat) : Nat := if (s.slack (islandDomain i)).st = 0 then m.freq.getD i 0 % 65536 else 0
  let s7 := s6.each (List.range 21) fun t k => t.wr CLK (Reg.CLK_ISLAND_FREQ k) (mhz (2 * k) ||| mhz (2 * k + 1) <<< 16)
  { s7 with mate := { s7.mate with health := { s7.mate.health with junction := m.junction % 65536, passes := m.passes } } }

/-- The work of a beat boundary. -/
def State.beatWork (s : State) : State := s.frameOut.idleBeats.encBeat.mateBeat.refreshGroups

/-- BEAT_BOUNDARY (R24): SYSTIME reaches B(n + 1). -/
def State.beat (s : State) (m : Sensors) : State :=
  if !(s.pow.powered && s.pow.xo) then s
  else
    let n := s.tm.frame + 1
    let t := { s with tm := { s.tm with sys := beatStart s.tm.rate n, frame := n } }
    if t.pow.up then ((t.laneErrors m).sense m).beatWork else t

/-- BEAT_BOUNDARY (R24), with what the sensors read. -/
def execBeatBoundary (m : Sensors) (s : State) : Host.Outcome State Fault Refusal := done (s.beat m)

/-- The first boundary of the new rate at or after B(f) of the old one. -/
def firstBoundary (old new f : Nat) : Nat := beatAt new (beatStart old f - 1) + (if beatStart old f = 0 then 0 else 1)

/-- BEAT_RATE_SWITCH (R25): FRAME_NO becomes the count of the new rate; no raster or channel runs, so no frame of the old
count is due any more. -/
def State.rateSwitch (s : State) : State :=
  match s.tm.rateNext with
  | some (code, f) =>
    let m := firstBoundary s.tm.rate code f
    let t := { s with
      tm := { s.tm with sys := max s.tm.sys (beatStart code m), frame := m, rate := code, rateNext := none }
      cm := { s.cm with resume := none } }
    (t.occur SYS 0x26 0 (m % 2 ^ 48)).beatWork
  | none => s

/-- BEAT_RATE_SWITCH (R25). -/
def execBeatRateSwitch (s : State) : Host.Outcome State Fault Refusal := done s.rateSwitch

end Sys2Proof.Machine
end

