-- ==== Sys2Proof/Machine/Boot.lean ====
section
/-!
DEFINITION. Boot, firmware images, live maintenance and self-test (17_redundancy.md R416, 21_power_reset_boot.md R490-R500): the
release of reset, the boot, and the mailbox commands of chapter 21.
-/

namespace Sys2Proof.Machine

/-! Switch records and slots (R490, R491, R498). -/

/-- The newest valid record: the higher SEQ, copy 0 where they are equal. -/
def State.newestRecord (s : State) : Option SwitchRecord :=
  match tfind s.pow.records 0, tfind s.pow.records 1 with
  | some a, some b => if b.seq ≤ a.seq then some a else some b
  | some a, none => some a
  | none, r => r

/-- The copy that IMG_SWITCH replaces: the one with the lower SEQ, or one that is not valid. -/
def State.olderCopy (s : State) : Nat :=
  match tfind s.pow.records 0, tfind s.pow.records 1 with
  | some a, some b => if b.seq ≤ a.seq then 1 else 0
  | some _, none => 1
  | none, _ => 0

/-- The target slot: the one not named by the newest valid record; without one, the slot that does not run. -/
def State.targetSlot (s : State) : Nat :=
  match s.newestRecord with
  | some r => 1 - r.slot
  | none => 1 - s.rd MBX ⟨0xE4, 0, 0⟩

/-- The slot that the boot ROM runs and whether that is a fall-back; none for RECOVERY (R491). `passA` and `passB` say whether the
slot's image passes R467 and, where a record names it, matches that record's hash. -/
def State.bootSlot (s : State) (passA passB : Bool) : Option (Nat × Bool) :=
  let pass (k : Nat) : Bool := if k = 0 then passA else passB
  let often : Bool := 3 ≤ (s.pow.watchdogs.filter fun t => s.tm.sys ≤ t + ms 60000).length
  match s.newestRecord with
  | some r =>
    if pass r.slot && !often then some (r.slot, false)
    else if pass (1 - r.slot) then some (1 - r.slot, true)
    else none
  | none => if passA then some (0, false) else if passB then some (1, false) else none

/-- RESET_RELEASE (R401, R488, R491, R510, R513): both supplies of the boot are there, and HOME_SEL is sampled. -/
def State.release (s : State) (passA passB home : Bool) : State :=
  if s.pow.up || !s.pow.powered || !s.pow.xo || !s.pow.main || s.pow.trip || s.pow.dormant then s
  else
    let s1 := ({ s with pow := { s.pow with up := true, due := none } }).wr MATE Reg.MATE_HELM_STATE_HOME (b2n home)
    let s2 := s1.wr MBX Reg.MBX_SWITCH_SEQ ((s1.newestRecord.map (·.seq)).getD 0)
    match s.bootSlot passA passB with
    | some (k, fall) =>
      let s3 := (s2.wr MBX ⟨0xE4, 0, 0⟩ k).wr MBX Reg.MBX_BOOT_STATE_FALLBACK (b2n fall)
      if fall then s3.occurF MBX 0x21 k else s3
    | none => s2.wr MBX Reg.MBX_BOOT_STATE_RECOVERY 1

/-- RESET_RELEASE (R510). -/
def execResetRelease (passA passB home : Bool) (s : State) : Host.Outcome State Fault Refusal := done (s.release passA passB home)

/-- REPAIR_STATE (R493, R497). -/
def State.repairShown (s : State) : State :=
  let hard := (s.pow.remaps.filter fun e => e.2.2).length
  let t := s.wr MBX Reg.MBX_REPAIR_STATE (s.pow.remaps.length ||| hard <<< 8)
  { t with mate := { t.mate with health := { t.mate.health with rows := s.pow.remaps.length + s.pow.hard.length } } }

/-- IMG_STATE.target slot (R493). -/
def State.targetShown (s : State) : State := s.wr MBX ⟨0xEC, 3, 3⟩ s.targetSlot

/-- An image runs: it is measured, microcode is loaded, root, policy and certificate are applied, and after a TEST reset the host
pool is zeroed (R467, R492 step 4). -/
def State.runImage (s : State) (slot version svn hash : Nat) : State :=
  let s1 := ({ s with sec := { s.sec with meas := [] } }).extend 0 (Config.measured 0 [s.rd SYS ⟨0x188, 31, 0⟩])
  let s2 := (s1.extend 1 (Config.measured 1 [slot, svn, hash])).extend 2 (Config.measured 2 [version, svn, hash])
  let s3 := if s2.rootSet then s2.extend 3 s2.sec.rootKey else s2
  let s4 := match s3.sec.policy with | some p => s3.policyApply p | none => s3
  let s5 := match s4.sec.cert with | some c => s4.extend 5 c | none => s4
  let s6 := (s5.wr MBX Reg.MBX_FW_VERSION version).wr MBX Reg.MBX_FW_SVN (svn % 128)
  let s7 := if s6.pow.testZero then
      ({ s6 with mem := [], pow := { s6.pow with testZero := false } }).wr MBX Reg.MBX_BOOT_STATE_TEST_ZEROED 1
    else s6
  { s7 with pow := { s7.pow with booted := true, bootedAt := s7.tm.sys } }

/-- BOOT_COMPLETE (R492, R493, R497): hard repairs are programmed and leave the list, PLLs are locked, and the MBX page is served. -/
def State.bootComplete (s : State) (version svn hash time : Nat) : State :=
  if !s.pow.up || s.pow.booted || s.rd MBX Reg.MBX_BOOT_STATE_RECOVERY = 1 then s
  else
    let hard : List (Nat × Nat) := (s.pow.remaps.filter fun e => e.2.2).map fun (e : Nat × Nat × Bool) => (e.1, e.2.1)
    let p := { s.pow with remaps := s.pow.remaps.filter fun e => !e.2.2, hard := s.pow.hard ++ hard }
    let s1 : State := { s with pow := p }
    let s2 := (s1.repairShown.targetShown.runImage (s.rd MBX ⟨0xE4, 0, 0⟩) version svn hash).wr MBX Reg.MBX_BOOT_TIME_MS time
    let s3 := s2.wr MBX Reg.MBX_RETENTION_FRAME ((s2.pow.retention.map fun (x : Retention) => x.frame).getD 0)
    s3.each ((List.range 41).filter fun i => !s3.pow.unlocked.contains i) fun t i => t.showLock i true

/-- BOOT_COMPLETE (R492): FW_VERSION, security version and hash of the image, and the milliseconds from the release of reset. -/
def execBootComplete (version svn hash time : Nat) (s : State) : Host.Outcome State Fault Refusal :=
  done (s.bootComplete version svn hash time)

/-! Firmware image (R467, R495, R498). -/

/-- The buffer of two offset words and a length is not wholly in the host pool. -/
def beyondPool (req : List Nat) (k : Nat) (len : Nat) : Bool := poolSize < reqOffset req k + len

/-- The result of the checks of R467 on an image: signature and owner co-signature, security version, stepping. -/
def State.imageCheck (s : State) (o : MbxOutcome) : Nat :=
  if !o.signed || (s.policyFlag 4 && !o.cosigned) then 3
  else if o.version < s.rd (SEC 0) Reg.SEC0_SVN_MIN_SVN_MIN then 4
  else if !o.stepping then 5
  else 0

/-- A flash operation fails: while VOUT_1V8 is off (R511), or by itself. -/
def State.flashFails (s : State) (o : MbxOutcome) : Bool := s.pow.railsOff.contains 1 || !o.flash

/-- DEVICE_RESET (R489, R495). -/
def State.mbxDeviceReset (s : State) (_ : List Nat) : State × List Nat := (s.resetRequest 4, [0])

/-- IMG_STAGE (R495, R498). -/
def State.imgStage (o : MbxOutcome) (s : State) (req : List Nat) : State × List Nat :=
  let len := req.getD 2 0
  if len = 0 || beyondPool req 0 len then (s, [1])
  else
    let k := s.imageCheck o
    if k ≠ 0 then (s, [k])
    else
      let t := { s with pow := { s.pow with staged := some (o.version, o.hash, len) } }
      (((t.wr MBX Reg.MBX_IMG_STATE_STAGED 1).wr MBX Reg.MBX_IMG_STATE_WRITTEN 0).wr MBX Reg.MBX_IMG_STATE_VERIFIED 0 |>.targetShown,
        [0, o.version, s.targetSlot])

/-- IMG_WRITE (R495, R498). -/
def State.imgWrite (o : MbxOutcome) (s : State) (_ : List Nat) : State × List Nat :=
  match s.pow.staged with
  | none => (s, [2])
  | some (_, _, len) =>
    let t := s.wr MBX Reg.MBX_IMG_STATE_VERIFIED 0
    if s.flashFails o then (t.wr MBX Reg.MBX_IMG_STATE_WRITTEN 0, [8])
    else ((t.wr MBX Reg.MBX_IMG_STATE_WRITTEN 1).wr MBX Reg.MBX_CMD_OP_STATUS_PROGRESS (cdiv len 65536), [0])

/-- Twelve words of a SHA-384. -/
def hashWords (h : Nat) : List Nat := (List.range 12).map fun k => leNat (((hashBytes h).drop (4 * k)).take 4)

/-- IMG_VERIFY (R495, R498): `o.hash` is the SHA-384 read back. -/
def State.imgVerify (o : MbxOutcome) (s : State) (_ : List Nat) : State × List Nat :=
  match s.pow.staged with
  | none => (s, [2])
  | some (_, h, _) =>
    if s.flashFails o then (s, [8])
    else if o.hash = h then (s.wr MBX Reg.MBX_IMG_STATE_VERIFIED (s.rd MBX Reg.MBX_IMG_STATE_WRITTEN), 0 :: hashWords o.hash)
    else (s.wr MBX Reg.MBX_IMG_STATE_VERIFIED 0, 7 :: hashWords o.hash)

/-- IMG_SWITCH (R490, R495, R498). -/
def State.imgSwitch (o : MbxOutcome) (s : State) (_ : List Nat) : State × List Nat :=
  match s.pow.staged with
  | some (v, h, _) =>
    if s.rd MBX Reg.MBX_IMG_STATE_VERIFIED = 0 then (s, [6])
    else if s.flashFails o then (s, [8])
    else
      let seq := ((s.newestRecord.map (·.seq)).getD 0 + 1) % 2 ^ 32
      let t := { s with pow := { s.pow with records := tins s.olderCopy { slot := s.targetSlot, seq := seq, svn := v, hash := h } s.pow.records } }
      ((t.wr MBX Reg.MBX_SWITCH_SEQ seq).targetShown, [0, seq])
  | none => (s, [6])

/-- RECOVERY_BOOT (R491, R495): an image of the host pool runs. -/
def State.recoveryBoot (o : MbxOutcome) (s : State) (req : List Nat) : State × List Nat :=
  if s.rd MBX Reg.MBX_BOOT_STATE_RECOVERY = 0 then (s, [0xB])
  else if req.getD 2 0 = 0 || beyondPool req 0 (req.getD 2 0) then (s, [1])
  else
    let k := s.imageCheck o
    if k ≠ 0 then (s, [k])
    else
      let s1 := s.repairShown.runImage 2 o.version o.version o.hash
      ((s1.wr MBX Reg.MBX_BOOT_STATE_RECOVERY 0).each ((List.range 41).filter fun i => !s1.pow.unlocked.contains i) fun t i => t.showLock i true, [0])

/-! Microcode (R171, R496). -/

/-- The engines of a chiplet, coded as in R174: its pixel engines, then its entropy engines. -/
def chipletEngines (k : Nat) : List Nat := (List.range 24).map (fun j => 24 * k + j) ++ (List.range 4).map fun j => 128 + 4 * k + j

/-- An engine runs a job. -/
def State.engineBusy (s : State) (u : Nat) : Bool :=
  if u < 128 then (tfind s.enc.pixel u).isSome else (tfind s.enc.entropy (u - 128)).isSome

/-- An engine is withdrawn, recorded where it was not. -/
def State.withdraw (s : State) (u : Nat) : State :=
  if s.enc.withdrawn.contains u then s
  else ({ s with enc := { s.enc with withdrawn := sins u s.enc.withdrawn, lent := sdel u s.enc.lent } }).occurF TSK 0x21 u

/-- A withdrawn engine returns, recorded. -/
def State.giveBack (s : State) (u : Nat) : State :=
  if s.enc.withdrawn.contains u then
    ({ s with enc := { s.enc with withdrawn := sdel u s.enc.withdrawn } }).occurF TSK 0x22 u
  else s

/-- The buffer, signature, stepping and capacity checks of MCODE_RELOAD. -/
def State.mcodeCheck (s : State) (o : MbxOutcome) (req : List Nat) : Nat :=
  if req.getD 3 0 = 0 || beyondPool req 1 (req.getD 3 0) then 1
  else if !o.signed then 3
  else if !o.stepping then 5
  else if 69000 < s.demandSum (·.d) || 11000 < s.demandSum (·.e) then 9
  else 0

/-- MCODE_RELOAD (R496): the chiplet's engines, whose jobs have ended, are withdrawn, loaded and returned where they pass. -/
def State.mcodeReload (o : MbxOutcome) (s : State) (req : List Nat) : State × List Nat :=
  let k := req.getD 0 0 % 4
  let c := s.mcodeCheck o req
  if c ≠ 0 then (s, [c])
  else
    let us := chipletEngines k
    let bad := us.filter fun u => o.failed.contains (if u < 128 then u % 24 else 24 + u % 4)
    let s1 := (s.each us State.withdraw).each (us.filter fun u => !bad.contains u) State.giveBack
    let s2 := { s1.extend 2 (Config.measured 2 [o.version, o.hash]) with pow := { s1.pow with reloaded := sdel k s1.pow.reloaded } }
    let placed : Bool := s.dec.any fun e => e.2.grant.isSome && e.2.pipes.any fun p => p / 2 = k
    let s3 := ((s2.wr MBX ⟨0xF4, k, k⟩ 1).wr MBX Reg.MBX_CMD_OP_STATUS_PROGRESS us.length).encShown
    (s3, [0, o.version % 2 ^ 32, ((bad.filter (· < 128)).map fun u => 2 ^ (u % 24)).sum ||| b2n placed <<< 24])

/-! HBM repair (R497). -/

/-- HBM_REPAIR: the row is remapped, unless its bank's spare row or the list is used up. -/
def State.hbmRepair (o : MbxOutcome) (s : State) (req : List Nat) : State × List Nat :=
  let bank := req.getD 0 0 % 4096
  let hard := bit (req.getD 0 0) 12
  let row := req.getD 1 0
  let put (t : State) : State :=
    ({ t with pow := { t.pow with remaps := tins bank (row, hard) t.pow.remaps } }).repairShown
  match tfind s.pow.remaps bank with
  | some (r, h) =>
    if r = row then
      let t := if hard && !h then put s else s
      (t, [0, t.pow.remaps.length])
    else (s, [0xA])
  | none =>
    if !o.spare || 64 ≤ s.pow.remaps.length || s.pow.hard.any fun e => e.1 = bank then (s, [0xA])
    else
      let t := put s
      (t, [0, t.pow.remaps.length])

/-! Composition self-test (R499). -/

/-- The raster and frames of RASTER_SELFTEST; none where the request is bad. -/
def selftestOf (req : List Nat) : Option (Nat × Nat) :=
  if 1 ≤ req.getD 1 0 ∧ req.getD 1 0 ≤ 16 then some (req.getD 0 0 % 32, req.getD 1 0) else none

/-- What the start of a mailbox command begins at once: the frames of a raster's self-test. -/
def State.mbxBegun (s : State) : State :=
  if s.mbxRunning 0x0140 then
    match selftestOf s.mbx.req with
    | some (r, n) => if (s.ras r).scan.isSome then s.setRas r { s.ras r with selfTest := n } else s
    | none => s
  else s

/-- RASTER_SELFTEST (R495, R499): pipelines of the raster's chiplet that fail stay withdrawn. -/
def State.rasterSelftest (o : MbxOutcome) (s : State) (req : List Nat) : State × List Nat :=
  match selftestOf req with
  | none => (s, [1])
  | some (r, _) =>
    let k := s.rd (COMP r) Reg.CRASTER_COMP_STATE_CHIPLET
    let bad := [0, 1].filter fun i => o.failed.contains i
    let t := { s with pow := { s.pow with compOut := bad.foldl (fun l i => sins (2 * k + i) l) s.pow.compOut } }
    (t, [0, (bad.map fun i => 2 ^ i).sum])

/-! The retention snapshot read back (R43, R487). -/

/-- The words of the retained registers as a role may read them, in the order of R76. -/
def State.retainedFor (s : State) (x : Retention) (role : Nat) : List Nat :=
  let regs := allPages.flatMap fun p => (blockOffsets p).map fun _ => bit (s.rights p) role
  let vals := if role < 2 then x.owner else x.lower
  regs.zipIdx.map fun e => if e.1 then tget 0 vals e.2 else 0

/-- RETENTION_READ (R487, R495), with the role of the path that started it; without a snapshot it writes nothing. -/
def State.retentionRead (s : State) (req : List Nat) : State × List Nat :=
  if beyondPool req 0 39328 then (s, [1])
  else
    match s.pow.retention with
    | none => (s, [0, 0])
    | some x =>
      let role := match s.roleOf ⟨s.mbx.by', true⟩ with | some r => roleBit r | none => 4
      let bytes := x.header ++ (s.retainedFor x role).flatMap (leBytes 4)
      (s.writeChecked .firmware (reqOffset req 0) bytes, [0, 39328])

/-! The commands complete (R494, R495). -/

/-- Every engine of the chiplet that a running MCODE_RELOAD names has ended its jobs (R496). -/
def State.reloadReady (s : State) : Bool := (chipletEngines (s.mbx.req.getD 0 0 % 4)).all fun u => !s.engineBusy u

/-- The frames of a running RASTER_SELFTEST are over (R499). -/
def State.selftestReady (s : State) : Bool :=
  match selftestOf s.mbx.req with
  | some (r, _) => (s.ras r).scan.isNone || (s.ras r).selfTest = 0
  | none => true

/-- DEVICE_RESET (R495). -/
def execDeviceReset (s : State) : Host.Outcome State Fault Refusal := live s (s.mbxRun 0x0101 State.mbxDeviceReset)
/-- IMG_STAGE (R498). -/
def execImgStage (o : MbxOutcome) (s : State) : Host.Outcome State Fault Refusal := live s (s.mbxRun 0x0110 (State.imgStage o))
/-- IMG_WRITE (R498). -/
def execImgWrite (o : MbxOutcome) (s : State) : Host.Outcome State Fault Refusal := live s (s.mbxRun 0x0111 (State.imgWrite o))
/-- IMG_VERIFY (R498). -/
def execImgVerify (o : MbxOutcome) (s : State) : Host.Outcome State Fault Refusal := live s (s.mbxRun 0x0112 (State.imgVerify o))
/-- IMG_SWITCH (R498). -/
def execImgSwitch (o : MbxOutcome) (s : State) : Host.Outcome State Fault Refusal := live s (s.mbxRun 0x0113 (State.imgSwitch o))
/-- RECOVERY_BOOT (R491). -/
def execRecoveryBoot (o : MbxOutcome) (s : State) : Host.Outcome State Fault Refusal := live s (s.mbxRun 0x0114 (State.recoveryBoot o))
/-- MCODE_RELOAD (R496). -/
def execMcodeReload (o : MbxOutcome) (s : State) : Host.Outcome State Fault Refusal :=
  live s (if s.reloadReady then s.mbxRun 0x0120 (State.mcodeReload o) else s)
/-- HBM_REPAIR (R497). -/
def execHbmRepair (o : MbxOutcome) (s : State) : Host.Outcome State Fault Refusal := live s (s.mbxRun 0x0130 (State.hbmRepair o))
/-- RASTER_SELFTEST (R499). -/
def execRasterSelftest (o : MbxOutcome) (s : State) : Host.Outcome State Fault Refusal :=
  live s (if s.selftestReady then s.mbxRun 0x0140 (State.rasterSelftest o) else s)
/-- RETENTION_READ (R487). -/
def execRetentionRead (s : State) : Host.Outcome State Fault Refusal := live s (s.mbxRun 0x0150 State.retentionRead)

/-- What an aborted command leaves (R494-R499): IMG_WRITE a slot partly written, with PROGRESS a free value; MCODE_RELOAD the engines
already loaded, a free number of them, withdrawn; RASTER_SELFTEST no further frames; the others nothing. -/
def State.abortLeaves (s : State) : State :=
  let prog (t : State) (n : Nat) : State := t.drawn.wr MBX Reg.MBX_CMD_OP_STATUS_PROGRESS n
  if s.mbx.code = 0x0111 then
    match s.pow.staged with
    | some (_, _, len) =>
      let t := (s.wr MBX Reg.MBX_IMG_STATE_WRITTEN 0).wr MBX Reg.MBX_IMG_STATE_VERIFIED 0
      prog t (s.free 16 % max 1 (cdiv len 65536))
    | none => s
  else if s.mbx.code = 0x0120 then
    let k := s.mbx.req.getD 0 0 % 4
    let n := if s.reloadReady then s.free 5 % 28 else 0
    let t := (prog s n).each ((chipletEngines k).take n) State.withdraw
    if n = 0 then t else ({ t with pow := { t.pow with reloaded := sins k t.pow.reloaded } }).encShown
  else if s.mbx.code = 0x0140 then
    match selftestOf s.mbx.req with
    | some (r, _) => s.setRas r { s.ras r with selfTest := 0, selfNext := false }
    | none => s
  else s

/-- CMD_OP_CTL.ABORT (R49, R494). -/
def State.mbxAbort (s : State) : State :=
  if s.opState MBX mbxOp = 1 then (s.abortLeaves.mbxEnd 3 false).inc MBX Reg.MBX_CMDS_ABORTED
  else s.occurF MBX 0x01 0

/-! Self-test and scrub (R416). -/

/-- A background golden vector run completes: on a lent pixel engine or an entropy engine, coded as in R174, or on composition pipeline
p (0xC0 + p) or decode pipeline p (0xE0 + p). A failing one is withdrawn. -/
def State.selftestDone (s : State) (u : Nat) (pass : Bool) : State :=
  let h := s.mate.health
  let t := { s with mate := { s.mate with health :=
    { h with passed := h.passed + b2n pass, failed := h.failed + b2n (!pass),
             pipes := if !pass && 0xE0 ≤ u && u < 0xE8 then sins (u - 0xE0) h.pipes else h.pipes } } }
  let t1 := { t with enc := { t.enc with lent := sdel u t.enc.lent } }
  if pass then t1.encShown
  else if u < 96 ∨ (128 ≤ u ∧ u < 144) then (if t1.engineBusy u then t1 else t1.withdraw u).encShown
  else if 0xC0 ≤ u ∧ u < 0xC8 then { t1 with pow := { t1.pow with compOut := sins (u - 0xC0) t1.pow.compOut } }
  else t1

/-- SELFTEST_VECTOR_DONE (R416). -/
def execSelftestVectorDone (u : Nat) (pass : Bool) (s : State) : Host.Outcome State Fault Refusal := live s (s.selftestDone u pass).encSettle

/-- HBM_SCRUB_CORRECT (R416): the error is corrected in place and counts for 1,024 beats. -/
def State.scrubCorrect (s : State) : State :=
  let h := s.mate.health
  { s with mate := { s.mate with health := { h with corrected := (h.corrected.filter fun f => s.tm.frame < f + 1024) ++ [s.tm.frame] } } }

/-- HBM_SCRUB_CORRECT (R416). -/
def execHbmScrubCorrect (s : State) : Host.Outcome State Fault Refusal := live s s.scrubCorrect

/-- HBM_SCRUB_UNCORRECTABLE (R416). -/
def State.scrubUncorrectable (s : State) : State :=
  let h := s.mate.health
  { s with mate := { s.mate with health := { h with uncorrectable := h.uncorrectable + 1, lastUncorrectable := some s.tm.frame } } }

/-- HBM_SCRUB_UNCORRECTABLE (R416). -/
def execHbmScrubUncorrectable (s : State) : Host.Outcome State Fault Refusal := live s s.scrubUncorrectable

/-! Output rails (R511). -/

/-- VOUT_SHORT (R511) on rail 0 (VOUT_3V3) or 1 (VOUT_1V8). -/
def execVoutShort (k : Nat) (s : State) : Host.Outcome State Fault Refusal :=
  done (if k < 2 then { s with pow := { s.pow with railsOff := sins k s.pow.railsOff } } else s)

/-- VOUT_RETRY (R511): a rail that is off stays so only while `shorted`. -/
def execVoutRetry (k : Nat) (shorted : Bool) (s : State) : Host.Outcome State Fault Refusal :=
  done (if shorted then s else { s with pow := { s.pow with railsOff := sdel k s.pow.railsOff } })

end Sys2Proof.Machine
end

