-- ==== Sys2Proof/Machine/Snapshot.lean ====
section
/-!
DEFINITION. The system snapshot after its start (03_frame_commits.md R74-R76): the capture, the write into the buffer, the abort.
-/

namespace Sys2Proof.Machine

/-- The register offsets of a page, header included, ascending. -/
def registerOffsets (p : Page) : List Nat := ((List.range 512).map (4 * ·)).filter fun off => (regDesc p off).isSome

/-- The mirror half of every page as a role sees it, by word index in the buffer, without the zeros (R76). -/
def State.snapWords (s : State) (role : Nat) : List (Nat × Word) :=
  (allPages.zipIdx.flatMap fun e => (registerOffsets e.1).map fun off =>
    (e.2 * 512 + off / 4, BitVec.ofNat 32 (s.shownTo role e.1 off))).filter fun e => e.2 ≠ 0

/-- SNAP_CAPTURE (R76): every register is captured at B(S). -/
def State.snapCapture (s : State) : State :=
  match s.cm.snap with
  | some x =>
    if s.opState SYS snapOp = 1 && x.captured.isNone && x.beat ≤ s.frameNo then
      { s with cm := { s.cm with snap := some { x with captured := some (s.snapWords x.role, s.snapHeader s.frameNo) } } }
    else s
  | none => s

/-- SNAP_CAPTURE (R76). -/
def execSnapCapture (s : State) : Host.Outcome State Fault Refusal := live s s.snapCapture

/-- Page `i` of a capture: 2,048 bytes. -/
def snapPage (words : List (Nat × Word)) (i : Nat) : List Byte :=
  (List.range 512).flatMap fun k => leBytes 4 (tget 0 words (512 * i + k)).toNat

/-- The first `n` pages are written into the buffer, under the lease checks of any engine (R75). -/
def State.snapPages (s : State) (x : SnapOp) (words : List (Nat × Word)) (n : Nat) : State :=
  s.each (List.range n) fun t i => t.writeChecked .snapshot (x.base + 2048 * i) (snapPage words i)

/-- SNAP_WRITE_DONE (R76): pages and header are written; PROGRESS is the page count. -/
def State.snapDone (s : State) : State :=
  match s.cm.snap with
  | some x =>
    match x.captured with
    | some (words, header) =>
      let a := x.base + snapBytes - 64
      let t := (s.snapPages x words 1786).writeChecked .snapshot a header
      { t.setOp SYS snapOp 2 1786 with cm := { t.cm with snap := none } }
    | none => s
  | none => s

/-- SNAP_WRITE_DONE (R76). -/
def execSnapWriteDone (s : State) : Host.Outcome State Fault Refusal := live s s.snapDone

/-- The running snapshot ends ABORTED with `n` pages written. -/
def State.snapEnd (s : State) (n : Nat) : State := { s.setOp SYS snapOp 3 n with cm := { s.cm with snap := none } }

/-- ABORT of the snapshot (R49, R76): the pages already written stay; how many is a free value once the capture has come. -/
def State.snapAbort (s : State) : State :=
  if s.opState SYS snapOp = 1 then
    match s.cm.snap with
    | some x =>
      match x.captured with
      | some (words, _) =>
        let n := s.free 11 % 1786
        (s.drawn.snapPages x words n).snapEnd n
      | none => s.snapEnd 0
    | none => s.snapEnd 0
  else s.opAbort SYS snapOp 0

end Sys2Proof.Machine
end

