-- ==== Sys2Proof/Machine/Access.lean ====
section
/-!
DEFINITION. Register accesses (02_register_model.md R34-R54): what a write and a read of a register of any page do, by the access
code of every bit, with the actions of the registers that have a row of their own.
-/

namespace Sys2Proof.Machine

/-! Abortable operations (R49). -/

/-- A write of an OP_CTL register: START, then ABORT; an operation that this very write started ends by `both`. -/
def State.opWrite (s : State) (p : Page) (off : Nat) (v : Nat) (start both abort : State → State) : State :=
  let ran := s.opState p off = 1
  let t := if bit v 0 then start s else s
  if bit v 1 then
    if !ran && bit v 0 && t.opState p off = 1 then both t else abort t
  else t

/-- The end ABORTED with progress 0 of an operation that has done nothing. -/
def State.opNever (s : State) (p : Page) (off : Nat) : State := s.setOp p off 3 0

/-- A response or password check, which runs and ends within its start (R470, R472). -/
def State.checkWrite (s : State) (off idx v : Nat) (start : State → State) : State :=
  if bit v 0 && bit v 1 && s.opState (SEC 3) off ≠ 1 then s.opNever (SEC 3) off
  else
    let t := if bit v 0 then start s else s
    if bit v 1 then t.opAbort (SEC 3) off idx else t

/-! Page header (R40-R42). -/

/-- Writing CLEAR_LOST sets OCC_LOST to 0. -/
def State.clearLost (s : State) (p : Page) : State := s.setQueue p { s.queue p with lost := 0 }

/-- A read of OCC_READ_HI pops the head; an empty queue stays as it is (R46). -/
def State.occPop (s : State) (p : Page) : State := s.setQueue p { s.queue p with recs := (s.queue p).recs.drop 1 }

/-- A write of PAGE_CTL: the state after the change of group, if any, and the value that is stored. A page that leaves its group
for an armed one is not held by that arm; a page whose group is armed keeps it (R42). ENC RC has no group (R184). -/
def State.groupWrite (s : State) (p : Page) (v : Nat) : State × Nat :=
  let old := s.groupOf p
  let new := bits v 12 8
  if p.ty = .encRc then (s, mergeBits v 0 0x1F00)
  else if !committing p || new = old then (s, v)
  else if bit s.armedMask old then (s.occurF p 0x03 new, mergeBits v (old <<< 8) 0x1F00)
  else
    let leave (a : Arm) : Arm := if bit a.groups new then { a with moved := sins (pageBase p) a.moved } else a
    ({ s with cm := { s.cm with arms := s.cm.arms.map leave } }, v)

/-- Registers that are windows onto a table or a value: a write goes there and is not kept in the register itself. -/
def windowReg (p : Page) (off : Nat) : Bool :=
  match p.ty with
  | .compScaler => off = 0x48
  | .colour => off = 0x54
  | .tileMap | .cal => off = 0x44
  | .cvu => off = 0x4C || off = 0x50
  | _ => false

/-! What a write does beside storing bits. -/

/-- SYS: COMMIT_ARM (R55), SNAP_OP_CTL (R74), REF_CFG (R255), RESET_CTL (R489). -/
def State.sysWritten (s o : State) (a : Access) (off v : Nat) : State :=
  match off with
  | 0x50 =>
    let t := if bit v 0 then s.arm else s
    if bit v 1 then t.cancel else t
  | 0xD0 => s.opWrite SYS snapOp v (fun t => t.snapStart a) (fun t => t.snapEnd 0) State.snapAbort
  | 0x120 => s.refCfgWritten o
  | 0x140 => if bit v 0 then s.resetRequest 3 else s
  | _ => s

/-- EVT: a 1 in VECTOR_ACK re-arms a vector (R52). -/
def State.evtWritten (s : State) (off v : Nat) : State :=
  if off = 0x288 ∨ off = 0x28C then
    let base := if off = 0x288 then 0 else 32
    { s with evt := { s.evt with disarmed := s.evt.disarmed.filter fun n => !(base ≤ n && n < base + 32 && bit v (n - base)) } }
  else s

/-- SEC 1: KEY_OP_CTL and KEY_CTL; SEC 3: DBG_CTL, RESP_OP_CTL and PW_OP_CTL (R462, R470-R473). -/
def State.secWritten (s : State) (inst off v : Nat) (k : WriteFinds) : State :=
  match inst, off with
  | 1, 0x50 => s.opWrite (SEC 1) 0x54 v State.keyStart (fun t => t.opNever (SEC 1) 0x54) (fun t => t.opAbort (SEC 1) 0x54 0)
  | 1, 0x60 => if bit v 0 then s.keyClear else s
  | 3, 0x44 =>
    let t := if bit v 0 then s.challenge else s
    if bit v 1 then t.sessionEnd 0 else t
  | 3, 0x80 => s.checkWrite 0x84 0 v fun t => t.respStart k.signed
  | 3, 0x98 => s.checkWrite 0x9C 1 v State.pwStart
  | _, _ => s

/-- PWR: DEV_CTL, GOV_CFG and PWR_CTL (R482, R485, R486). -/
def State.pwrWritten (s : State) (off v : Nat) : State :=
  match off with
  | 0x44 =>
    let t := if bit v 0 then s.reqDim else s
    let u := if bit v 1 then t.reqActive else t
    if bit v 2 then u.reqDormant else u
  | 0x48 => s.park
  | 0xBC => if bit v 0 then s.wr PWR Reg.PWR_PEAK_MW 0 else s
  | _ => s

/-- MBX: CMD_OP_CTL (R494). The abort of a command by its own REG_WRITE comes in its completion cycle, too late. -/
def State.mbxWritten (s : State) (a : Access) (off v : Nat) : State :=
  if off = 0xC4 then
    s.opWrite MBX mbxOp v (fun t => let u := t.mbxStart a; if t.opState MBX mbxOp = 1 || bit v 1 then u else u.mbxBegun)
      (fun t => (t.mbxEnd 3 false).inc MBX Reg.MBX_CMDS_ABORTED)
      fun t => match a.path with | .token _ _ => t.occurF MBX 0x01 0 | _ => t.mbxAbort
  else s

/-- A lane page: LOOPBACK, ADAPT_RESTART and ERR_CLEAR (R306, R307, R311, R312). -/
def State.laneWritten (s o : State) (wide : Bool) (n v : Nat) : State :=
  let t := s.loopbackChange o wide n
  let u := if bit v 8 then t.adaptRestart wide n else t
  if bit v 9 then u.errClear wide n else u

/-- The table ports of NET global and SCHED table pages: WRITE, then READ, then READ_ACTIVE; PEAK_CLEAR (R324, R344, R345). -/
def State.netgWritten (s : State) (a : Access) (x off v : Nat) : State :=
  if off = 0x44 then
    let t := if bit v 0 then s.netTblWrite a x else s
    if bit v 1 then t.netTblRead a x else t
  else s
def State.schtWritten (s : State) (a : Access) (x off v : Nat) : State :=
  if off = 0x44 then
    let t := if bit v 0 then s.schTblWrite a x else s
    let u := if bit v 1 then t.schTblRead a x false else t
    if bit v 2 then u.schTblRead a x true else u
  else if off = 0x7C && bit v 0 then s.peakClear x
  else s

/-- FAB global: FAB_CFG, LAND_CTL, TBL_CTL, and RRA_OP_CTL by `rra` (R375, R378, R385, R391). -/
def State.fabWritten (s : State) (a : Access) (off v : Nat) (rra : State → State) : State :=
  match off with
  | 0x40 => s.fabCfgWritten
  | 0x64 =>
    let t := if bit v 0 then s.fabLeave else s
    let u := if bit v 1 then t.fabReland else t
    if bit v 2 then u.fabAcceptOffer else u
  | 0x70 =>
    let t := if bit v 0 then s.fabTblWrite a else s
    if bit v 1 then t.fabTblRead a else t
  | 0x94 =>
    let abort (t : State) : State :=
      if t.opState FAB 0x98 = 1 then { t.wr FAB ⟨0x98, 2, 0⟩ 3 with fab := { t.fab with rra := none } } else t.opAbort FAB 0x98 0
    if bit v 0 && bit v 1 && s.opState FAB 0x98 ≠ 1 then s.opNever FAB 0x98
    else
      let t := if bit v 0 then s.opStart FAB 0x98 0 rra else s
      if bit v 1 then abort t else t
  | _ => s

/-- MATE_CTL (R395, R402, R403). -/
def State.mateWritten (s : State) (off v : Nat) : State :=
  if off = 0x5C then
    let t := if bit v 8 then s.mateHandover else s
    let u := if bit v 9 then t.mateRequalify else t
    if bit v 10 then u.mateForceClaim else u
  else s

/-- A check-value unit: OP_CTL, VAL_LO and VAL_HI (R440, R441, R447). -/
def State.cvuWritten (s : State) (a : Access) (n off : Nat) (v : Word) : State :=
  match off with
  | 0x4C => s.cvuWriteLo n v
  | 0x50 => s.cvuWriteHi n v
  | 0x54 => s.opWrite (CVU n) cvuOp v.toNat (fun t => t.cvuStart a n) (fun t => t.cvuEnd n 3) (fun t => t.cvuAbort n)
  | _ => s

/-- The actions of a write to a block register; `o` is the state before the bits were stored. -/
def State.blockWritten (s o : State) (a : Access) (p : Page) (off : Nat) (v : Word) (k : WriteFinds) (rra : State → State) : State :=
  let i := p.inst
  let n := v.toNat
  match p.ty with
  | .sys => s.sysWritten o a off n
  | .evt => s.evtWritten off n
  | .sec => s.secWritten i off n k
  | .pwr => s.pwrWritten off n
  | .clk => if off = 0xBC && bit n 0 then s.wr CLK Reg.CLK_LOCK_EVENTS 0 else s
  | .mbx => s.mbxWritten a off n
  | .compScaler => if off = 0x48 then s.coefWrite a i v else s
  | .colour => if off = 0x54 then s.lutWrite a i v else s
  | .tsk => if off = 0x44 && bit n 8 then s.histClear else s
  | .encRc => if off = 0xA8 && bit n 0 then s.rcClear (s.rd p Reg.RC_RC_INDEX_CHANNEL) else s
  | .tileMap => if off = 0x44 then s.mapWrite a i v else s
  | .cal =>
    if off = 0x44 then s.calWrite a i v
    else if off = 0x54 then
      s.opWrite (CAL i) 0x58 n (fun t => t.calStart i)
        (fun t => { t.opNever (CAL i) 0x58 with scn := { t.scn with loads := tdel i t.scn.loads } }) (fun t => t.calAbort i)
    else s
  | .tile => if off = 0x78 && bit n 0 then s.tileRetry i k.causes else s
  | .wide => if off = 0x48 then s.laneWritten o true i n else s
  | .tileLane => if off = 0x44 then s.laneWritten o false i n else s
  | .netGlobal => s.netgWritten a i off n
  | .schedTable => s.schtWritten a i off n
  | .fab => s.fabWritten a off n rra
  | .mate => s.mateWritten off n
  | .cvu => s.cvuWritten a i off v
  | _ => s

/-- A write that meets no fault: bits by their access codes, then the register's action (R36). -/
def State.regWrite (s : State) (a : Access) (p : Page) (off : Nat) (v : Word) (k : WriteFinds) (rra : State → State) : State :=
  if off = 0x008 then
    let g := s.groupWrite p v.toNat
    g.1.store p off (BitVec.ofNat 32 g.2)
  else if off = 0x010 then
    if v.getLsbD 15 then s.clearLost p else s
  else
    let t := if windowReg p off then s else s.store p off v
    t.blockWritten s a p off v k rra

/-! An access on the register bus (R38, R43-R45). -/

/-- The register that an access addresses: bits [1:0] are those of an aligned access (R10). -/
def alignedOf (addr : Nat) : Nat := addr % 2 ^ 26 / 4 * 4

/-- The fault that a write meets: a closed check-value unit denies it (R445). -/
def State.faultOfWrite (s : State) (a : Access) (addr : Nat) : Option Nat :=
  match regAt addr with
  | some (p, _, _) => if s.cvuClosed a p then some 0x11 else s.writeFault a addr
  | none => s.writeFault a addr

/-- A write, with what a write of RRA_OP_CTL.START does given; `addr` is aligned. -/
def State.writeWith (s : State) (a : Access) (addr : Nat) (v : Word) (k : WriteFinds) (rra : State → State) : State :=
  match s.faultOfWrite a addr with
  | some c => s.faulted a c true addr
  | none =>
    match regAt addr with
    | some (p, off, _) => s.regWrite a p off v k rra
    | none => s

/-- A read that meets no fault: the state after its side effects, and what it returns (R28, R35, R46, R144, R440). -/
def State.regRead (s : State) (a : Access) (p : Page) (off : Nat) (mirror : Bool) : State × Nat :=
  if mirror then (s, s.view a p off true)
  else if off = 0x18 then (s.occPop p, s.view a p off false)
  else
    match p.ty with
    | .sys => (if off = 0x104 then s.captureTime a.path else s, s.view a p off false)
    | .compScaler => if off = 0x48 then s.coefRead a p.inst else (s, s.view a p off false)
    | .colour => if off = 0x54 then s.lutRead a p.inst else (s, s.view a p off false)
    | .tileMap => if off = 0x44 then s.mapRead a p.inst else (s, s.view a p off false)
    | .cal => if off = 0x44 then s.calRead a p.inst else (s, s.view a p off false)
    | .cvu =>
      if off = 0x4C then s.cvuReadLo a p.inst
      else if off = 0x58 then (s.cvuLook p.inst, s.view a p off false)
      else (s, s.view a p off false)
    | _ => (s, s.view a p off false)

/-- A read: the state after it, what it returns, and the fault it met; `addr` is aligned. -/
def State.readWith (s : State) (a : Access) (addr : Nat) : State × Nat × Option Nat :=
  match s.readFault a addr with
  | some c => (s.faulted a c false addr, (faultedReadData addr).toNat, some c)
  | none =>
    match regAt addr with
    | some (p, off, mirror) =>
      let r := s.regRead a p off mirror
      (r.1, r.2, none)
    | none => (s, 0, none)

/-! Remote register access (R385). -/

/-- RRA_RESULT of a fault (R385): 0 OK, 1 DENIED, 2 UNMAPPED, 3 RO_WRITE. -/
def rraCode (c : Option Nat) : Nat := match c with | none => 0 | some 0x11 => 1 | some 0x10 => 2 | _ => 3

/-- START of a remote register access. One that names this device is executed here, with PEER rights and this device as requester; a
start within it meets a running operation. It ends DONE where nothing it wrote has ended it. -/
def State.rraStart (s : State) (k : WriteFinds) : State :=
  if s.rd FAB Reg.FAB_RRA_TARGET_NODE = s.nodeId then
    let a : Access := ⟨.fabric s.nodeId, true⟩
    let addr := alignedOf (s.rd FAB Reg.FAB_RRA_ADDR_BAR0)
    let s1 := s.setOp FAB 0x98 1 1
    if s.rd FAB Reg.FAB_RRA_TARGET_WRITE = 1 then
      let c := s1.faultOfWrite a addr
      let t := s1.writeWith a addr (s.word FAB 0x8C) k id
      if t.opState FAB 0x98 = 1 then t.rraEnd 2 (rraCode c) else t
    else
      let r := s1.readWith a addr
      let t := if r.2.2.isNone then r.1.wr FAB Reg.FAB_RRA_RDATA r.2.1 else r.1
      t.rraEnd 2 (rraCode r.2.2)
  else s.rraSend

/-- A register write by an access; nothing answers before reset is released (R510). -/
def State.busWrite (s : State) (a : Access) (addr : Nat) (v : Word) (k : WriteFinds) : State :=
  if s.pow.up then s.writeWith a (alignedOf addr) v k fun t => t.rraStart k else s

/-- A register read by an access. -/
def State.busRead (s : State) (a : Access) (addr : Nat) : State :=
  if s.pow.up then
    let r := s.readWith a (alignedOf addr)
    r.1.emit (.readData (BitVec.ofNat 32 r.2.1))
  else s

/-! The commands. A row that sets one action bit writes `v` with that bit set, so that the register's other bits are the sender's. -/

/-- What a write that needs no outside outcome finds. -/
def noFinds : WriteFinds := { signed := false, causes := [] }

/-- A write of `v` with action bit `b` set to the register at `off` of a page. -/
def State.action (s : State) (a : Access) (p : Page) (off b : Nat) (v : Word) (k : WriteFinds := noFinds) : State :=
  s.busWrite a (pageBase p + off) (v ||| BitVec.ofNat 32 (2 ^ b)) k

/-- REGISTER_WRITE (R36) of BAR0 offset `addr`. -/
def execRegisterWrite (a : Access) (addr : Nat) (v : Word) (k : WriteFinds) (s : State) : Host.Outcome State Fault Refusal :=
  done (s.busWrite a addr v k)

/-- FAULTED_READ (R43, R44): a read of BAR0 offset `addr`, faulted or not. -/
def execFaultedRead (a : Access) (addr : Nat) (s : State) : Host.Outcome State Fault Refusal := done (s.busRead a addr)

/-- OCC_READ_HI_POP (R46) of the page at BAR0 offset `base`. -/
def execOccReadHiPop (a : Access) (base : Nat) (s : State) : Host.Outcome State Fault Refusal :=
  done (s.busRead a (base / 0x1000 * 0x1000 + 0x18))

/-- CLEAR_LOST (R42) of the page at BAR0 offset `base`. -/
def execClearLost (a : Access) (base : Nat) (s : State) : Host.Outcome State Fault Refusal :=
  done (s.busWrite a (base / 0x1000 * 0x1000 + 0x10) 0x8000 noFinds)

/-- COMMIT_GROUP_WRITE (R42): `v` is written to PAGE_CTL of the page at BAR0 offset `base`. -/
def execCommitGroupWrite (a : Access) (base : Nat) (v : Word) (s : State) : Host.Outcome State Fault Refusal :=
  done (s.busWrite a (base / 0x1000 * 0x1000 + 0x8) v noFinds)

/-- FRAME_NO_LO_READ (R28). -/
def execFrameNoLoRead (a : Access) (s : State) : Host.Outcome State Fault Refusal := done (s.busRead a 0x104)

/-- EVT_ROUTE_WRITE (R51) of ROUTE_m, m below 128. -/
def execEvtRouteWrite (a : Access) (m : Nat) (v : Word) (s : State) : Host.Outcome State Fault Refusal :=
  done (s.busWrite a (pageBase EVT + 0x80 + 4 * (m % 128)) v noFinds)

/-- VECTOR_ACK (R52): VECTOR_ACK_HI or VECTOR_ACK_LO. -/
def execVectorAck (a : Access) (hi : Bool) (v : Word) (s : State) : Host.Outcome State Fault Refusal :=
  done (s.busWrite a (pageBase EVT + if hi then 0x28C else 0x288) v noFinds)

/-- EVT_CTL_WRITE (R54). -/
def execEvtCtlWrite (a : Access) (v : Word) (s : State) : Host.Outcome State Fault Refusal :=
  done (s.busWrite a (pageBase EVT + 0x294) v noFinds)

/-- FAB_EVT_DEST_WRITE (R54). -/
def execFabEvtDestWrite (a : Access) (v : Word) (s : State) : Host.Outcome State Fault Refusal :=
  done (s.busWrite a (pageBase EVT + 0x298) v noFinds)

/-- COMMIT_ARM (R58). -/
def execCommitArm (a : Access) (v : Word) (s : State) : Host.Outcome State Fault Refusal := done (s.action a SYS 0x50 0 v)

/-- COMMIT_CANCEL (R64). -/
def execCommitCancel (a : Access) (v : Word) (s : State) : Host.Outcome State Fault Refusal := done (s.action a SYS 0x50 1 v)

/-- SNAP_START (R75). -/
def execSnapStart (a : Access) (v : Word) (s : State) : Host.Outcome State Fault Refusal := done (s.action a SYS 0xD0 0 v)

/-- SNAP_ABORT (R76). -/
def execSnapAbort (a : Access) (v : Word) (s : State) : Host.Outcome State Fault Refusal := done (s.action a SYS 0xD0 1 v)

/-- COEF_DATA_WRITE (R110) of scaler `x`. -/
def execCoefDataWrite (a : Access) (x : Nat) (v : Word) (s : State) : Host.Outcome State Fault Refusal :=
  done (s.busWrite a (pageBase (SCALER (x % 48)) + 0x48) v noFinds)

/-- LUT_DATA_WRITE (R142) of raster `r`. -/
def execLutDataWrite (a : Access) (r : Nat) (v : Word) (s : State) : Host.Outcome State Fault Refusal :=
  done (s.busWrite a (pageBase (COL (r % 32)) + 0x54) v noFinds)

/-- STATS_CAPTURE_READ (R144): LUT_DATA of raster `r` is read; LUT_INDEX selects STATS index 0. -/
def execStatsCaptureRead (a : Access) (r : Nat) (s : State) : Host.Outcome State Fault Refusal :=
  done (s.busRead a (pageBase (COL (r % 32)) + 0x54))

/-- HIST_CLEAR (R173). -/
def execHistClear (a : Access) (v : Word) (s : State) : Host.Outcome State Fault Refusal := done (s.action a ⟨.tsk, 0⟩ 0x44 8 v)

/-- RC_CLEAR (R184) of the channel in RC_INDEX. -/
def execRcClear (a : Access) (v : Word) (s : State) : Host.Outcome State Fault Refusal := done (s.action a ⟨.encRc, 0⟩ 0xA8 0 v)

/-- REF_CFG_WRITE (R255, R256). -/
def execRefCfgWrite (a : Access) (v : Word) (s : State) : Host.Outcome State Fault Refusal := done (s.busWrite a 0x120 v noFinds)

/-- TILE_MAP_DATA_WRITE (R261) of chiplet `x`. -/
def execTileMapDataWrite (a : Access) (x : Nat) (v : Word) (s : State) : Host.Outcome State Fault Refusal :=
  done (s.busWrite a (pageBase (MAP (x % 2)) + 0x44) v noFinds)

/-- CAL_DATA_WRITE (R265) of chiplet `x`. -/
def execCalDataWrite (a : Access) (x : Nat) (v : Word) (s : State) : Host.Outcome State Fault Refusal :=
  done (s.busWrite a (pageBase (CAL (x % 2)) + 0x44) v noFinds)

/-- CAL_LOAD_START (R268). -/
def execCalLoadStart (a : Access) (x : Nat) (v : Word) (s : State) : Host.Outcome State Fault Refusal :=
  done (s.action a (CAL (x % 2)) 0x54 0 v)

/-- CAL_LOAD_ABORT (R268). -/
def execCalLoadAbort (a : Access) (x : Nat) (v : Word) (s : State) : Host.Outcome State Fault Refusal :=
  done (s.action a (CAL (x % 2)) 0x54 1 v)

/-- TILE_LANE_RETRY (R301) on the indexed lane of chiplet `x`; `k` gives the causes that the retry finds. -/
def execTileLaneRetry (a : Access) (x : Nat) (v : Word) (k : WriteFinds) (s : State) : Host.Outcome State Fault Refusal :=
  done (s.action a (TILE (x % 2)) 0x78 0 v k)

/-- The page of a lane and the offset of its LANE_CTL. -/
def laneCtlAt (wide : Bool) (n : Nat) : Page × Nat := if wide then (WL (n % 128), 0x48) else (TL (n % 896), 0x44)

/-- LANE_ADAPT_RESTART (R311). -/
def execLaneAdaptRestart (a : Access) (wide : Bool) (n : Nat) (v : Word) (s : State) : Host.Outcome State Fault Refusal :=
  done (s.action a (laneCtlAt wide n).1 (laneCtlAt wide n).2 8 v)

/-- LANE_LOOPBACK_CHANGE (R312): `v` is written to LANE_CTL. -/
def execLaneLoopbackChange (a : Access) (wide : Bool) (n : Nat) (v : Word) (s : State) : Host.Outcome State Fault Refusal :=
  done (s.busWrite a (pageBase (laneCtlAt wide n).1 + (laneCtlAt wide n).2) v noFinds)

/-- LANE_ERR_CLEAR (R306, R307). -/
def execLaneErrClear (a : Access) (wide : Bool) (n : Nat) (v : Word) (s : State) : Host.Outcome State Fault Refusal :=
  done (s.action a (laneCtlAt wide n).1 (laneCtlAt wide n).2 9 v)

/-- NET_TABLE_WRITE (R324). -/
def execNetTableWrite (a : Access) (x : Nat) (v : Word) (s : State) : Host.Outcome State Fault Refusal :=
  done (s.action a (NETG (x % 2)) 0x44 0 v)

/-- NET_TABLE_READ (R324). -/
def execNetTableRead (a : Access) (x : Nat) (v : Word) (s : State) : Host.Outcome State Fault Refusal :=
  done (s.action a (NETG (x % 2)) 0x44 1 v)

/-- SCHED_TABLE_WRITE (R345). -/
def execSchedTableWrite (a : Access) (x : Nat) (v : Word) (s : State) : Host.Outcome State Fault Refusal :=
  done (s.action a (SCHT (x % 2)) 0x44 0 v)

/-- SCHED_TABLE_READ (R345). -/
def execSchedTableRead (a : Access) (x : Nat) (v : Word) (s : State) : Host.Outcome State Fault Refusal :=
  done (s.action a (SCHT (x % 2)) 0x44 1 v)

/-- SCHED_TABLE_READ_ACTIVE (R345). -/
def execSchedTableReadActive (a : Access) (x : Nat) (v : Word) (s : State) : Host.Outcome State Fault Refusal :=
  done (s.action a (SCHT (x % 2)) 0x44 2 v)

/-- SCHED_PEAK_CLEAR (R344). -/
def execSchedPeakClear (a : Access) (x : Nat) (v : Word) (s : State) : Host.Outcome State Fault Refusal :=
  done (s.action a (SCHT (x % 2)) 0x7C 0 v)

/-- FAB_CFG_WRITE (R375). -/
def execFabCfgWrite (a : Access) (v : Word) (s : State) : Host.Outcome State Fault Refusal :=
  done (s.busWrite a (pageBase FAB + 0x40) v noFinds)

/-- FAB_LEAVE (R378). -/
def execFabLeave (a : Access) (v : Word) (s : State) : Host.Outcome State Fault Refusal := done (s.action a FAB 0x64 0 v)

/-- FAB_RELAND (R378). -/
def execFabReland (a : Access) (v : Word) (s : State) : Host.Outcome State Fault Refusal := done (s.action a FAB 0x64 1 v)

/-- FAB_ACCEPT_OFFER (R378). -/
def execFabAcceptOffer (a : Access) (v : Word) (s : State) : Host.Outcome State Fault Refusal := done (s.action a FAB 0x64 2 v)

/-- RRA_START (R385); `k` serves an access executed locally. -/
def execRraStart (a : Access) (v : Word) (k : WriteFinds) (s : State) : Host.Outcome State Fault Refusal :=
  done (s.action a FAB 0x94 0 v k)

/-- RRA_ABORT (R385). -/
def execRraAbort (a : Access) (v : Word) (s : State) : Host.Outcome State Fault Refusal := done (s.action a FAB 0x94 1 v)

/-- FAB_TABLE_WRITE (R391). -/
def execFabTableWrite (a : Access) (v : Word) (s : State) : Host.Outcome State Fault Refusal := done (s.action a FAB 0x70 0 v)

/-- FAB_TABLE_READ (R391). -/
def execFabTableRead (a : Access) (v : Word) (s : State) : Host.Outcome State Fault Refusal := done (s.action a FAB 0x70 1 v)

/-- MATE_HANDOVER (R403). -/
def execMateHandover (a : Access) (v : Word) (s : State) : Host.Outcome State Fault Refusal := done (s.action a MATE 0x5C 8 v)

/-- MATE_REQUALIFY (R395). -/
def execMateRequalify (a : Access) (v : Word) (s : State) : Host.Outcome State Fault Refusal := done (s.action a MATE 0x5C 9 v)

/-- MATE_FORCE_CLAIM (R402). -/
def execMateForceClaim (a : Access) (v : Word) (s : State) : Host.Outcome State Fault Refusal := done (s.action a MATE 0x5C 10 v)

/-- CVU_START (R441, R442) of unit `n`. -/
def execCvuStart (a : Access) (n : Nat) (v : Word) (s : State) : Host.Outcome State Fault Refusal :=
  done (s.action a (CVU (n % 16)) 0x54 0 v)

/-- CVU_ABORT (R447). -/
def execCvuAbort (a : Access) (n : Nat) (v : Word) (s : State) : Host.Outcome State Fault Refusal :=
  done (s.action a (CVU (n % 16)) 0x54 1 v)

/-- CVU_VAL_LO_READ (R440). -/
def execCvuValLoRead (a : Access) (n : Nat) (s : State) : Host.Outcome State Fault Refusal :=
  done (s.busRead a (pageBase (CVU (n % 16)) + 0x4C))

/-- CVU_VAL_LO_WRITE (R440). -/
def execCvuValLoWrite (a : Access) (n : Nat) (v : Word) (s : State) : Host.Outcome State Fault Refusal :=
  done (s.busWrite a (pageBase (CVU (n % 16)) + 0x4C) v noFinds)

/-- CVU_VAL_HI_WRITE (R440). -/
def execCvuValHiWrite (a : Access) (n : Nat) (v : Word) (s : State) : Host.Outcome State Fault Refusal :=
  done (s.busWrite a (pageBase (CVU (n % 16)) + 0x50) v noFinds)

/-- KEY_LOAD_START (R462). -/
def execKeyLoadStart (a : Access) (v : Word) (s : State) : Host.Outcome State Fault Refusal := done (s.action a (SEC 1) 0x50 0 v)

/-- KEY_LOAD_ABORT (R462). -/
def execKeyLoadAbort (a : Access) (v : Word) (s : State) : Host.Outcome State Fault Refusal := done (s.action a (SEC 1) 0x50 1 v)

/-- KEY_CLEAR (R462). -/
def execKeyClear (a : Access) (v : Word) (s : State) : Host.Outcome State Fault Refusal := done (s.action a (SEC 1) 0x60 0 v)

/-- DBG_CHALLENGE (R471). -/
def execDbgChallenge (a : Access) (v : Word) (s : State) : Host.Outcome State Fault Refusal := done (s.action a (SEC 3) 0x44 0 v)

/-- DBG_CLOSE (R473). -/
def execDbgClose (a : Access) (v : Word) (s : State) : Host.Outcome State Fault Refusal := done (s.action a (SEC 3) 0x44 1 v)

/-- DBG_RESPONSE_CHECK (R472); `k` says whether the signature verifies. -/
def execDbgResponseCheck (a : Access) (v : Word) (k : WriteFinds) (s : State) : Host.Outcome State Fault Refusal :=
  done (s.action a (SEC 3) 0x80 0 v k)

/-- DBG_RESPONSE_ABORT (R472). -/
def execDbgResponseAbort (a : Access) (v : Word) (s : State) : Host.Outcome State Fault Refusal := done (s.action a (SEC 3) 0x80 1 v)

/-- PW_CHECK (R470). -/
def execPwCheck (a : Access) (v : Word) (s : State) : Host.Outcome State Fault Refusal := done (s.action a (SEC 3) 0x98 0 v)

/-- PW_CHECK_ABORT (R470). -/
def execPwCheckAbort (a : Access) (v : Word) (s : State) : Host.Outcome State Fault Refusal := done (s.action a (SEC 3) 0x98 1 v)

/-- REQ_DIM (R485). -/
def execReqDim (a : Access) (v : Word) (s : State) : Host.Outcome State Fault Refusal := done (s.action a PWR 0x44 0 v)

/-- REQ_ACTIVE (R485). -/
def execReqActive (a : Access) (v : Word) (s : State) : Host.Outcome State Fault Refusal := done (s.action a PWR 0x44 1 v)

/-- REQ_DORMANT (R486). -/
def execReqDormant (a : Access) (v : Word) (s : State) : Host.Outcome State Fault Refusal := done (s.action a PWR 0x44 2 v)

/-- RESET_CTL_DEVICE (R489). -/
def execResetCtlDevice (a : Access) (v : Word) (s : State) : Host.Outcome State Fault Refusal := done (s.action a SYS 0x140 0 v)

/-- PWR_PEAK_CLEAR (R482). -/
def execPwrPeakClear (a : Access) (v : Word) (s : State) : Host.Outcome State Fault Refusal := done (s.action a PWR 0xBC 0 v)

/-- LOCK_EVENTS_CLEAR (R483). -/
def execLockEventsClear (a : Access) (v : Word) (s : State) : Host.Outcome State Fault Refusal := done (s.action a CLK 0xBC 0 v)

/-- MBX_CMD_ABORT (R494). -/
def execMbxCmdAbort (a : Access) (v : Word) (s : State) : Host.Outcome State Fault Refusal := done (s.action a MBX 0xC4 1 v)

/-- MBX_UNKNOWN_COMMAND (R494): START of CMD_OP_CTL, of an unknown code or a known one. -/
def execMbxUnknownCommand (a : Access) (v : Word) (s : State) : Host.Outcome State Fault Refusal := done (s.action a MBX 0xC4 0 v)

/-- MSIX_TABLE_WRITE (R52): word `k` (0 and 1 the address, 2 the data, 3 the vector control, bit 0 its mask) of entry `e` of the
table in BAR4. -/
def State.msixWrite (s : State) (e k : Nat) (v : Word) : State :=
  if !s.pow.up || 64 ≤ e then s
  else if k = 3 then { s with evt := { s.evt with unmasked := sset e (!v.getLsbD 0) s.evt.unmasked } }
  else if k < 3 then { s with evt := { s.evt with msix := tput 0 s.evt.msix (4 * e + k) v } }
  else s

/-- MSIX_TABLE_WRITE (R52). -/
def execMsixTableWrite (e k : Nat) (v : Word) (s : State) : Host.Outcome State Fault Refusal := done (s.msixWrite e k v)

end Sys2Proof.Machine
end

