-- ==== Sys2Proof/Machine/Pins.lean ====
section
/-!
DEFINITION. Register and memory accesses that come by other ways than PCIe: fabric requests (R385), tokens (R456), JTAG (R469) and
SMBus (R514); and the completion of a mailbox command of any code (R494).
-/

namespace Sys2Proof.Machine

/-! Fabric requests (R385, R386). -/

/-- A REG request is executed with PEER rights, and a response returns. -/
def State.regRequest (s : State) (f : FabFrame) (write : Bool) (offset data : Nat) (k : WriteFinds) : State :=
  let a : Access := ⟨.fabric f.src, true⟩
  let addr := alignedOf offset
  if write then
    let c := s.faultOfWrite a addr
    (s.busWrite a addr (BitVec.ofNat 32 data) k).fabSend f.src (.reg true true offset data (rraCode c)) 0 f.seq
  else
    let r := s.readWith a addr
    r.1.fabSend f.src (.reg false true offset r.2.1 (rraCode r.2.2)) 0 f.seq

/-- FAB_REG_REQUEST_RECEIVED (R385) on port `p`. -/
def execFabRegRequestReceived (p : Nat) (f : FabFrame) (k : WriteFinds) (s : State) : Host.Outcome State Fault Refusal :=
  live s (s.fabArrive p f fun t => match f.body with
    | .reg write false offset data _ => t.regRequest f write offset data k
    | _ => t)

/-! Tokens (R456). -/

/-- One write of a REG_WRITE token: OWNER rights, as an access of the path that delivered the token. -/
def State.tokenWrite (o : MbxOutcome) (s : State) (off : Nat) (v : Word) : State :=
  s.busWrite ⟨.token (pathUnit s.mbx.by') (pathNode s.mbx.by'), true⟩ off v { signed := o.cosigned, causes := o.failed }

/-- TOKEN_REG_WRITE (R456). -/
def execTokenRegWrite (o : MbxOutcome) (s : State) : Host.Outcome State Fault Refusal := live s (s.tokenRun (State.tokenWrite o) 6 o)

/-! JTAG (R450, R465, R469). -/

/-- JTAG_DBG_READ: a register at BAR0 offset `a`, or `n` bytes of the host pool at `a`, in a DIAG or SERVICE session. -/
def State.jtagRead (s : State) (memory : Bool) (a n : Nat) : State :=
  if !s.serviceOpen && !s.diagOpen then s
  else if memory then (if s.pow.up then (s.sealedRead 1 a n).emit (.memData (s.poolRead a n)) else s)
  else s.busRead ⟨.jtag, true⟩ a

/-- JTAG_DBG_READ (R469). -/
def execJtagDbgRead (memory : Bool) (a n : Nat) (s : State) : Host.Outcome State Fault Refusal := done (s.jtagRead memory a n)

/-- JTAG_DBG_WRITE: `v` to the register at BAR0 offset `a`, or `bytes` to the host pool, in a SERVICE session. -/
def State.jtagWrite (s : State) (memory : Bool) (a : Nat) (v : Word) (bytes : List Byte) (k : WriteFinds) : State :=
  if !s.serviceOpen then s
  else if memory then (if s.pow.up then s.poolWrite a bytes else s)
  else s.busWrite ⟨.jtag, true⟩ a v k

/-- JTAG_DBG_WRITE (R469). -/
def execJtagDbgWrite (memory : Bool) (a : Nat) (v : Word) (bytes : List Byte) (k : WriteFinds) (s : State) :
    Host.Outcome State Fault Refusal := done (s.jtagWrite memory a v bytes k)

/-! SMBus (R514). A transfer with a wrong PEC is NACKed, and one to another address is not this device's. -/

/-- The device takes a transfer to a 7-bit address, `pec` true where the PEC is right or absent. -/
def State.smbusTakes (s : State) (address : Nat) (pec : Bool) : Bool := s.pow.powered && address = 0x58 + s.pow.strap % 4 && pec

/-- SMBUS_REGISTER_WRITE (R514): Block Write, command 0x02; dropped while only DOMAIN_00 is powered. -/
def execSmbusRegisterWrite (address : Nat) (pec : Bool) (off : Nat) (v : Word) (k : WriteFinds) (s : State) :
    Host.Outcome State Fault Refusal :=
  done (if s.smbusTakes address pec then s.busWrite ⟨.smbus, true⟩ off v k else s)

/-- SMBUS_READ_OFFSET (R514): Block Write, command 0x01. -/
def execSmbusReadOffset (address : Nat) (pec : Bool) (off : Nat) (s : State) : Host.Outcome State Fault Refusal :=
  done (if s.smbusTakes address pec then { s with pow := { s.pow with smbusOffset := off % 2 ^ 26 } } else s)

/-- SMBUS_READ_DATA (R514): Block Read, command 0x03; all ones while only DOMAIN_00 is powered. -/
def execSmbusReadData (address : Nat) (s : State) : Host.Outcome State Fault Refusal :=
  done (if s.smbusTakes address true then
      (if s.pow.up then s.busRead ⟨.smbus, true⟩ s.pow.smbusOffset else s.emit (.readData 0xFFFFFFFF))
    else s)

/-- SMBUS_WAKE (R486, R514): Send Byte 0x10. -/
def execSmbusWake (address : Nat) (pec : Bool) (s : State) : Host.Outcome State Fault Refusal :=
  done (if s.smbusTakes address pec then s.wake (s.rd PWR Reg.PWR_WAKE_CFG_SMBUS = 1) 2 else s)

/-! Completion of a mailbox command (R494). -/

/-- The running command, whatever its code, completes; a reload and a self-test wait for their engines and frames (R496, R499). -/
def State.mbxComplete (s : State) (o : MbxOutcome) : State :=
  match s.mbx.code with
  | 0x0101 => s.mbxRun 0x0101 State.mbxDeviceReset
  | 0x0110 => s.mbxRun 0x0110 (State.imgStage o)
  | 0x0111 => s.mbxRun 0x0111 (State.imgWrite o)
  | 0x0112 => s.mbxRun 0x0112 (State.imgVerify o)
  | 0x0113 => s.mbxRun 0x0113 (State.imgSwitch o)
  | 0x0114 => s.mbxRun 0x0114 (State.recoveryBoot o)
  | 0x0120 => if s.reloadReady then s.mbxRun 0x0120 (State.mcodeReload o) else s
  | 0x0130 => s.mbxRun 0x0130 (State.hbmRepair o)
  | 0x0140 => if s.selftestReady then s.mbxRun 0x0140 (State.rasterSelftest o) else s
  | 0x0150 => s.mbxRun 0x0150 State.retentionRead
  | 0x0201 => s.mbxRun 0x0201 State.encAdmit
  | 0x0202 => s.mbxRun 0x0202 State.ladderAdmit
  | 0x0203 => s.mbxRun 0x0203 State.encRelease
  | 0x0204 => s.mbxRun 0x0204 State.encQuery
  | 0x0301 => s.mbxRun 0x0301 State.decAdmit
  | 0x0302 => s.mbxRun 0x0302 State.decRelease
  | 0x0501 => s.mbxRun 0x0501 fun t req => t.tokenSubmit (State.tokenWrite o) o req
  | 0x0502 => s.mbxRun 0x0502 State.deviceId
  | 0x0503 => s.mbxRun 0x0503 State.attest
  | 0x0504 => s.mbxRun 0x0504 State.measExtend
  | _ => s

/-- MBX_COMMAND_DONE (R494). -/
def execMbxCommandDone (o : MbxOutcome) (s : State) : Host.Outcome State Fault Refusal := live s (s.mbxComplete o)

end Sys2Proof.Machine
end

