-- ==== Sys2Proof/Machine/Dispatch.lean ====
section
/-!
DEFINITION. One arm per command: each calls the meaning of that command.
-/

namespace Sys2Proof.Machine

def exec (i : Instr) (s : State) : Host.Outcome State Fault Refusal :=
  match i with
  | .registerWrite a addr v k => Sys2Proof.Machine.execRegisterWrite a addr v k s
  | .faultedRead a addr => Sys2Proof.Machine.execFaultedRead a addr s
  | .occReadHiPop a base => Sys2Proof.Machine.execOccReadHiPop a base s
  | .clearLost a base => Sys2Proof.Machine.execClearLost a base s
  | .commitGroupWrite a base v => Sys2Proof.Machine.execCommitGroupWrite a base v s
  | .frameNoLoRead a => Sys2Proof.Machine.execFrameNoLoRead a s
  | .evtRouteWrite a m v => Sys2Proof.Machine.execEvtRouteWrite a m v s
  | .vectorAck a hi v => Sys2Proof.Machine.execVectorAck a hi v s
  | .evtCtlWrite a v => Sys2Proof.Machine.execEvtCtlWrite a v s
  | .fabEvtDestWrite a v => Sys2Proof.Machine.execFabEvtDestWrite a v s
  | .fabricEventSend => Sys2Proof.Machine.execFabricEventSend s
  | .bar2Write a bytes => Sys2Proof.Machine.execBar2Write a bytes s
  | .bar2Read a n => Sys2Proof.Machine.execBar2Read a n s
  | .beatBoundary m => Sys2Proof.Machine.execBeatBoundary m s
  | .beatRateSwitch => Sys2Proof.Machine.execBeatRateSwitch s
  | .rasterLineStart r => Sys2Proof.Machine.execRasterLineStart r s
  | .toneCurveCompute r => Sys2Proof.Machine.execToneCurveCompute r s
  | .frameLeaseRelease r f => Sys2Proof.Machine.execFrameLeaseRelease r f s
  | .composeError r kind => Sys2Proof.Machine.execComposeError r kind s
  | .commitArm a v => Sys2Proof.Machine.execCommitArm a v s
  | .commitValidationDone => Sys2Proof.Machine.execCommitValidationDone s
  | .commitCancel a v => Sys2Proof.Machine.execCommitCancel a v s
  | .fabPrepareReceived p f => Sys2Proof.Machine.execFabPrepareReceived p f s
  | .fabVoteReceived p f => Sys2Proof.Machine.execFabVoteReceived p f s
  | .fabVoteDeadline => Sys2Proof.Machine.execFabVoteDeadline s
  | .fabDecisionRepeat => Sys2Proof.Machine.execFabDecisionRepeat s
  | .fabDecisionReceived p f => Sys2Proof.Machine.execFabDecisionReceived p f s
  | .fabAckReceived p f => Sys2Proof.Machine.execFabAckReceived p f s
  | .fabCommitApply => Sys2Proof.Machine.execFabCommitApply s
  | .snapStart a v => Sys2Proof.Machine.execSnapStart a v s
  | .snapAbort a v => Sys2Proof.Machine.execSnapAbort a v s
  | .snapMessageReceived p f => Sys2Proof.Machine.execSnapMessageReceived p f s
  | .snapCapture => Sys2Proof.Machine.execSnapCapture s
  | .snapWriteDone => Sys2Proof.Machine.execSnapWriteDone s
  | .ethFrameReceived p t f => Sys2Proof.Machine.execEthFrameReceived p t f s
  | .ingestFramePublish n => Sys2Proof.Machine.execIngestFramePublish n s
  | .ingestNoSignal n => Sys2Proof.Machine.execIngestNoSignal n s
  | .ingestPathDown n pathB => Sys2Proof.Machine.execIngestPathDown n pathB s
  | .coefDataWrite a x v => Sys2Proof.Machine.execCoefDataWrite a x v s
  | .lutDataWrite a r v => Sys2Proof.Machine.execLutDataWrite a r v s
  | .statsCaptureRead a r => Sys2Proof.Machine.execStatsCaptureRead a r s
  | .rowHandoff c t => Sys2Proof.Machine.execRowHandoff c t s
  | .pixelJobDispatch t => Sys2Proof.Machine.execPixelJobDispatch t s
  | .affinityWaitExpiry t => Sys2Proof.Machine.execAffinityWaitExpiry t s
  | .analysisPublish e t => Sys2Proof.Machine.execAnalysisPublish e t s
  | .pixelJobComplete x e misses t => Sys2Proof.Machine.execPixelJobComplete x e misses t s
  | .floorRecodeDone c t => Sys2Proof.Machine.execFloorRecodeDone c t s
  | .seamFilterDone c t => Sys2Proof.Machine.execSeamFilterDone c t s
  | .entropyJobDispatch t => Sys2Proof.Machine.execEntropyJobDispatch t s
  | .sliceAssembled e t => Sys2Proof.Machine.execSliceAssembled e t s
  | .jobError u t => Sys2Proof.Machine.execJobError u t s
  | .engineSelftestLoan u t => Sys2Proof.Machine.execEngineSelftestLoan u t s
  | .engineReturn u t => Sys2Proof.Machine.execEngineReturn u t s
  | .histClear a v => Sys2Proof.Machine.execHistClear a v s
  | .rcClear a v => Sys2Proof.Machine.execRcClear a v s
  | .hintError c row blocks => Sys2Proof.Machine.execHintError c row blocks s
  | .encAdmit => Sys2Proof.Machine.execEncAdmit s
  | .ladderAdmit => Sys2Proof.Machine.execLadderAdmit s
  | .encRelease => Sys2Proof.Machine.execEncRelease s
  | .encQuery => Sys2Proof.Machine.execEncQuery s
  | .decAdmit => Sys2Proof.Machine.execDecAdmit s
  | .decRelease => Sys2Proof.Machine.execDecRelease s
  | .decNalReceived d t n => Sys2Proof.Machine.execDecNalReceived d t n s
  | .decPictureTimeout d => Sys2Proof.Machine.execDecPictureTimeout d s
  | .decPictureComplete d t => Sys2Proof.Machine.execDecPictureComplete d t s
  | .decAlignPublish d t => Sys2Proof.Machine.execDecAlignPublish d t s
  | .decNoInput d => Sys2Proof.Machine.execDecNoInput d s
  | .refCfgWrite a v => Sys2Proof.Machine.execRefCfgWrite a v s
  | .refEdge t => Sys2Proof.Machine.execRefEdge t s
  | .refEdgeTimeout => Sys2Proof.Machine.execRefEdgeTimeout s
  | .tileMapDataWrite a x v => Sys2Proof.Machine.execTileMapDataWrite a x v s
  | .calDataWrite a x v => Sys2Proof.Machine.execCalDataWrite a x v s
  | .calLoadStart a x v => Sys2Proof.Machine.execCalLoadStart a x v s
  | .calLoadAbort a x v => Sys2Proof.Machine.execCalLoadAbort a x v s
  | .calLoadDone x => Sys2Proof.Machine.execCalLoadDone x s
  | .tileReportReceived n p => Sys2Proof.Machine.execTileReportReceived n p s
  | .cableFaultDetect n codes => Sys2Proof.Machine.execCableFaultDetect n codes s
  | .cableRetry n found => Sys2Proof.Machine.execCableRetry n found s
  | .cableFaultClears n code => Sys2Proof.Machine.execCableFaultClears n code s
  | .tileLaneRetry a x v k => Sys2Proof.Machine.execTileLaneRetry a x v k s
  | .blockLockAcquire n => Sys2Proof.Machine.execBlockLockAcquire n s
  | .blockLockPolarityTimeout n => Sys2Proof.Machine.execBlockLockPolarityTimeout n s
  | .lanePllLock wide n => Sys2Proof.Machine.execLanePllLock wide n s
  | .lanePllTimeout wide n => Sys2Proof.Machine.execLanePllTimeout wide n s
  | .laneCdrLock wide n => Sys2Proof.Machine.execLaneCdrLock wide n s
  | .laneAdaptDone wide n eq eyeH eyeW => Sys2Proof.Machine.execLaneAdaptDone wide n eq eyeH eyeW s
  | .laneLosAssert wide n => Sys2Proof.Machine.execLaneLosAssert wide n s
  | .laneLosClear wide n => Sys2Proof.Machine.execLaneLosClear wide n s
  | .laneLolAssert wide n => Sys2Proof.Machine.execLaneLolAssert wide n s
  | .laneLolClear wide n => Sys2Proof.Machine.execLaneLolClear wide n s
  | .laneAdaptUpdate wide n steps => Sys2Proof.Machine.execLaneAdaptUpdate wide n steps s
  | .laneAdaptRestart a wide n v => Sys2Proof.Machine.execLaneAdaptRestart a wide n v s
  | .laneLoopbackChange a wide n v => Sys2Proof.Machine.execLaneLoopbackChange a wide n v s
  | .laneErrClear a wide n v => Sys2Proof.Machine.execLaneErrClear a wide n v s
  | .netLinkRise p => Sys2Proof.Machine.execNetLinkRise p s
  | .netLinkFall p => Sys2Proof.Machine.execNetLinkFall p s
  | .netTableWrite a x v => Sys2Proof.Machine.execNetTableWrite a x v s
  | .netTableRead a x v => Sys2Proof.Machine.execNetTableRead a x v s
  | .ptpMessageReceived p t m => Sys2Proof.Machine.execPtpMessageReceived p t m s
  | .ptpMessageTimer p m => Sys2Proof.Machine.execPtpMessageTimer p m s
  | .ptpAnnounceTimeout p => Sys2Proof.Machine.execPtpAnnounceTimeout p s
  | .schedSelect p t => Sys2Proof.Machine.execSchedSelect p t s
  | .gateEntryBoundary p t => Sys2Proof.Machine.execGateEntryBoundary p t s
  | .schedTableWrite a x v => Sys2Proof.Machine.execSchedTableWrite a x v s
  | .schedTableRead a x v => Sys2Proof.Machine.execSchedTableRead a x v s
  | .schedTableReadActive a x v => Sys2Proof.Machine.execSchedTableReadActive a x v s
  | .schedPeakClear a x v => Sys2Proof.Machine.execSchedPeakClear a x v s
  | .fabLinkChange p up => Sys2Proof.Machine.execFabLinkChange p up s
  | .fabHelloTimer p => Sys2Proof.Machine.execFabHelloTimer p s
  | .fabHelloReceived p f => Sys2Proof.Machine.execFabHelloReceived p f s
  | .fabAuthReceived p f => Sys2Proof.Machine.execFabAuthReceived p f s
  | .fabAuthTimeout p => Sys2Proof.Machine.execFabAuthTimeout p s
  | .fabPortSilence p => Sys2Proof.Machine.execFabPortSilence p s
  | .fabRefusedRetry p => Sys2Proof.Machine.execFabRefusedRetry p s
  | .fabRekey p => Sys2Proof.Machine.execFabRekey p s
  | .fabAutoRemap p l => Sys2Proof.Machine.execFabAutoRemap p l s
  | .fabRemapReceived p f => Sys2Proof.Machine.execFabRemapReceived p f s
  | .fabCreditReceived p f => Sys2Proof.Machine.execFabCreditReceived p f s
  | .fabCreditSend p => Sys2Proof.Machine.execFabCreditSend p s
  | .fabCreditStall p vc => Sys2Proof.Machine.execFabCreditStall p vc s
  | .fabFrameForward p f => Sys2Proof.Machine.execFabFrameForward p f s
  | .fabLinkStateTimer => Sys2Proof.Machine.execFabLinkStateTimer s
  | .fabLinkStateReceived p f a => Sys2Proof.Machine.execFabLinkStateReceived p f a s
  | .fabMemberTimeout n => Sys2Proof.Machine.execFabMemberTimeout n s
  | .fabRouteUpdate => Sys2Proof.Machine.execFabRouteUpdate s
  | .fabCoordTimeout => Sys2Proof.Machine.execFabCoordTimeout s
  | .fabCoordSyncReceived p f => Sys2Proof.Machine.execFabCoordSyncReceived p f s
  | .fabCfgWrite a v => Sys2Proof.Machine.execFabCfgWrite a v s
  | .fabLandRequestReceived p f => Sys2Proof.Machine.execFabLandRequestReceived p f s
  | .fabLandGrantReceived p f => Sys2Proof.Machine.execFabLandGrantReceived p f s
  | .fabLandRefuseReceived p f => Sys2Proof.Machine.execFabLandRefuseReceived p f s
  | .fabLeave a v => Sys2Proof.Machine.execFabLeave a v s
  | .fabReland a v => Sys2Proof.Machine.execFabReland a v s
  | .fabAcceptOffer a v => Sys2Proof.Machine.execFabAcceptOffer a v s
  | .fabTimeRequestTimer p => Sys2Proof.Machine.execFabTimeRequestTimer p s
  | .fabTimeRequestReceived p f t => Sys2Proof.Machine.execFabTimeRequestReceived p f t s
  | .fabTimeResponseReceived p f t => Sys2Proof.Machine.execFabTimeResponseReceived p f t s
  | .rraStart a v k => Sys2Proof.Machine.execRraStart a v k s
  | .rraAbort a v => Sys2Proof.Machine.execRraAbort a v s
  | .rraTimeout => Sys2Proof.Machine.execRraTimeout s
  | .fabRegRequestReceived p f k => Sys2Proof.Machine.execFabRegRequestReceived p f k s
  | .fabRegResponseReceived p f => Sys2Proof.Machine.execFabRegResponseReceived p f s
  | .fabJoinReceived p f => Sys2Proof.Machine.execFabJoinReceived p f s
  | .fabJoinRefresh d => Sys2Proof.Machine.execFabJoinRefresh d s
  | .fabMcastExpiry k p => Sys2Proof.Machine.execFabMcastExpiry k p s
  | .fabFerryReceived p f nals => Sys2Proof.Machine.execFabFerryReceived p f nals s
  | .fabRectReceived p f => Sys2Proof.Machine.execFabRectReceived p f s
  | .fabEventReceived p f => Sys2Proof.Machine.execFabEventReceived p f s
  | .fabTableWrite a v => Sys2Proof.Machine.execFabTableWrite a v s
  | .fabTableRead a v => Sys2Proof.Machine.execFabTableRead a v s
  | .helmInClassChange c => Sys2Proof.Machine.execHelmInClassChange c s
  | .helmSenseFault => Sys2Proof.Machine.execHelmSenseFault s
  | .helmSenseClear => Sys2Proof.Machine.execHelmSenseClear s
  | .moorHeartbeatTimer => Sys2Proof.Machine.execMoorHeartbeatTimer s
  | .moorHeartbeatReceived p f => Sys2Proof.Machine.execMoorHeartbeatReceived p f s
  | .moorTimeoutExpiry p => Sys2Proof.Machine.execMoorTimeoutExpiry p s
  | .helmTakeoverInstant t => Sys2Proof.Machine.execHelmTakeoverInstant t s
  | .helmYieldReceived p f => Sys2Proof.Machine.execHelmYieldReceived p f s
  | .mateHandover a v => Sys2Proof.Machine.execMateHandover a v s
  | .mateRequalify a v => Sys2Proof.Machine.execMateRequalify a v s
  | .mateForceClaim a v => Sys2Proof.Machine.execMateForceClaim a v s
  | .moorCompareReceived p f => Sys2Proof.Machine.execMoorCompareReceived p f s
  | .moorRecordMissing m => Sys2Proof.Machine.execMoorRecordMissing m s
  | .moorHealthReceived p f => Sys2Proof.Machine.execMoorHealthReceived p f s
  | .moorThermalReceived p f => Sys2Proof.Machine.execMoorThermalReceived p f s
  | .arbStartReceived p f => Sys2Proof.Machine.execArbStartReceived p f s
  | .arbRunDone fail failed => Sys2Proof.Machine.execArbRunDone fail failed s
  | .arbResultReceived p f => Sys2Proof.Machine.execArbResultReceived p f s
  | .arbResultTimeout => Sys2Proof.Machine.execArbResultTimeout s
  | .takebackReqReceived p f => Sys2Proof.Machine.execTakebackReqReceived p f s
  | .takebackAckReceived p f => Sys2Proof.Machine.execTakebackAckReceived p f s
  | .takebackNakReceived p f => Sys2Proof.Machine.execTakebackNakReceived p f s
  | .takebackYield t => Sys2Proof.Machine.execTakebackYield t s
  | .takebackTimeout => Sys2Proof.Machine.execTakebackTimeout s
  | .holdoffExpiry => Sys2Proof.Machine.execHoldoffExpiry s
  | .audioFrameStart t sdi => Sys2Proof.Machine.execAudioFrameStart t sdi s
  | .audioBlockWrite p => Sys2Proof.Machine.execAudioBlockWrite p s
  | .cvuStart a n v => Sys2Proof.Machine.execCvuStart a n v s
  | .cvuAbort a n v => Sys2Proof.Machine.execCvuAbort a n v s
  | .cvuScanDone n => Sys2Proof.Machine.execCvuScanDone n s
  | .cvuSnoopFrame n => Sys2Proof.Machine.execCvuSnoopFrame n s
  | .cvuMemoryError n k => Sys2Proof.Machine.execCvuMemoryError n k s
  | .cvuValLoRead a n => Sys2Proof.Machine.execCvuValLoRead a n s
  | .cvuValLoWrite a n v => Sys2Proof.Machine.execCvuValLoWrite a n v s
  | .cvuValHiWrite a n v => Sys2Proof.Machine.execCvuValHiWrite a n v s
  | .tokenRootProvision o => Sys2Proof.Machine.execTokenRootProvision o s
  | .tokenPolicySet o => Sys2Proof.Machine.execTokenPolicySet o s
  | .tokenCertInstall o => Sys2Proof.Machine.execTokenCertInstall o s
  | .tokenSeal o => Sys2Proof.Machine.execTokenSeal o s
  | .tokenUnseal o => Sys2Proof.Machine.execTokenUnseal o s
  | .tokenRegWrite o => Sys2Proof.Machine.execTokenRegWrite o s
  | .tokenSvnAdvance o => Sys2Proof.Machine.execTokenSvnAdvance o s
  | .tokenDebugPermaClose o => Sys2Proof.Machine.execTokenDebugPermaClose o s
  | .tokenPwReset o => Sys2Proof.Machine.execTokenPwReset o s
  | .deviceId => Sys2Proof.Machine.execDeviceId s
  | .attest => Sys2Proof.Machine.execAttest s
  | .measExtend => Sys2Proof.Machine.execMeasExtend s
  | .keyLoadStart a v => Sys2Proof.Machine.execKeyLoadStart a v s
  | .keyLoadAbort a v => Sys2Proof.Machine.execKeyLoadAbort a v s
  | .keyLoadDone tag => Sys2Proof.Machine.execKeyLoadDone tag s
  | .keyClear a v => Sys2Proof.Machine.execKeyClear a v s
  | .dbgChallenge a v => Sys2Proof.Machine.execDbgChallenge a v s
  | .dbgClose a v => Sys2Proof.Machine.execDbgClose a v s
  | .dbgResponseCheck a v k => Sys2Proof.Machine.execDbgResponseCheck a v k s
  | .dbgResponseAbort a v => Sys2Proof.Machine.execDbgResponseAbort a v s
  | .pwCheck a v => Sys2Proof.Machine.execPwCheck a v s
  | .pwCheckAbort a v => Sys2Proof.Machine.execPwCheckAbort a v s
  | .pwDelayExpiry => Sys2Proof.Machine.execPwDelayExpiry s
  | .sessionExpiry => Sys2Proof.Machine.execSessionExpiry s
  | .challengeExpiry => Sys2Proof.Machine.execChallengeExpiry s
  | .jtagExtest ir tdi => Sys2Proof.Machine.execJtagExtest s ir tdi
  | .jtagDbgUnlock response b sig => Sys2Proof.Machine.execJtagDbgUnlock response b sig s
  | .jtagDbgRead memory a n => Sys2Proof.Machine.execJtagDbgRead memory a n s
  | .jtagDbgWrite memory a v bytes k => Sys2Proof.Machine.execJtagDbgWrite memory a v bytes k s
  | .jtagDbgScan n => Sys2Proof.Machine.execJtagDbgScan n s
  | .govSlackEntry d t => Sys2Proof.Machine.execGovSlackEntry d t s
  | .govSlackExit d t => Sys2Proof.Machine.execGovSlackExit d t s
  | .reqDim a v => Sys2Proof.Machine.execReqDim a v s
  | .dimEntryDone => Sys2Proof.Machine.execDimEntryDone s
  | .reqActive a v => Sys2Proof.Machine.execReqActive a v s
  | .dimExitDone => Sys2Proof.Machine.execDimExitDone s
  | .reqDormant a v => Sys2Proof.Machine.execReqDormant a v s
  | .wakePin => Sys2Proof.Machine.execWakePin s
  | .wakeLaneSignal n => Sys2Proof.Machine.execWakeLaneSignal n s
  | .smbusWake address pec => Sys2Proof.Machine.execSmbusWake address pec s
  | .vinMainLoss => Sys2Proof.Machine.execVinMainLoss s
  | .vinMainReturn => Sys2Proof.Machine.execVinMainReturn s
  | .vinAuxLoss => Sys2Proof.Machine.execVinAuxLoss s
  | .powerOn viaMain strap => Sys2Proof.Machine.execPowerOn viaMain strap s
  | .sysXoReady => Sys2Proof.Machine.execSysXoReady s
  | .resetRelease passA passB home => Sys2Proof.Machine.execResetRelease passA passB home s
  | .bootComplete version svn hash time => Sys2Proof.Machine.execBootComplete version svn hash time s
  | .resetNLow => Sys2Proof.Machine.execResetNLow s
  | .resetCtlDevice a v => Sys2Proof.Machine.execResetCtlDevice a v s
  | .deviceResetEffect => Sys2Proof.Machine.execDeviceResetEffect s
  | .watchdogExpiry => Sys2Proof.Machine.execWatchdogExpiry s
  | .thermalTrip => Sys2Proof.Machine.execThermalTrip s
  | .thermalTripRelease => Sys2Proof.Machine.execThermalTripRelease s
  | .linkReset => Sys2Proof.Machine.execLinkReset s
  | .islandPllLoss n => Sys2Proof.Machine.execIslandPllLoss n s
  | .pwrPeakClear a v => Sys2Proof.Machine.execPwrPeakClear a v s
  | .lockEventsClear a v => Sys2Proof.Machine.execLockEventsClear a v s
  | .mbxCommandDone o => Sys2Proof.Machine.execMbxCommandDone o s
  | .mbxCmdAbort a v => Sys2Proof.Machine.execMbxCmdAbort a v s
  | .mbxUnknownCommand a v => Sys2Proof.Machine.execMbxUnknownCommand a v s
  | .deviceReset => Sys2Proof.Machine.execDeviceReset s
  | .imgStage o => Sys2Proof.Machine.execImgStage o s
  | .imgWrite o => Sys2Proof.Machine.execImgWrite o s
  | .imgVerify o => Sys2Proof.Machine.execImgVerify o s
  | .imgSwitch o => Sys2Proof.Machine.execImgSwitch o s
  | .recoveryBoot o => Sys2Proof.Machine.execRecoveryBoot o s
  | .mcodeReload o => Sys2Proof.Machine.execMcodeReload o s
  | .hbmRepair o => Sys2Proof.Machine.execHbmRepair o s
  | .rasterSelftest o => Sys2Proof.Machine.execRasterSelftest o s
  | .retentionRead => Sys2Proof.Machine.execRetentionRead s
  | .selftestVectorDone u pass => Sys2Proof.Machine.execSelftestVectorDone u pass s
  | .hbmScrubCorrect => Sys2Proof.Machine.execHbmScrubCorrect s
  | .smbusRegisterWrite address pec off v k => Sys2Proof.Machine.execSmbusRegisterWrite address pec off v k s
  | .smbusReadOffset address pec off => Sys2Proof.Machine.execSmbusReadOffset address pec off s
  | .smbusReadData address => Sys2Proof.Machine.execSmbusReadData address s
  | .voutShort k => Sys2Proof.Machine.execVoutShort k s
  | .voutRetry k shorted => Sys2Proof.Machine.execVoutRetry k shorted s
  | .dormantEntryDone => Sys2Proof.Machine.execDormantEntryDone s
  | .hbmScrubUncorrectable => Sys2Proof.Machine.execHbmScrubUncorrectable s
  | .msixTableWrite e k v => Sys2Proof.Machine.execMsixTableWrite e k v s

end Sys2Proof.Machine
end

