-- ==== Sys2Proof/Safety.lean ====
section
/-!
DEFINITION. What counts as a safe and completed step, in the terms the statements use: event delivery up to date, the access that a
register command needs, and what a step leaves as it was.
-/

namespace Sys2Proof.Machine

/-- A page that BAR0 has. -/
abbrev Page.inBar0 (p : Page) : Prop := p.ty ≠ .rcEntry ∧ p.inst < (pageInfo p.ty).count

/-- A register of this descriptor takes writes: some bit is not read-only, or it is a reserved header register (R36, R45). -/
abbrev RegDesc.takesWrite (d : RegDesc) (off : Nat) : Prop :=
  ¬ (d.rw = 0 ∧ d.rwi = 0 ∧ d.pv = 0 ∧ d.wa = 0 ∧ ¬ (0x2C ≤ off ∧ off < 0x40))

/-- Event delivery is up to date (R51, R52, R54): no armed and unmasked vector has level 1, and the fabric event channel has seen the
level of every source routed to it, or holds nothing due while FAB_ENABLE is 0. -/
def Settled (s : State) : Prop :=
  (∀ v, v < 64 → s.vectorLevel s.sourcesUp v = true → v ∈ s.evt.unmasked → v ∈ s.evt.disarmed) ∧
  (s.fabEnable = true → ∀ src, src < 512 →
    tfind s.evt.fabSeen src = if s.route src / 64 = 3 then some (s.sourcesUp.contains src) else none) ∧
  (s.fabEnable = false → s.evt.fabDue = [])

/-- The two states agree but for event delivery and what has left the block. -/
def SameButEvents (s t : State) : Prop := { t with evt := s.evt, out := s.out } = s

/-- The two states agree but for the occurrence queues, event delivery and what has left the block. -/
def SameButRecords (s t : State) : Prop := { t with occ := s.occ, evt := s.evt, out := s.out } = s

/-- The two states agree but for event delivery and one register: what the write of a register of action bits leaves before its action
(its reserved bits take the write while a SERVICE session has opened test access, R37). -/
def ActionStored (p : Page) (off : Nat) (s u : State) : Prop :=
  (∀ (q : Page) (o : Nat), pageBase q + o ≠ pageBase p + off → u.word q o = s.word q o) ∧ SameButEvents s { u with cur := s.cur }

/-- A register write of this access to this page meets no fault for the access itself (R43, R44, R445, R450): the device is released,
the access is 32 bits wide, its role may write the page, and no check-value unit denies it. -/
def Ready (s : State) (a : Access) (p : Page) : Prop :=
  s.pow.up = true ∧ a.full = true ∧ s.mayWrite a p = true ∧ s.cvuClosed a p = false

/-- A register read of this access is answered (R43): the device is released and the role may read the page. -/
def Readable (s : State) (a : Access) (p : Page) : Prop := s.pow.up = true ∧ s.mayRead a p = true

/-- The command completes: exec answers a next state, and P holds of it. -/
abbrev Takes (c : Instr) (s : State) (P : State → Prop) : Prop := ∃ t, exec c s = .next t ∧ P t

/-- The field of GROUP_RESULT that shows group `g` (R55). -/
abbrev groupResultField (g : Nat) : Field := ⟨0x060 + 4 * (g / 8), 4 * (g % 8) + 2, 4 * (g % 8)⟩

/-- The state once the link layer of port `p` has checked a frame (R366, R373). -/
abbrev State.checked (s : State) (p : Nat) (f : FabFrame) : State := (s.fabCheck p f).1

/-- A sound link frame reaches this device (R369, R372, R373): the port has LINK and is not DOWN, FCS is correct, and an encrypted frame
meets a keyed port, verifies and is newer than the last one. -/
def ArrivesLink (s : State) (p : Nat) (f : FabFrame) : Prop :=
  s.pow.up = true ∧ (s.fport p).link = true ∧ (s.fport p).st ≠ 0 ∧ f.fcsOk = true ∧ linkType f.body.code = true ∧
    (sealedType f.body.code = true →
      ((s.fport p).st = 3 ∨ (s.fport p).st = 5) ∧ f.tagOk = true ∧ (s.fport p).pnRx < f.pn)

/-- A sound routed frame reaches this device (R369, R370, R373, R380): the port is UP, FCS and tag verify, the frame is newer than the
last one and travels on its type's VC, and one that is routed by DST is addressed here or is a LAND request of a device without an ID. -/
def ArrivesRouted (s : State) (p : Nat) (f : FabFrame) : Prop :=
  s.pow.up = true ∧ (s.fport p).link = true ∧ (s.fport p).st = 3 ∧ f.fcsOk = true ∧ f.tagOk = true ∧ (s.fport p).pnRx < f.pn ∧
    linkType f.body.code = false ∧ typeVc f.body.code = some f.vc ∧
    (unicastType f.body.code = true → s.landed = true → s.addressed f.dst = true ∨ (f.body.code = 0x09 ∧ f.dst = 0 ∧ f.src = 0))

/-- A sound mooring frame that is the first copy of its SEQ arrives (R407): port 16 or 17 is enabled and UP, FCS and tag verify, and the
frame and its SEQ are newer than the last. -/
def ArrivesMoored (s : State) (p : Nat) (f : FabFrame) : Prop :=
  s.pow.up = true ∧ 16 ≤ p ∧ p ≤ 17 ∧ s.fportOn p = true ∧ (s.fport p).st = 3 ∧ f.fcsOk = true ∧ f.tagOk = true ∧
    (s.fport p).pnRx < f.pn ∧ (∀ q, s.mate.seqRx = some q → newerSeq f.seq q = true)

/-- The state once the mooring has taken such a frame (R407): its credits are freed, and the mooring is alive. -/
abbrev State.moored (s : State) (p : Nat) (f : FabFrame) : State :=
  let c := (s.fabCheck p f).1
  let t := ({ c.fabFree p f with mate := { c.mate with alive := c.mate.alive ||| 2 ^ (p - 16) } }).wr MATE Reg.MATE_HELM_STATE_MOORING 1
  { t with mate := { t.mate with seqRx := some f.seq } }

/-- The running token is refused with a result and a detail (R455, R474, R475): both are shown with its action, counted, recorded in SEC 0
and answered with OWNER_SEQ as it stood; nothing else changes. -/
def TokenRefused (c : Instr) (s : State) (action r d : Nat) : Prop :=
  ∃ u : State, exec c s = .next (settle (u.mbxReply [r, d, s.rd (SEC 0) Reg.SEC0_OWNER_SEQ_LO, s.rd (SEC 0) Reg.SEC0_OWNER_SEQ_HI])) ∧
    u.rd (SEC 0) Reg.SEC0_TOKEN_RESULT = r + 2 ^ 8 * action + 2 ^ 16 * d ∧
    u.rd (SEC 0) Reg.SEC0_TOKENS_REFUSED = (s.rd (SEC 0) Reg.SEC0_TOKENS_REFUSED + 1) % 2 ^ 32 ∧
    u.queue (SEC 0) = occPush (s.queue (SEC 0)) (occRecord 0x20 r (2 ^ 40 * action + s.frameNo % 2 ^ 32)) ∧
    SameButRecords s { u with cur := s.cur }

/-- The running token is accepted (R455, R474): OWNER_SEQ is its SEQ, its action is shown and counted, it is answered, and P holds
of the state that its effect leaves. -/
def TokenAccepted (c : Instr) (s : State) (action : Nat) (P : State → Prop) : Prop :=
  let seq := tokNat (s.token s.mbx.req) 16 8
  ∃ u : State, exec c s = .next (settle (u.mbxReply [0, 0, seq % 2 ^ 32, seq / 2 ^ 32 % 2 ^ 32])) ∧
    u.rd (SEC 0) Reg.SEC0_OWNER_SEQ_LO = seq % 2 ^ 32 ∧ u.rd (SEC 0) Reg.SEC0_OWNER_SEQ_HI = seq / 2 ^ 32 % 2 ^ 32 ∧
    u.rd (SEC 0) Reg.SEC0_TOKEN_RESULT = 2 ^ 8 * action ∧
    u.rd (SEC 0) Reg.SEC0_TOKENS_ACCEPTED = (s.rd (SEC 0) Reg.SEC0_TOKENS_ACCEPTED + 1) % 2 ^ 32 ∧ P u

/-- A TOKEN_SUBMIT runs, its token carries this action, and its checks end with `r` (R455). -/
def TokenRuns (s : State) (action : Nat) (signed : Bool) (r : Nat) : Prop :=
  s.pow.up = true ∧ s.mbxRunning 0x0501 = true ∧ tokNat (s.token s.mbx.req) 3 1 = action ∧
    s.tokenCheck (s.token s.mbx.req) signed = r

/-- What a response `b` leaves (R471, R472, R475): its result is shown; a failure is counted and recorded; a success opens a SERVICE session
with its key for its duration; the challenge that it answers is used. -/
def Responded (s : State) (b : List Byte) (sig : Bool) (t : State) : Prop :=
  let r := s.responseResult b sig
  t.rd (SEC 3) Reg.SEC3_RESP_RESULT = r ∧
    (r ≠ 0 → t.sec.session = s.sec.session ∧ t.queue (SEC 3) = occPush (s.queue (SEC 3)) (occRecord 0x22 r s.frameNo) ∧
      t.rd (SEC 3) Reg.SEC3_UNLOCK_FAILS = (s.rd (SEC 3) Reg.SEC3_UNLOCK_FAILS + 1) % 2 ^ 32) ∧
    (r = 0 → t.sec.session = some ⟨true, Config.sha384 ((b.drop 56).take 97), s.tm.sys + ms (1000 * tokNat b 52 4)⟩ ∧
      t.queue (SEC 3) = occPush (s.queue (SEC 3)) (occRecord 0x20 2 s.frameNo)) ∧
    (∀ c, s.sec.challenge = some c → r ≠ 6 → c.bytes = b.take 48 → t.sec.challenge = some { c with valid := false }) ∧
    t.sec.failures = s.sec.failures ∧ t.mem = s.mem ∧ t.pnd = s.pnd

/-- What a password `b` leaves (R470, R475): its result is shown and a failure recorded; a wrong one counts and starts the wait; the right
one opens a DIAG session for SESSION_MAX seconds and clears the count. -/
def Passed (s : State) (b : List Byte) (t : State) : Prop :=
  let r := s.passwordResult b
  t.rd (SEC 3) Reg.SEC3_PW_RESULT = r ∧
    (r ≠ 0 → t.sec.session = s.sec.session ∧ t.queue (SEC 3) = occPush (s.queue (SEC 3)) (occRecord 0x22 (0x10 + r) s.frameNo)) ∧
    (r ≠ 0 → r ≠ 4 → t.sec = s.sec) ∧
    (r = 4 → t.sec =
      { s.sec with failures := s.sec.failures + 1, waitUntil := some (s.tm.sys + ms (1000 * 2 ^ min s.sec.failures 10)) }) ∧
    (∀ p, r = 0 → s.sec.policy = some p → t.sec =
        { s.sec with failures := 0, session := some ⟨false, 0, s.tm.sys + ms (1000 * p.sessionMax)⟩ } ∧
      t.queue (SEC 3) = occPush (s.queue (SEC 3)) (occRecord 0x20 1 s.frameNo)) ∧
    t.mem = s.mem ∧ t.pnd = s.pnd

/-- `t` is the state of a device that a reset of this cause has just put in reset from `s` (R27, R87, R461, R473, R488, R489): every register
but those of fuses, of DOMAIN_00 and the words named in `more` holds its reset value, the cause is shown and counted, lease table, key slots,
debug session, arms and occurrence queues are gone, and the host pool is kept but for COLD and MAIN. -/
def ResetBy (s t : State) (cause : Nat) (more : List (Page × Nat)) : Prop :=
  t.pow.up = false ∧ t.pow.booted = false ∧ t.pow.due = none ∧
    t.rd SYS ⟨0x144, 3, 0⟩ = cause ∧ t.rd SYS ⟨0x144, 31, 16⟩ = (if cause = 0 then 1 else (s.rd SYS ⟨0x144, 31, 16⟩ + 1) % 2 ^ 16) ∧
    (∀ (p : Page) (off : Nat) (d : RegDesc), p.inBar0 → off < 0x800 → regDesc p off = some d →
      (p, off) ∉ (SYS, 0x100) :: (SYS, 0x144) :: more ++ keptWords →
      t.word p off = BitVec.ofNat 32 d.reset ∧ t.wordP p off = BitVec.ofNat 32 d.reset ∧ t.wordL p off = BitVec.ofNat 32 d.reset) ∧
    (∀ e ∈ keptWords, t.word e.1 e.2 = s.word e.1 e.2) ∧
    t.leases = [] ∧ t.sec.slots = [] ∧ t.sec.keys = [] ∧ t.sec.session = none ∧ t.cm.arms = [] ∧ (∀ p : Page, t.queue p = {}) ∧
    t.mem = (if cause < 2 then [] else s.mem) ∧ t.pending = s.pending ∧
    t.pow.retention = (if cause = 0 then none else s.pow.retention)

/-- Nothing but fuses and flash is left (R486, R509): no supply is present, and power, time and the host pool are gone. -/
def AllLost (t : State) : Prop :=
  t.pow.main = false ∧ t.pow.aux = false ∧ t.pow.powered = false ∧ t.pow.xo = false ∧ t.pow.up = false ∧ t.mem = [] ∧
    t.pow.retention = none ∧ t.sec.ranges = [] ∧ t.sec.slots = [] ∧ t.sec.keys = [] ∧ t.leases = []

/-- `t` holds the helm by a claim from `s` (R396, R402): EPOCH passes both units', and the outputs wait for the takeover instant. -/
def Claimed (s t : State) : Prop :=
  t.role = 1 ∧ t.rd MATE Reg.MATE_EPOCH = (max (s.rd MATE Reg.MATE_EPOCH) (s.rd MATE Reg.MATE_MATE_EPOCH) + 1) % 2 ^ 32 ∧
    t.mate.on = false ∧ t.rd MATE Reg.MATE_LAST_TAKEOVER = s.frameNo % 2 ^ 32

end Sys2Proof.Machine
end

