-- ==== Sys2Proof/Certificates/Slice0/Obligations.lean ====
section
/-!
DEFINITION. The statements about the model, in the order of the spec's chapters. A next state is written `settle t`: `t` is the
command's own effect, and `settle` is event delivery in the same cycle (R51, R52, R54), which changes nothing but `evt` and `out`; so a
statement that names `t` exactly states the command's frame. A hypothesis `s.pow.up = true` says that the device has been released from
reset (R510); `Ready` says that a register write meets no access fault. Instants in a command are operands (assumption log 3).
-/

open Sys2Proof Sys2Proof.Machine

/-! The machine as a whole. -/

/-- A step of a state with command `c` at the front of its queue is `exec c` on that state with the queue's rest, and a step on an
empty queue answers the same state (the model's own choice: assumption log 1). -/
def Obligations.StepRunsTheFrontCommand : Prop :=
  (∀ (c : Instr) (rest : List Instr) (s : State),
    step { s with pending := c :: rest } = exec c { s with pending := rest }) ∧
  ∀ s : State, s.pending = [] → step s = .next s

/-- Every step from a state whose event delivery is up to date answers a state whose event delivery is up to date (R51, R52, R54): no
step stops the block, no armed and unmasked vector is left at level 1 without its message, and the fabric event channel has seen the
present level of every source routed to it. -/
def Obligations.StepKeepsEventDelivery : Prop :=
  ∀ s : State, Settled s → ∃ t, step s = .next t ∧ Settled t

/-- Event delivery is up to date at reset: no source is routed, and nothing is due. -/
def Obligations.ResetEventDelivery : Prop := Settled State.reset

/-- A COLD reset (R27, R47, R52, R58, R85): BEAT_RATE reads 60 Hz as its pending and its active value, SYSTIME and FRAME_NO are 0,
every register of every page holds the reset value of its table as its active, its pending and its latched value, every occurrence
queue is empty with OCC_LOST and OCC_TOTAL 0, every vector is armed, no group is armed and no lease entry exists. -/
def Obligations.ColdResetState : Prop :=
  State.reset.rd SYS Reg.SYS_BEAT_RATE = 9 ∧ State.reset.rdP SYS Reg.SYS_BEAT_RATE = 9 ∧ State.reset.tm.rate = 9 ∧
  State.reset.tm.sys = 0 ∧ State.reset.frameNo = 0 ∧
  (∀ (p : Page) (off : Nat) (d : RegDesc), p.inBar0 → off < 0x800 → regDesc p off = some d →
    State.reset.word p off = BitVec.ofNat 32 d.reset ∧ State.reset.wordP p off = BitVec.ofNat 32 d.reset ∧
    State.reset.wordL p off = BitVec.ofNat 32 d.reset) ∧
  (∀ p : Page, State.reset.queue p = {}) ∧ State.reset.evt.disarmed = [] ∧ State.reset.cm.arms = [] ∧
  State.reset.leases = [] ∧ State.reset.pending = []

/-- R52: after every command, the messages sent in its cycle are exactly those of the vectors whose level is 1, that were armed and not
masked, each once and in ascending order; each is then disarmed, and no other vector's arming, nor the MSI-X table, changes.
R54, while FAB_ENABLE stays 1 and FAB_EVT_DEST is the node last served: a source routed to the fabric event channel whose level
differs from the level the channel last saw, or that is newly routed to it, is due with its present level after the command's cycle; a
source routed away from it is due with level 0; every other source keeps its pending entry. Where FAB_ENABLE rose or FAB_EVT_DEST changed,
every routed source is due with its present level. With FAB_ENABLE 0 nothing is due. -/
def Obligations.EventDelivery : Prop :=
  (∀ s : State, ∃ l : List Nat,
    (settle s).out = s.out ++ l.map Out.msix ∧ l.Pairwise (· < ·) ∧
    (∀ v, v ∈ l ↔ v < 64 ∧ s.vectorLevel s.sourcesUp v = true ∧ v ∈ s.evt.unmasked ∧ v ∉ s.evt.disarmed) ∧
    (∀ v, v ∈ (settle s).evt.disarmed ↔ v ∈ s.evt.disarmed ∨ v ∈ l) ∧
    (settle s).evt.unmasked = s.evt.unmasked ∧ (settle s).evt.msix = s.evt.msix) ∧
  (∀ (s : State) (src : Nat), s.fabEnable = true → s.evt.fabOn = true → s.evt.fabDest = s.rd EVT Reg.EVT_FAB_EVT_DEST % 4096 →
    src < 512 →
    tfind (settle s).evt.fabDue src =
      if s.route src / 64 = 3 then
        if tfind s.evt.fabSeen src = some (s.sourcesUp.contains src) then tfind s.evt.fabDue src
        else some (s.sourcesUp.contains src)
      else if (tfind s.evt.fabSeen src).isSome then some false else tfind s.evt.fabDue src) ∧
  (∀ (s : State) (src : Nat), s.fabEnable = true →
    (s.evt.fabOn = false ∨ s.evt.fabDest ≠ s.rd EVT Reg.EVT_FAB_EVT_DEST % 4096) → src < 512 → s.route src / 64 = 3 →
    tfind (settle s).evt.fabDue src = some (s.sourcesUp.contains src)) ∧
  (∀ s : State, s.fabEnable = false → (settle s).evt.fabDue = [] ∧ (settle s).evt.fabSeen = [])

/-! 02_register_model.md: accesses, occurrences, events. -/

/-- R43, R44, R45, R38, R36: a faulted register write is dropped. It leaves one record in SYS, with the code of the first fault that
applies in the order ACCESS_UNMAPPED, ACCESS_DENIED, ACCESS_PARTIAL, ACCESS_RO_WRITE, and nothing else changes. FAULTED_READ: a read of
an unimplemented page answers 0xFFFF_FFFF, a read of an unimplemented offset inside a page 0, and a read by a role without its READ bit
0, except of PAGE_ID, PAGE_CAP and ROLE_RIGHTS; each leaves its record and nothing else. R45, R46: the record of a faulted register access has the
fault's code in [63:56], the path in [55:48] (0 PCIe, 1 SMBus, 2 fabric, 3 JTAG), the requester's node ID in [47:36], 1 for a write in
[26] and the BAR0 offset in [25:0]; it enters SYS's queue, and nothing but that queue changes. -/
def Obligations.FaultedAccesses : Prop :=
  (∀ (a : Access) (addr : Nat) (v : Word) (k : WriteFinds) (s : State), s.pow.up = true →
    (regAt (alignedOf addr) = none →
      exec (.registerWrite a addr v k) s = .next (settle (s.faulted a 0x10 true (alignedOf addr)))) ∧
    (∀ (p : Page) (off : Nat) (m : Bool) (d : RegDesc), regAt (alignedOf addr) = some (p, off, m) → regDesc p off = some d →
      (s.mayWrite a p = false →
        exec (.registerWrite a addr v k) s = .next (settle (s.faulted a 0x11 true (alignedOf addr)))) ∧
      (s.mayWrite a p = true → s.cvuClosed a p = false → a.full = false →
        exec (.registerWrite a addr v k) s = .next (settle (s.faulted a 0x13 true (alignedOf addr)))) ∧
      (s.mayWrite a p = true → s.cvuClosed a p = false → a.full = true → m = true ∨ ¬ d.takesWrite off →
        exec (.registerWrite a addr v k) s = .next (settle (s.faulted a 0x12 true (alignedOf addr)))))) ∧
  (∀ (a : Access) (addr : Nat) (s : State), s.pow.up = true →
    (pageAt (alignedOf addr) = none →
      exec (.faultedRead a addr) s =
        .next (settle ((s.faulted a 0x10 false (alignedOf addr)).emit (.readData 0xFFFFFFFF)))) ∧
    (∀ p : Page, pageAt (alignedOf addr) = some p →
      (regAt (alignedOf addr) = none →
        exec (.faultedRead a addr) s = .next (settle ((s.faulted a 0x10 false (alignedOf addr)).emit (.readData 0)))) ∧
      (∀ (off : Nat) (m : Bool), regAt (alignedOf addr) = some (p, off, m) → s.mayRead a p = false →
        off ≠ 0 → off ≠ 4 → off ≠ 0x28 →
        exec (.faultedRead a addr) s = .next (settle ((s.faulted a 0x11 false (alignedOf addr)).emit (.readData 0)))))) ∧
  (∀ (s : State) (a : Access) (c addr : Nat) (w : Bool),
    (s.faulted a c w addr).queue SYS = occPush (s.queue SYS) (occRecord c (pathUnit a.path)
      (pathNode a.path % 4096 * 2 ^ 36 + b2n w * 2 ^ 26 + addr % 2 ^ 26)) ∧
    (∀ q : Page, pageBase q ≠ pageBase SYS → (s.faulted a c w addr).queue q = s.queue q) ∧
    SameButRecords s (s.faulted a c w addr)) ∧
  (∀ c u d : Nat, c < 256 → u < 256 → d < 2 ^ 48 → occRecord c u d = BitVec.ofNat 64 (c * 2 ^ 56 + u * 2 ^ 48 + d)) ∧
  pathUnit .pcie = 0 ∧ pathUnit .smbus = 1 ∧ (∀ n, pathUnit (.fabric n) = 2) ∧ pathUnit .jtag = 3

/-- R36, R37: REGISTER_WRITE to a register without an action of its own (the page types whose registers only configure their block).
Each RW bit takes the written bit as its pending value; each RWI bit takes it at once, a PV bit while a SERVICE session has opened test
access; every other bit of the register and every other register keeps its value, active and pending. The page counts as written since
its last arm exactly when the register has an RW bit, and nothing else changes. -/
def Obligations.RegisterWriteByAccessCodes : Prop :=
  ∀ (a : Access) (p : Page) (off : Nat) (d : RegDesc) (v : Word) (k : WriteFinds) (s : State),
    p.ty ∈ [PageType.pwrDom, .ingest, .lease, .compRaster, .compLayer, .stillPool, .enc, .ladder, .dec, .scan, .net, .sched,
      .fabPort, .aud] →
    Ready s a p → p.inBar0 → 0x20 ≤ off → off < 0x800 → off % 4 = 0 → regDesc p off = some d → d.takesWrite off →
    ∃ t, exec (.registerWrite a (pageBase p + off) v k) s = .next t ∧
      (∀ i, i < 32 → (t.wordP p off).getLsbD i = if d.rw.testBit i then v.getLsbD i else (s.wordP p off).getLsbD i) ∧
      (∀ i, i < 32 → (t.word p off).getLsbD i =
        if d.rwi.testBit i || (s.testOpen && d.pv.testBit i) then v.getLsbD i else (s.word p off).getLsbD i) ∧
      (∀ (q : Page) (o : Nat), pageBase q + o ≠ pageBase p + off → t.word q o = s.word q o ∧ t.wordP q o = s.wordP q o) ∧
      (∀ b, b ∈ t.dirty ↔ b ∈ s.dirty ∨ (d.rw ≠ 0 ∧ b = pageBase p)) ∧
      SameButEvents s { t with cur := s.cur, pnd := s.pnd, dirty := s.dirty }

/-- R47: each page queues up to 64 records, oldest first. A record that arrives at a full queue is dropped and counted in OCC_LOST,
which saturates at 0xFFFF; OCC_TOTAL counts every arrival and wraps; the queued records, and every other page's queue, are kept. A pop
before an arrival at a full queue makes place for it. OCC_NONEMPTY is 1 exactly while a record is queued. -/
def Obligations.OccurrenceArrival : Prop :=
  ∀ (s : State) (p : Page) (c u d : Nat),
    ((s.queue p).recs.length < 64 →
      ((s.occur p c u d).queue p).recs = (s.queue p).recs ++ [occRecord c u d] ∧
      ((s.occur p c u d).queue p).lost = (s.queue p).lost) ∧
    (64 ≤ (s.queue p).recs.length →
      ((s.occur p c u d).queue p).recs = (s.queue p).recs ∧
      ((s.occur p c u d).queue p).lost = min 0xFFFF ((s.queue p).lost + 1)) ∧
    ((s.occur p c u d).queue p).total = ((s.queue p).total + 1) % 2 ^ 32 ∧
    (∀ q : Page, pageBase q ≠ pageBase p → (s.occur p c u d).queue q = s.queue q) ∧
    SameButRecords s (s.occur p c u d) ∧
    ((s.queue p).recs.length = 64 →
      (((s.setQueue p { s.queue p with recs := (s.queue p).recs.tail }).occur p c u d).queue p).recs =
        (s.queue p).recs.tail ++ [occRecord c u d]) ∧
    (bit (s.pageStatus p) 31 = true ↔ (s.queue p).recs ≠ [])

/-- R46: OCC_READ_HI_POP answers bits [63:32] of the oldest record and removes it, and an empty queue answers 0 and stays empty.
R42: CLEAR_LOST sets OCC_LOST to 0. Neither changes OCC_TOTAL, another page's queue or anything else.
R42: COMMIT_GROUP_WRITE of a buffered page. Where the page's present group is not armed, the page is in the written group at once,
and its pending values stay; where it is armed and the written group differs, COMMIT_GROUP keeps its value and GROUP_CHANGE_REFUSED is
recorded in the page. ENABLE is written in both cases, as pending. -/
def Obligations.PageHeaderCommands : Prop :=
  (∀ (a : Access) (p : Page) (s : State), p.inBar0 →
    (Readable s a p →
      exec (.occReadHiPop a (pageBase p)) s = .next (settle ((s.setQueue p { s.queue p with recs := (s.queue p).recs.tail }).emit
        (.readData (match (s.queue p).recs with | r :: _ => BitVec.ofNat 32 (r.toNat / 2 ^ 32) | [] => 0))))) ∧
    (Ready s a p →
      exec (.clearLost a (pageBase p)) s = .next (settle (s.setQueue p { s.queue p with lost := 0 })))) ∧
  ∀ (a : Access) (p : Page) (v : Word) (s : State), p.inBar0 → buffered p.ty = true → p.ty ≠ .encRc → Ready s a p →
    ∃ t, exec (.commitGroupWrite a (pageBase p) v) s = .next t ∧
      t.rdP p Reg.PAGE_CTL_ENABLE = v.toNat % 2 ∧ t.rd p Reg.PAGE_CTL_ENABLE = s.rd p Reg.PAGE_CTL_ENABLE ∧
      (bit s.armedMask (s.groupOf p) = false ∨ s.groupOf p = fget v 12 8 → t.groupOf p = fget v 12 8 ∧ t.queue p = s.queue p) ∧
      (bit s.armedMask (s.groupOf p) = true → s.groupOf p ≠ fget v 12 8 →
        t.groupOf p = s.groupOf p ∧ t.queue p = occPush (s.queue p) (occRecord 0x03 (fget v 12 8) s.frameNo)) ∧
      t.mem = s.mem ∧ t.sec = s.sec

/-- R51, R52, R54: EVT_ROUTE_WRITE stores the route of four sources, EVT_CTL_WRITE and FAB_EVT_DEST_WRITE their fields, and VECTOR_ACK
re-arms exactly the vectors whose bits are 1; event delivery follows in the same cycle. MSIX_TABLE_WRITE masks or unmasks a vector, or
stores a word of its message. A bit of the pending bit array is 1 exactly while its vector's level is 1 and it is armed. FABRIC_EVENT_SEND, with
credit for an EVENT frame and the node named in FAB_EVT_DEST another one, sends the first 32 pending levels in ascending source order and keeps the
rest; without credit, or without a route (the model's choice: assumption log 84), they wait; where the node is this device's own, they enter its
own REMOTE_EVT table (the model's choice: assumption log 84). -/
def Obligations.EventRegisters : Prop :=
  ∀ (a : Access) (v : Word) (s : State), Ready s a EVT →
    (∀ m, m < 128 → ∃ t, exec (.evtRouteWrite a m v) s = .next t ∧
      (∀ i, i < 4 → t.route (4 * m + i) = fget v (8 * i + 7) (8 * i)) ∧
      (∀ src, src / 4 ≠ m → src < 512 → t.route src = s.route src) ∧ SameButEvents s { t with cur := s.cur }) ∧
    (∀ hi : Bool, ∃ t, exec (.vectorAck a hi v) s = .next (settle t) ∧
      (∀ n, n ∈ t.evt.disarmed ↔ n ∈ s.evt.disarmed ∧
        ¬ ((if hi then 32 else 0) ≤ n ∧ n < (if hi then 64 else 32) ∧ v.getLsbD (n % 32) = true)) ∧
      SameButEvents s { t with cur := s.cur }) ∧
    (∃ t, exec (.evtCtlWrite a v) s = .next t ∧ t.rd EVT Reg.EVT_EVT_CTL_PINS_ENABLE = v.toNat % 2 ∧
      t.rd EVT Reg.EVT_EVT_CTL_FAB_ENABLE = v.toNat / 2 % 2 ∧ SameButEvents s { t with cur := s.cur }) ∧
    (∃ t, exec (.fabEvtDestWrite a v) s = .next t ∧ t.rd EVT Reg.EVT_FAB_EVT_DEST % 4096 = v.toNat % 4096 ∧
      SameButEvents s { t with cur := s.cur }) ∧
    (∀ e, e < 64 → ∃ t, exec (.msixTableWrite e 3 v) s = .next (settle t) ∧
      (∀ n, n ∈ t.evt.unmasked ↔ if n = e then v.getLsbD 0 = false else n ∈ s.evt.unmasked) ∧
      t = { s with evt := { s.evt with unmasked := t.evt.unmasked } }) ∧
    (∀ e w, e < 64 → w < 3 → exec (.msixTableWrite e w v) s =
      .next (settle { s with evt := { s.evt with msix := tput 0 s.evt.msix (4 * e + w) v } })) ∧
    (∀ e w, 64 ≤ e ∨ 3 < w → exec (.msixTableWrite e w v) s = .next (settle s)) ∧
    (∀ k i, k < 2 → i < 32 → (s.pbaWord k).testBit i = (s.sourcesUp.any (fun src => s.route src = 0x40 + (32 * k + i)) &&
      !(s.evt.disarmed.contains (32 * k + i)))) ∧ s.pbaWord 0 < 2 ^ 32 ∧ s.pbaWord 1 < 2 ^ 32 ∧
    (s.fabEnable = false ∨ s.evt.fabDue = [] → exec .fabricEventSend s = .next (settle s)) ∧
    (s.rd EVT Reg.EVT_FAB_EVT_DEST % 4096 ≠ s.nodeId →
      s.eventReady (s.rd EVT Reg.EVT_FAB_EVT_DEST % 4096) (s.evt.fabDue.take 32).length = false →
      exec .fabricEventSend s = .next (settle s)) ∧
    (s.fabEnable = true → s.evt.fabDue ≠ [] → s.rd EVT Reg.EVT_FAB_EVT_DEST % 4096 = s.nodeId →
      exec .fabricEventSend s = .next (settle (({ s with
        evt := { s.evt with fabDue := s.evt.fabDue.drop 32 }
        fab := { s.fab with eventSeq := (s.fab.eventSeq + 1) % 2 ^ 32 } }.each (s.evt.fabDue.take 32)
          fun u e => u.remoteLevel s.nodeId e.1 e.2)))) ∧
    (∀ n q l, portsOf (s.routeTo n) = q :: l → ∀ k, s.eventReady n k = true ↔
      let p := (q :: l).getD (fabHash 0x0C n s.nodeId 0 % (q :: l).length) 0
      (s.fport p).head 0 = none ∧ frameCredits (2 * k) ≤ (s.fport p).held 0) ∧
    (s.fabEnable = true → s.evt.fabDue ≠ [] → s.rd EVT Reg.EVT_FAB_EVT_DEST % 4096 ≠ s.nodeId →
      s.eventReady (s.rd EVT Reg.EVT_FAB_EVT_DEST % 4096) (s.evt.fabDue.take 32).length = true →
      exec .fabricEventSend s = .next (settle ({ s with
        evt := { s.evt with fabDue := s.evt.fabDue.drop 32 }
        fab := { s.fab with eventSeq := (s.fab.eventSeq + 1) % 2 ^ 32 } }.fabSend (s.rd EVT Reg.EVT_FAB_EVT_DEST % 4096)
          (.event (s.evt.fabDue.take 32)) 0 (s.fab.eventSeq + 1))))

/-! 01_architecture.md, 04_ingest_buffers.md, 11_scanout.md: time, the host pool, the lines of a raster. -/

/-- R28: FRAME_NO_LO_READ answers FRAME_NO[31:0] and captures FRAME_NO, SYSTIME and TIME_SRC for its requester, whose reads of
0x104-0x118 return the captured values from then on; a requester's capture replaces its own alone. The captured SYSTIME is an instant of the
beat in progress, not before SYSTIME as the block last knew it nor before the last captured instant of the beat (the model's own choice:
assumption log 3). Where 16 other fabric nodes hold a
capture, a further node's read discards the capture of the node whose last read is oldest, which reads the reset values again. -/
def Obligations.TimeCapture : Prop :=
  ∀ (a : Access) (s : State), Readable s a SYS →
    ∃ t now, exec (.frameNoLoRead a) s = .next (settle t) ∧
      (s.tm.sys ≤ now ∧ (s.tm.sys < beatStart s.tm.rate (s.tm.frame + 1) → now < beatStart s.tm.rate (s.tm.frame + 1)) ∧
        (s.tm.read < beatStart s.tm.rate (s.tm.frame + 1) → s.tm.read ≤ now)) ∧
      t.out = s.out ++ [.readData (BitVec.ofNat 32 (s.frameNo % 2 ^ 32))] ∧
      t.capturedWord a.path 0x104 = BitVec.ofNat 32 s.frameNo ∧
      t.capturedWord a.path 0x108 = BitVec.ofNat 32 (s.frameNo / 2 ^ 32) ∧
      t.capturedWord a.path 0x10C = BitVec.ofNat 32 (now / 2 ^ 16) ∧
      t.capturedWord a.path 0x110 = BitVec.ofNat 32 (now / 2 ^ 16 % 2 ^ 64 / 2 ^ 32) ∧
      t.capturedWord a.path 0x114 = BitVec.ofNat 32 (now % 2 ^ 16) ∧
      t.capturedWord a.path 0x118 = s.word SYS 0x118 ∧
      (∀ q, q ≠ a.path →
        (∀ n, a.path ≠ .fabric n) ∨
          (s.tm.captures.filter fun c => match c.path with | .fabric m => decide (Path.fabric m ≠ a.path) | _ => false).length < 16 →
        ∀ off, t.capturedWord q off = s.capturedWord q off) ∧
      (∀ n c l, a.path = .fabric n →
        (s.tm.captures.filter fun c => match c.path with | .fabric m => decide (m ≠ n) | _ => false) = c :: l → 15 ≤ l.length →
        ∀ off, t.capturedWord c.path off = 0) ∧
      t = { s with tm := { s.tm with captures := t.tm.captures, read := now }, freeCount := s.freeCount + 1, out := t.out }

/-- R18, R88, R97: BAR2_WRITE. Each byte of the request that lies within the host pool, in a 64-byte block that no protected surface and
no work area holds, is stored; every other byte of the host pool keeps its value, and the canonical form of the sparse memory is kept.
A request with no dropped byte that meets no surface that a layer reads changes nothing else; one that stores a byte of such a surface
ends every still pool run the layer is in and makes it touched, its count of quiet frames 0 (R127). A request that meets protected storage leaves one
LEASE_VIOLATION with the first dropped address, counted in VIOL_TOTAL. R18, R465: BAR2_READ answers, byte by byte, the host pool's bytes, 0
for sealed storage and all ones beyond the host pool. A request inside the host pool that meets no sealed storage changes nothing; one
that meets sealed storage leaves one SEALED_READ with the first such offset; one that reaches beyond the host pool leaves one
ACCESS_UNMAPPED. No byte of memory changes. -/
def Obligations.HostPool : Prop :=
  (∀ (a : Nat) (bytes : List Byte) (s : State), s.pow.up = true →
    ∃ t, exec (.bar2Write a bytes) s = .next t ∧
      (∀ i b, bytes[i]? = some b → a + i < poolSize → s.guardedByte .pcie ((a + i) / 64 * 64) = false → t.byteAt (a + i) = b) ∧
      (∀ x, (x < a ∨ a + bytes.length ≤ x ∨ s.guardedByte .pcie (x / 64 * 64) = true) → t.byteAt x = s.byteAt x) ∧
      (Memory.wf s.mem = true → Memory.wf t.mem = true) ∧
      (a + bytes.length ≤ poolSize → (∀ i, i < bytes.length → s.guardedByte .pcie ((a + i) / 64 * 64) = false) →
        (∀ (l n m : Nat) (h : Shown) (f : Surf), (s.lay l).prev = some (n, m, h) → h.surf = some f →
          f.base + f.units * 65536 ≤ a ∨ a + bytes.length ≤ f.base) →
        SameButEvents s { t with mem := s.mem }) ∧
      (∀ (i l n m : Nat) (h : Shown) (f : Surf), i < bytes.length → a + i < poolSize →
        s.guardedByte .pcie ((a + i) / 64 * 64) = false → (s.lay l).prev = some (n, m, h) → h.surf = some f →
        f.base ≤ a + i → a + i < f.base + f.units * 65536 →
        (t.lay l).touched = true ∧ (t.lay l).quiet = 0 ∧ ∀ e ∈ t.cmp.runs, l ∉ e.2.members) ∧
      (∀ i, i < bytes.length → a + bytes.length ≤ poolSize → s.guardedByte .pcie ((a + i) / 64 * 64) = true →
        (∀ j, j < i → s.guardedByte .pcie ((a + j) / 64 * 64) = false) →
        t.queue LEASE = occPush (s.queue LEASE) (occRecord 0x20 0 (a + i)) ∧
        t.rd LEASE Reg.LEASE_VIOL_TOTAL = (s.rd LEASE Reg.LEASE_VIOL_TOTAL + 1) % 2 ^ 32)) ∧
  (∀ (a n : Nat) (s : State), s.pow.up = true →
    ∃ t bytes, exec (.bar2Read a n) s = .next (settle (t.emit (.memData bytes))) ∧ bytes.length = n ∧ t.mem = s.mem ∧
      (∀ i, i < n → bytes[i]? = some (if poolSize ≤ a + i then 0xFF else if s.sealedSpan (a + i) 1 then 0 else s.byteAt (a + i))) ∧
      (a + n ≤ poolSize → (∀ i, i < n → s.sealedSpan (a + i) 1 = false) → t = s) ∧
      (∀ i, i < n → a + n ≤ poolSize → s.sealedSpan (a + i) 1 = true → (∀ j, j < i → s.sealedSpan (a + j) 1 = false) →
        t = (s.occur (SEC 2) 0x20 0 (a + i)).inc (SEC 2) Reg.SEC2_SEALED_READS) ∧
      (poolSize < a + n → (∀ i, i < n → a + i < poolSize → s.sealedSpan (a + i) 1 = false) →
        t = s.occur SYS 0x10 4 (max a poolSize % 2 ^ 37)))

/-- R24: BEAT_BOUNDARY takes SYSTIME to B(n + 1) and FRAME_NO to n + 1; in a device that is held in reset but powered, with SYS_XO present, nothing
else changes, and without power or SYS_XO nothing changes at all. R25: BEAT_RATE_SWITCH takes an accepted rate change at the first
boundary of the new rate at or after the targeted boundary of the old: the new code is in force, FRAME_NO is the count of the new rate,
the change waits no longer, and BEAT_RATE_CHANGED carries the new FRAME_NO.
FRAME_NO as the model computes it from an instant is the largest n for which B(n) ≤ SYSTIME, at every beat rate of the table. -/
def Obligations.BeatBoundaries : Prop :=
  (∀ (m : Sensors) (s : State), s.pow.powered = true → s.pow.xo = true → s.pow.up = true →
    exec (.beatBoundary m) s = .next (settle ((({ s with tm := { s.tm with
      sys := beatStart s.tm.rate (s.tm.frame + 1), frame := s.tm.frame + 1 } }.laneErrors m).sense m).beatWork))) ∧
  (∀ (m : Sensors) (s : State), s.pow.powered = true → s.pow.xo = true → s.pow.up = false →
    exec (.beatBoundary m) s = .next (settle { s with tm := { s.tm with
      sys := beatStart s.tm.rate (s.tm.frame + 1), frame := s.tm.frame + 1 } })) ∧
  (∀ (m : Sensors) (s : State), s.pow.powered = false ∨ s.pow.xo = false → exec (.beatBoundary m) s = .next (settle s)) ∧
  (∀ (s : State) (code f : Nat), s.tm.rateNext = some (code, f) →
    exec .beatRateSwitch s = .next (settle (({ s with tm := { s.tm with
      sys := max s.tm.sys (beatStart code (firstBoundary s.tm.rate code f)), frame := firstBoundary s.tm.rate code f,
      rate := code, rateNext := none } }.occur SYS 0x26 0 (firstBoundary s.tm.rate code f % 2 ^ 48)).beatWork))) ∧
  (∀ old new f : Nat, old < 14 → new < 14 → 0 < f →
    beatStart old f ≤ beatStart new (firstBoundary old new f) ∧
    (∀ m, m < firstBoundary old new f → beatStart new m < beatStart old f)) ∧
  (∀ code t n : Nat, code < 14 → (beatStart code n ≤ t ↔ n ≤ beatAt code t))

/-- R30, R250, R254: RASTER_LINE_START of line `l` of a raster that scans out. SYSTIME is the line's start where that lies in the beat in
progress, tile-link packets framed by then leave, and the line after it comes next. A blanking line carries no other event but: line
V_ACTIVE latches the next frame, and 64 lines before the frame's end its composition begins, and from then on each line composes one line of
it. Line 0 sends the frame's BEATs and its KIND 3 packets. An active line is scanned out, and the line 64 after it is composed, the frame's composition ending where that is line
V_ACTIVE. At the end of a frame, the frame latched at line V_ACTIVE begins with its line 0; where ENABLE 0 was latched, the raster's last
frame has ended and is counted, unless it was the lead-in frame. R33, R87: FRAME_LEASE_RELEASE. Once the frame's last
active line has been scanned out and no encode job reads it any more, no lease table entry holds its lease, and an entry that was RETIRED
and that nothing else leases is gone; every other lease stays. Before that it does nothing. -/
def Obligations.RasterLinesAndLeases : Prop :=
  (∀ (r l : Nat) (ft : FrameTiming) (s : State), s.pow.up = true → (s.ras r).scan = some (ft, l) → l < ft.vTotal →
    let u := (s.advance (ft.lineStart l)).frameOut
    let next (t : State) : State := t.setRas r { t.ras r with scan := some (ft, l + 1) }
    (∃ t, exec (.rasterLineStart r) s = .next (settle t) ∧ (t.ras r).scan = some (ft, l + 1)) ∧
    (l = 0 → 0 < ft.vActive → 64 < ft.vTotal → (u.ras r).leadIn = true →
      exec (.rasterLineStart r) s = .next (settle (next (u.rasterBeats r ft true)))) ∧
    (l = 0 → 64 < ft.vActive → 64 < ft.vTotal → (u.ras r).leadIn = false → ∀ c c', u.frameOf r ft.frame = some c →
      let v := ((u.rasterBeats r ft false).snoopBeat r c).sendVideo r ft c
      v.frameOf r ft.frame = some c' →
      exec (.rasterLineStart r) s = .next (settle (next ((v.scanLine r 0 c').composeAt r 64 ft.vActive)))) ∧
    (ft.vActive < l → l + 64 < ft.vTotal → l ≠ 0 → exec (.rasterLineStart r) s = .next (settle (next u))) ∧
    (l = ft.vActive → l + 64 < ft.vTotal → l ≠ 0 → exec (.rasterLineStart r) s = .next (settle (next (u.latchLine r ft)))) ∧
    (ft.vActive < l → l + 64 = ft.vTotal → l ≠ 0 →
      (∀ nf, ((u.composeNext r).ras r).stopping = false → ((u.composeNext r).ras r).next = some nf →
        exec (.rasterLineStart r) s = .next (settle (next ((u.composeNext r).composeAt r 0 nf.vActive)))) ∧
      (((u.composeNext r).ras r).stopping = true →
        exec (.rasterLineStart r) s = .next (settle (next (u.composeNext r))))) ∧
    (ft.vActive < l → ft.vTotal < l + 64 → l ≠ 0 → (u.ras r).stopping = false → ∀ nf, (u.ras r).next = some nf →
      exec (.rasterLineStart r) s = .next (settle (next (u.composeAt r (l + 64 - ft.vTotal) nf.vActive)))) ∧
    (0 < l → l < ft.vActive → l + 64 < ft.vTotal → (u.ras r).leadIn = false → ∀ c, u.frameOf r ft.frame = some c →
      (l + 64 < ft.vActive →
        exec (.rasterLineStart r) s = .next (settle (next ((u.scanLine r l c).composeAt r (l + 64) ft.vActive)))) ∧
      (l + 64 = ft.vActive → exec (.rasterLineStart r) s = .next (settle (next ((u.scanLine r l c).composeEnd r)))) ∧
      (ft.vActive < l + 64 → exec (.rasterLineStart r) s = .next (settle (next (u.scanLine r l c)))))) ∧
  (∀ (r l : Nat) (ft nf : FrameTiming) (s : State), s.pow.up = true → (s.ras r).scan = some (ft, l) → ft.vTotal ≤ l →
    (s.ras r).stopping = false → (s.ras r).next = some nf →
    exec (.rasterLineStart r) s = .next (settle ((s.advance ft.stop).nextFrame r nf)) ∧
      (((s.advance ft.stop).nextFrame r nf).ras r).scan = some (nf, 1)) ∧
  (∀ (r l : Nat) (ft : FrameTiming) (s : State), s.pow.up = true → (s.ras r).scan = some (ft, l) → ft.vTotal ≤ l →
    (s.ras r).stopping = true →
    ((s.ras r).leadIn = false →
      exec (.rasterLineStart r) s = .next (settle (((s.advance ft.stop).inc (SCAN r) Reg.SCAN_RG_STATE_FRAMES).rasterEnd r))) ∧
    ((s.ras r).leadIn = true → exec (.rasterLineStart r) s = .next (settle ((s.advance ft.stop).rasterEnd r)))) ∧
  (∀ (r : Nat) (s : State), s.pow.up = true → (s.ras r).scan = none → exec (.rasterLineStart r) s = .next (settle s)) ∧
  (∀ (r f : Nat) (s : State), s.pow.up = true →
    (s.scannedOut r f = true → s.encodeReads r f = false →
      ∃ t, exec (.frameLeaseRelease r f) s = .next (settle t) ∧
        (∀ i e, (i, e) ∈ t.leases ↔ ∃ x, (i, x) ∈ s.leases ∧ e = { x with frames := x.frames.filter (· ≠ (r, f)) } ∧
          (e.retired = true → e.frames ≠ [] ∨ e.scans ≠ [])) ∧
        t = { s with leases := t.leases }) ∧
    (s.scannedOut r f = false ∨ s.encodeReads r f = true → exec (.frameLeaseRelease r f) s = .next (settle s)))

/-- R143: TONE_CURVE_COMPUTE. From the statistics of the frame just composed, the target index is one above the previous index where
KEY_BIN has reached its threshold and CURVES_M1 allows it, one below where KEY_BIN + HYST is under the threshold below, else the
previous index. The raster's page shows whether it differs from the previous index, and nothing else changes. R122, R123: COMPOSE_ERROR in a
raster with a frame being composed puts that frame into safe colour mode with cause 3
from the line being composed to its end, the latched background filling every line from there, and the whole next frame too; no block of
the frame is IDENTICAL any more. The error is recorded with its kind, and SAFE_ENTERED with cause 3 where the mode was not active. -/
def Obligations.ToneAndComposeError : Prop :=
  (∀ (r : Nat) (st : Stats) (c : Composed) (l : List Composed) (s : State), s.pow.up = true → (s.ras r).stats = some st →
    (s.ras r).composed = c :: l → st.frame = c.frame →
    ∃ u, exec (.toneCurveCompute r) s =
        .next (settle ((s.setRas r { s.ras r with tone := some u }).wr (COL r) ⟨0xC, 0, 0⟩ (b2n (u ≠ (s.ras r).curve)))) ∧
      (let last := s.rdL (COL r) Reg.COLOUR_BCAST_CFG_CURVES_M1
       let hyst := s.rdL (COL r) Reg.COLOUR_BCAST_CFG_HYST
       let thr (i : Nat) := s.lut r (s.rdL (COL r) Reg.COLOUR_BCAST_CFG_BCAST_BANK) 3 i
       let p := (s.ras r).curve
       (p < last ∧ thr p ≤ st.key → u = p + 1) ∧
       (¬ (p < last ∧ thr p ≤ st.key) → 0 < p ∧ st.key + hyst < thr (p - 1) → u + 1 = p) ∧
       (¬ (p < last ∧ thr p ≤ st.key) → ¬ (0 < p ∧ st.key + hyst < thr (p - 1)) → u = p))) ∧
  (∀ (r kind : Nat) (c : Composed) (l : List Composed) (s : State), s.pow.up = true → r < 32 →
    s.rd (SCAN r) Reg.SCAN_RG_STATE_RUNNING = 1 ∨ s.rd (SCAN r) Reg.SCAN_RG_STATE_LEAD_IN = 1 → (s.ras r).composed = c :: l →
    ∃ t d, exec (.composeError r kind) s = .next (settle t) ∧ (t.ras r).composed = d :: l ∧ (t.ras r).errNext = true ∧
      (let w := if c.lines.length = c.height then c.height else (c.lines.getLast?.map (·.1)).getD 0
       let y := (c.safeFrom.map (min · w)).getD w
       let bg : Pix := { r := c.bg.1, g := c.bg.2.1, b := c.bg.2.2, owner := 255, alpha := 0 }
       d = { c with cause := 3, errored := true, safeFrom := some y, ident := [],
                    lines := c.lines.map fun e => if y ≤ e.1 then (e.1, e.2.map fun _ => bg) else e }) ∧
      t.rd (COMP r) Reg.CRASTER_COMP_STATE_SAFE_ACTIVE = 1 ∧ t.rd (COMP r) Reg.CRASTER_COMP_STATE_SAFE_CAUSE = 3 ∧
      (let q := occPush (s.queue (COMP r)) (occRecord 0x22 kind s.frameNo)
       t.queue (COMP r) =
         if s.rd (COMP r) Reg.CRASTER_COMP_STATE_SAFE_ACTIVE = 1 then q else occPush q (occRecord 0x20 3 s.frameNo)) ∧
      SameButRecords s { t with cur := s.cur, cmp := s.cmp }) ∧
  ∀ (r kind : Nat) (s : State), s.pow.up = true →
    (s.rd (SCAN r) Reg.SCAN_RG_STATE_RUNNING = 0 ∧ s.rd (SCAN r) Reg.SCAN_RG_STATE_LEAD_IN = 0) ∨ (s.ras r).composed = [] →
    exec (.composeError r kind) s = .next (settle s)


/-! 03_frame_commits.md: arms, validation, cancellation, fabric commits, snapshots. -/

/-- R58, R60: COMMIT_ARM without CANCEL. The first case of R60 that applies rejects the arm: COMMIT_STATUS alone reports it, and no arm,
group result, COMMIT_SEQ, pending value or record changes. Where none applies, the groups of COMMIT_MASK are armed: the pending values of
every page in them are staged, VALIDATING is 1, the pending values stay, and PENDING falls in those pages and in no other one.
R64: COMMIT_CANCEL without ARM. Every local arm that holds a selected group is aborted with all of its groups, which show ABORTED;
the pending values, and the active values outside SYS, are kept. R70: a cancel of the coordinator's arm while votes are collected decides ABORT
with CANCELLED for every member, one of a member's arm before its vote votes NO with it, and one that comes after the vote or the decision
is too late and recorded so. Where no arm holds a selected group, ABORT_LATE is recorded for each
selected group and nothing else changes. -/
def Obligations.CommitArmAndCancel : Prop :=
  (∀ (a : Access) (v : Word) (s : State), Ready s a SYS → v.getLsbD 1 = false →
    let mask := s.rd SYS Reg.SYS_COMMIT_MASK
    let kind := s.rd SYS Reg.SYS_COMMIT_TARGET_KIND
    let target := s.rd SYS Reg.SYS_COMMIT_FRAME_LO + 2 ^ 32 * (s.rd SYS Reg.SYS_COMMIT_FRAME_HI % 65536)
    let r : Option Nat :=
      if s.rd SYS Reg.SYS_COMMIT_STATUS_VALIDATING = 1 then some 0x05
      else if mask = 0 then some 0x02
      else if kind = 3 ∨ (kind = 1 ∧ s.enabled (SCAN (s.rd SYS Reg.SYS_COMMIT_TARGET_RASTER)) = false) then some 0x04
      else if mask &&& s.armedMask ≠ 0 then some 0x03
      else if kind ≠ 2 ∧ s.isFenced = true then some 0x07
      else if kind = 2 ∧ (s.isCoord = false ∨ s.fab.noCoord = true) then some 0x12
      else if kind = 2 ∧ beatStart s.tm.rate (target - 2) - us 100 ≤ s.tm.sys then some 0x13
      else none
    (∀ c, r = some c → Takes (.commitArm a v) s fun t =>
      t.rd SYS Reg.SYS_COMMIT_STATUS_ARM_RESULT = 2 ∧ t.rd SYS Reg.SYS_COMMIT_STATUS_REASON = c ∧
      t.rd SYS Reg.SYS_COMMIT_STATUS_GROUP = 0 ∧
      (∀ (q : Page) (o : Nat), q.inBar0 → o < 0x1000 → (q, o) ≠ (SYS, 0x054) →
        (q, o) ≠ (SYS, 0x050) → t.word q o = s.word q o) ∧
      SameButEvents s { t with cur := s.cur }) ∧
    (r = none → Takes (.commitArm a v) s fun t => ∃ x, t.cm = { s.cm with arms := s.cm.arms ++ [x] } ∧
      x.groups = mask ∧ x.accepted = false ∧ x.remote = none ∧
      x.target = (if kind = 0 then .now else if kind = 1 then .raster (s.rd SYS Reg.SYS_COMMIT_TARGET_RASTER) else .epoch target) ∧
      (∀ (q : Page) (o : Nat), q.inBar0 → o < 0x1000 → committing q = true → bit mask (s.groupOf q) = true → (q, o) ≠ (SYS, 0x100) →
        tget (resetOf (pageBase q + o)) x.staged (pageBase q + o) = s.wordP q o) ∧
      t.rd SYS Reg.SYS_COMMIT_STATUS_VALIDATING = 1 ∧ t.pnd = s.pnd ∧ t.occ = s.occ ∧
      (∀ q : Page, q.inBar0 → q ≠ SYS →
        (pageBase q ∈ t.dirty ↔ pageBase q ∈ s.dirty ∧ bit mask (s.groupOf q) = false)))) ∧
  ∀ (a : Access) (v : Word) (s : State), Ready s a SYS → v.getLsbD 0 = false →
    let mask := s.rd SYS Reg.SYS_COMMIT_MASK
    ((∀ x ∈ s.cm.arms, ∀ f, x.target ≠ .epoch f) → Takes (.commitCancel a v) s fun t =>
      t.cm.arms = s.cm.arms.filter (fun x => x.groups &&& mask = 0) ∧
      (∀ x ∈ s.cm.arms, x.groups &&& mask ≠ 0 → ∀ k, k < 32 → bit x.groups k = true → t.rd SYS (groupResultField k) = 4) ∧
      t.pnd = s.pnd ∧ t.dirty = s.dirty ∧
      (∀ (q : Page) (o : Nat), q.inBar0 → o < 0x1000 → q ≠ SYS → t.word q o = s.word q o)) ∧
    (∃ u, ActionStored SYS 0x050 s u ∧ ∀ (x : Arm) (f : Nat) (y : FabTxn), s.cm.arms.filter (fun b => b.groups &&& mask ≠ 0) = [x] →
      x.target = .epoch f → (∀ g, bit mask g = true → bit x.groups g = true) →
      (s.cm.txns.find? fun b => b.target = f && b.mask = x.groups && (1 ≤ b.st && b.st ≤ 3)) = some y →
      (y.st = 1 → y.coordinator = s.nodeId → x.remote = none →
        exec (.commitCancel a v) s = .next (settle (u.txnDecide y y.unacked false 0x15 none))) ∧
      (y.st = 1 → x.remote ≠ none → exec (.commitCancel a v) s = .next (settle (u.voteNo y 0x15))) ∧
      (y.st ≠ 1 → ∃ t, exec (.commitCancel a v) s = .next (settle t) ∧ SameButRecords u t ∧
        t.queue SYS = (groupList (mask &&& x.groups)).foldl (fun q g => occPush q (occRecord 0x01 g s.frameNo)) (s.queue SYS))) ∧
    ((∀ x ∈ s.cm.arms, x.groups &&& mask = 0) → Takes (.commitCancel a v) s fun t =>
      t.cm = s.cm ∧ (∀ (q : Page) (o : Nat), q.inBar0 → o < 0x1000 → (q, o) ≠ (SYS, 0x050) → t.word q o = s.word q o) ∧
      t.queue SYS = (groupList mask).foldl (fun q g => occPush q (occRecord 0x01 g s.frameNo)) (s.queue SYS) ∧
      SameButRecords s { t with cur := s.cur })

/-- R59, R61, R63, R66: COMMIT_VALIDATION_DONE of the arm in validation. Failures found in a local arm reject every one of its groups:
GROUP_RESULT shows REJECTED, COMMIT_STATUS names the lowest failing group and the lowest reason in it, COMMIT_REJECTED is recorded for
every group, and neither a pending value nor an active value outside SYS changes. An arm with no failure is accepted and COMMIT_SEQ
counts it; one whose target is NOW, or a raster that does not scan out, is applied at once; one for a raster's latch waits for it, LATE where
it missed the one it named; one of an epoch begins the fabric commit. An arm of PREPARE votes YES, or NO with the lowest reason (the model's own
choice where several pages fail: assumption log 83). -/
def Obligations.CommitValidation : Prop :=
  ∀ (x : Arm) (s : State), s.pow.up = true → (s.cm.arms.find? fun a => !a.accepted) = some x →
    (s.failures x ≠ [] → (∀ e ∈ s.failures x, e.2 < 256) → x.remote = none → Takes .commitValidationDone s fun t =>
      let bad := s.failures x
      let g := t.rd SYS Reg.SYS_COMMIT_STATUS_GROUP
      let r := t.rd SYS Reg.SYS_COMMIT_STATUS_REASON
      t.rd SYS Reg.SYS_COMMIT_STATUS_ARM_RESULT = 2 ∧ (∃ e ∈ bad, s.groupAt e.1 = g ∧ e.2 = r) ∧
      (∀ e ∈ bad, g ≤ s.groupAt e.1 ∧ (s.groupAt e.1 = g → r ≤ e.2)) ∧
      (∀ k, k < 32 → bit x.groups k = true → t.rd SYS (groupResultField k) = 3) ∧
      (∀ k, k < 32 → bit x.groups k = false → t.rd SYS (groupResultField k) = s.rd SYS (groupResultField k)) ∧
      t.cm.arms = s.cm.arms.filter (fun a => a.groups ≠ x.groups) ∧ t.pnd = s.pnd ∧
      (∀ (q : Page) (o : Nat), q.inBar0 → o < 0x1000 → q ≠ SYS → t.word q o = s.word q o) ∧
      t.queue SYS = (groupList x.groups).foldl (fun q g => occPush q (occRecord 0x21 g s.frameNo)) (s.queue SYS)) ∧
    (∀ n y, s.failures x ≠ [] → (∀ e ∈ s.failures x, e.2 < 256) → x.remote = some n → s.txnOf n = some y → ∃ g r w,
      (∃ e ∈ s.failures x, s.groupAt e.1 = g ∧ e.2 = r) ∧ (∃ e ∈ s.failures x, e.2 = w) ∧
      (∀ e ∈ s.failures x, g ≤ s.groupAt e.1 ∧ (s.groupAt e.1 = g → r ≤ e.2) ∧ w ≤ e.2) ∧
        exec .commitValidationDone s = .next (settle ((s.armStatus 2 r g).voteNo y w))) ∧
    (s.failures x = [] → ∃ u : State,
      u.rd SYS Reg.SYS_COMMIT_STATUS_ARM_RESULT = 1 ∧ u.rd SYS Reg.SYS_COMMIT_STATUS_REASON = 0 ∧
      u.rd SYS Reg.SYS_COMMIT_SEQ = (s.rd SYS Reg.SYS_COMMIT_SEQ + 1) % 2 ^ 32 ∧
      u.cm.arms = s.cm.arms.map (fun c => if c.groups = x.groups then { x with accepted := true } else c) ∧
      u.pnd = s.pnd ∧ SameButEvents s { u with cur := s.cur, cm := s.cm } ∧
      (x.target = .now ∨ (∃ r, x.target = .raster r ∧ (s.ras r).scan = none) →
        exec .commitValidationDone s = .next (settle (u.applyArm { x with accepted := true }))) ∧
      (∀ r, x.target = .raster r → (s.ras r).scan ≠ none → x.late = false →
        exec .commitValidationDone s = .next (settle u)) ∧
      (∀ r, x.target = .raster r → (s.ras r).scan ≠ none → x.late = true → ∃ t,
        exec .commitValidationDone s = .next (settle t) ∧
        (∀ k, k < 32 → bit x.groups k = true → t.rd SYS (groupResultField k) = 2) ∧
        t.queue SYS = (groupList x.groups).foldl (fun q g => occPush q (occRecord 0x20 g (u.firstUse r x.due))) (s.queue SYS)) ∧
      (∀ f n y, x.target = .epoch f → x.remote = some n → u.txnOf n = some y →
        exec .commitValidationDone s = .next (settle ((u.setTxn { y with st := 2 }).commitSend y.coordinator (.vote n true 0)))) ∧
      (∀ f, x.target = .epoch f → x.remote = none →
        exec .commitValidationDone s = .next (settle (u.txnBegin { x with accepted := true } f))))

/-- R61: an arm that is applied and holds no cells, no table entries and no page whose block acts on new values (a layer or a compositor acts
where it is disabled) gives every page it holds
its staged values, in one step; every other page outside SYS and CAL (whose status registers follow) keeps its values, active and
pending, the arm is gone, its groups show APPLIED, and APPLY_FRAME is FRAME_NO. -/
def Obligations.CommitApplication : Prop :=
  ∀ (x : Arm) (s : State), x.cells = [] → x.entries = [] →
    (∀ p, s.armHolds x p = true → p.ty ∉ [PageType.ingest, .sched, .net, .wide, .tileLane, .fabPort, .mate, .aud, .scan, .sys] ∧
      (p.ty = .compLayer ∨ p.ty = .compRaster → (s.wordS x p 8).getLsbD 0 = true)) →
    (∀ (q : Page) (o : Nat), q.inBar0 → o < 0x1000 → q ≠ SYS → q.ty ≠ .cal → (s.applyArm x).word q o =
      if committing q = true ∧ s.armHolds x q = true then s.wordS x q o else s.word q o) ∧
    (s.applyArm x).pnd = s.pnd ∧ (s.applyArm x).cm.arms = s.cm.arms.filter (fun a => a.groups ≠ x.groups) ∧
    (∀ k, k < 32 → bit x.groups k = true → (s.applyArm x).rd SYS (groupResultField k) = 1) ∧
    (s.applyArm x).rd SYS Reg.SYS_APPLY_FRAME_LO = s.frameNo % 2 ^ 32 ∧
    (s.applyArm x).rd SYS Reg.SYS_APPLY_FRAME_HI_FRAME_NO = s.frameNo / 2 ^ 32

/-- R69, R70, R71, R384: the fabric commit. PREPARE that comes at or after B(F − 2), or whose arm R60 rejects, is answered with a NO and
arms nothing; any other one enters COLLECTING with the masked groups armed. The coordinator decides ABORT at the first NO and, of the
commits whose votes are missing, for the one with the earliest target at its vote deadline, COMMIT when the last vote is YES, and repeats its decision to every member that has not acknowledged, until
B(F − 1). A voted member takes the decision and acknowledges it; an ACK ends the repeats. At B(F − 1) a committed member applies and takes
the decision's CONFIG_EPOCH plus 1. A member that voted and holds no decision then applies nothing, its staging is gone, its groups end
ABORTED with COMMIT_ABORTED for each of them, it records DECISION_MISSING, and it is fenced. -/
def Obligations.FabricCommit : Prop :=
  ∀ (p : Nat) (f : FabFrame) (s : State),
    (∀ txn mask target n, ArrivesRouted s p f → f.body = .prepare txn mask target n → txn < 65536 → mask < 2 ^ 32 →
      (∀ x ∈ s.cm.arms, x.groups ≠ 0) →
      let late := decide (beatStart s.tm.rate (target - 2) ≤ s.tm.sys)
      let no := if late then some 0x13 else (s.checked p f).armRefused mask (some (.epoch target)) true
      (∀ r, no = some r → r < 64 → ∃ u : State,
        exec (.fabPrepareReceived p f) s = .next (settle ((u.commitSend f.src (.vote txn false r)).fabFree p f)) ∧
        u.cm.arms = s.cm.arms ∧ u.rd SYS Reg.SYS_FAB_COMMIT_STATE_STATE = 5 ∧ u.rd SYS Reg.SYS_FAB_COMMIT_STATE_TXN = txn ∧
        u.rd SYS Reg.SYS_FAB_COMMIT_INFO_ABORT_REASON = r ∧ u.rd SYS Reg.SYS_FAB_COMMIT_INFO_FIRST_NO_VALID = 1 ∧
        u.rd SYS Reg.SYS_FAB_COMMIT_INFO_FIRST_NO = s.nodeId % 4096 ∧
        u.queue SYS = occPush (s.queue SYS) (occRecord 0x23 r (txn * 2 ^ 32 + 4096 + s.nodeId % 4096))) ∧
      (no = none → Takes (.fabPrepareReceived p f) s fun t =>
        t.rd SYS Reg.SYS_FAB_COMMIT_STATE_STATE = 1 ∧ t.rd SYS Reg.SYS_FAB_COMMIT_STATE_TXN = txn ∧
        (∃ x, t.cm.arms = s.cm.arms ++ [x] ∧ x.groups = mask ∧ x.target = .epoch target ∧ x.accepted = false ∧ x.remote = some txn) ∧
        t.pnd = s.pnd)) ∧
    (∀ txn yes reason x l, ArrivesRouted s p f → f.body = .vote txn yes reason → s.cm.txns = x :: l → x.txn = txn → x.st = 1 →
      x.coordinator = s.nodeId → f.src ∈ x.unvoted → Takes (.fabVoteReceived p f) s fun t =>
        let left := x.unvoted.filter (· ≠ f.src)
        let epoch := s.rd SYS Reg.SYS_CONFIG_EPOCH
        t.cm.txns.head? = some
          (if yes = false then { x with unvoted := left, st := 5, decision := some (false, reason, some f.src, epoch) }
           else if left = [] then { x with unvoted := left, st := 3, decision := some (true, 0, none, epoch) }
           else { x with unvoted := left }) ∧ (yes = true → t.cm.arms = s.cm.arms)) ∧
    (∀ x, s.pow.up = true → s.voteLate = [x] → ∃ u : State,
      exec .fabVoteDeadline s = .next (settle (u.each x.unacked fun t n =>
        t.commitSend n (.decision x.txn false 0x14 (s.rd SYS Reg.SYS_CONFIG_EPOCH) 0xFFFF))) ∧
      u.txnOf x.txn = some { x with st := 5, decision := some (false, 0x14, none, s.rd SYS Reg.SYS_CONFIG_EPOCH) } ∧
      (∀ a, s.txnArm x = some a → u.cm.arms = s.cm.arms.filter (fun y => y.groups ≠ a.groups)) ∧ u.pnd = s.pnd) ∧
    (∀ x, x ∈ s.voteLate ↔ x ∈ s.cm.txns ∧ x.st = 1 ∧ x.coordinator = s.nodeId ∧ x.unvoted ≠ [] ∧
      ∀ y ∈ s.cm.txns, y.st = 1 → y.coordinator = s.nodeId → y.unvoted ≠ [] → x.target ≤ y.target) ∧
    (∀ x c r e first, s.pow.up = true → s.cm.txns = [x] → x.coordinator = s.nodeId → x.decision = some (c, r, first, e) →
      exec .fabDecisionRepeat s = .next (settle (if s.frameNo + 1 < x.target then
        s.each x.unacked fun u n => u.commitSend n (.decision x.txn c r e (first.getD 0xFFFF)) else s))) ∧
    (∀ txn c reason config first x, ArrivesRouted s p f → f.body = .decision txn c reason config first → s.txnOf txn = some x →
      x.st = 2 → x.decision = none → s.rd SYS Reg.SYS_CONFIG_EPOCH = config → ∃ u : State,
        exec (.fabDecisionReceived p f) s = .next (settle (((u.commitSend f.src (.ack txn)).mateSettle).fabFree p f)) ∧
        (u.txnOf txn).map (·.st) = some (if c then 3 else 5) ∧ u.cm.fenced = s.cm.fenced ∧ u.pnd = s.pnd ∧
        (c = true → u.cm.arms = s.cm.arms) ∧
        (c = false → ∀ a, s.txnArm x = some a → u.cm.arms = s.cm.arms.filter (fun y => y.groups ≠ a.groups))) ∧
    (∀ txn x, ArrivesRouted s p f → f.body = .ack txn → s.txnOf txn = some x → x.coordinator = s.nodeId →
      Takes (.fabAckReceived p f) s fun t => t.txnOf txn = some { x with unacked := x.unacked.filter (· ≠ f.src) }) ∧
    (∀ x a first reason epoch, s.pow.up = true → s.cm.txns = [x] → x.target ≤ s.frameNo + 1 → x.st = 3 →
      x.decision = some (true, reason, first, epoch) → s.txnArm x = some a → ∃ u : State,
        exec .fabCommitApply s = .next (settle u.coordSync.mateSettle) ∧ u.rd SYS Reg.SYS_CONFIG_EPOCH = (epoch + 1) % 2 ^ 32 ∧
        u.cm.fenced = false ∧ u.cm.arms = (s.applyArm a).cm.arms ∧ u.pnd = (s.applyArm a).pnd) ∧
    (∀ x a, s.pow.up = true → s.cm.txns = [x] → x.target ≤ s.frameNo + 1 → x.st = 2 → s.txnArm x = some a → ∃ u : State,
      exec .fabCommitApply s = .next (settle u.mateSettle) ∧ u.cm.fenced = true ∧ u.rd SYS Reg.SYS_FAB_COMMIT_STATE_STATE = 5 ∧
      u.cm.arms = s.cm.arms.filter (fun y => y.groups ≠ a.groups) ∧ u.pnd = s.pnd ∧
      (∀ k, k < 32 → bit a.groups k = true → u.rd SYS (groupResultField k) = 4) ∧
      (∀ (q : Page) (o : Nat), q.inBar0 → o < 0x1000 → q ≠ SYS → u.word q o = s.word q o) ∧
      u.queue SYS =
        let aborted := (groupList a.groups).foldl (fun q g => occPush q (occRecord 0x22 g s.frameNo)) (s.queue SYS)
        let missing := occPush aborted (occRecord 0x24 0 (x.txn % 2 ^ 16 * 2 ^ 32 + x.target % 2 ^ 32))
        if s.cm.fenced then missing else occPush missing (occRecord 0x27 1 s.frameNo))

/-- R74, R75, R76: the snapshot. START while none runs selects the capture beat: the next one, or SNAP_FRAME. A reserved mode, a fabric
snapshot on a device that is not the coordinator, or a buffer beyond the host pool ends it FAILED and records nothing; a beat that is not in
the future ends it FAILED with SNAP_LATE. Else a capture for that beat runs, and in FABRIC mode SNAP(S) goes to every other member. SNAP(S)
starts a member's capture before B(S − 2), where its own buffer lies in the host pool; else the member's capture is FAILED, with SNAP_LATE
where it came too late; a member whose own snapshot runs records START_BUSY. At B(S) every register is captured; when the buffer has been
written, the operation ends DONE. An abort before the capture ends it ABORTED with no page written. -/
def Obligations.Snapshot : Prop :=
  ∀ (a : Access) (v : Word) (s : State),
    (Ready s a SYS → v.getLsbD 1 = false → s.opState SYS snapOp ≠ 1 →
      let m := s.rd SYS Reg.SYS_SNAP_MODE % 4
      let n := if m = 0 then s.frameNo + 1 else s.rd SYS Reg.SYS_SNAP_FRAME_LO + 2 ^ 32 * (s.rd SYS Reg.SYS_SNAP_FRAME_HI % 65536)
      let never := m = 3 ∨ (m = 2 ∧ (s.isCoord = false ∨ s.fab.noCoord = true)) ∨ poolSize < s.snapBase + snapBytes
      (never → Takes (.snapStart a v) s fun t => t.opState SYS snapOp = 4 ∧ t.cm = s.cm ∧ t.occ = s.occ) ∧
      (¬ never → n ≤ s.frameNo → Takes (.snapStart a v) s fun t => t.opState SYS snapOp = 4 ∧ t.cm = s.cm ∧
        t.queue SYS = occPush (s.queue SYS) (occRecord 0x25 0 s.frameNo)) ∧
      (¬ never → s.frameNo < n → ∃ u : State, u.opState SYS snapOp = 1 ∧ u.occ = s.occ ∧ u.pnd = s.pnd ∧ u.fab = s.fab ∧
        (u.cm.snap.map fun x => (x.beat, x.base, x.captured)) = some (n, s.snapBase, none) ∧
        exec (.snapStart a v) s =
          .next (settle (if m = 2 then u.each s.fab.members fun t e => t.commitSend e.1 (.snap n) else u)))) ∧
    (Ready s a SYS → v.getLsbD 0 = false → s.opState SYS snapOp = 1 → (∀ x, s.cm.snap = some x → x.captured = none) →
      Takes (.snapAbort a v) s fun t => t.opState SYS snapOp = 3 ∧ t.cm.snap = none ∧ t.mem = s.mem ∧ t.occ = s.occ) ∧
    (∀ p f n, ArrivesRouted s p f → f.body = .snap n →
      (s.opState SYS snapOp = 1 → Takes (.snapMessageReceived p f) s fun t => t.cm = s.cm ∧
        t.queue SYS = occPush (s.queue SYS) (occRecord 0x02 0 s.frameNo)) ∧
      (s.opState SYS snapOp ≠ 1 → poolSize < s.snapBase + snapBytes → Takes (.snapMessageReceived p f) s fun t =>
        t.opState SYS snapOp = 4 ∧ t.cm = s.cm ∧ t.queue SYS = s.queue SYS)) ∧
    (∀ p f n, ArrivesRouted s p f → f.body = .snap n → s.opState SYS snapOp ≠ 1 → s.snapBase + snapBytes ≤ poolSize →
      Takes (.snapMessageReceived p f) s fun t =>
        (s.tm.sys < beatStart s.tm.rate (n - 2) → t.opState SYS snapOp = 1 ∧ (t.cm.snap.map (·.beat)) = some n ∧ t.occ = s.occ) ∧
        (beatStart s.tm.rate (n - 2) ≤ s.tm.sys → t.opState SYS snapOp = 4 ∧ t.cm = s.cm ∧
          t.queue SYS = occPush (s.queue SYS) (occRecord 0x25 0 s.frameNo))) ∧
    (∀ x, s.pow.up = true → s.opState SYS snapOp = 1 → s.cm.snap = some x → x.captured = none → x.beat ≤ s.frameNo →
      exec .snapCapture s = .next (settle { s with cm := { s.cm with
        snap := some { x with captured := some (s.snapWords x.role, s.snapHeader s.frameNo) } } })) ∧
    (∀ x c, s.pow.up = true → s.cm.snap = some x → x.captured = some c → Takes .snapWriteDone s fun t =>
      t.opState SYS snapOp = 2 ∧ t.rd SYS ⟨snapOp, 31, 8⟩ = 1786 ∧ t.cm.snap = none ∧ t.pnd = s.pnd ∧ t.cm.arms = s.cm.arms)

/-! 04_ingest_buffers.md, 14_network_transport.md: receive and ingest. -/

/-- R325, R328: ETH_FRAME_RECEIVED. A port that is disabled or without LINK takes no frame; a LOOPED one counts it and no more. Else the first
check that a frame fails decides: FCS, length, 802.1AE where the port uses it, VLAN and addresses and checksums, the match, the policer,
SRTP, RTP; it counts the frame once in that check's count, and nothing reaches a stream. Control traffic goes to the port's firmware. A frame
that passes, its length taken from the policer's tokens, reaches the streams of the lowest matching flow. -/
def Obligations.EthernetReceive : Prop :=
  ∀ (p t : Nat) (f : EthFrame) (s0 : State), s0.pow.up = true →
    let s := s0.advance t
    let x := p / 32
    let good := s.inc (NET p) Reg.NET_RX_FRAMES
    let out (u : State) : Prop := exec (.ethFrameReceived p t f) s0 = .next (settle (u.ancSend x))
    (s.rd (NET p) Reg.NET_PORT_STATE_LINK = 0 ∨ s.enabled (NET p) = false → out s) ∧
    (s.rd (NET p) Reg.NET_PORT_STATE_LINK = 1 → s.enabled (NET p) = true →
    (f.fcsOk = false → out (s.inc (NET p) Reg.NET_RX_ERRORS_FCS)) ∧
    (f.fcsOk = true → s.rd (NET p) Reg.NET_PORT_CFG_MAX_FRAME < f.length → out (good.inc (NET p) ⟨0x50, 31, 16⟩)) ∧
    (f.fcsOk = true → f.length ≤ s.rd (NET p) Reg.NET_PORT_CFG_MAX_FRAME → s.rd (NET p) Reg.NET_PORT_STATE_LOOPED = 1 → out good) ∧
    (f.fcsOk = true → f.length ≤ s.rd (NET p) Reg.NET_PORT_CFG_MAX_FRAME → s.rd (NET p) Reg.NET_PORT_STATE_LOOPED = 0 →
      s.rd (NET p) Reg.NET_PORT_CFG_MACSEC = 1 → good.macsecAccept p f.tag = none → out (good.inc (NETG x) Reg.NETG_MACSEC_DROP)) ∧
    (f.fcsOk = true → f.length ≤ s.rd (NET p) Reg.NET_PORT_CFG_MAX_FRAME → s.rd (NET p) Reg.NET_PORT_STATE_LOOPED = 0 →
      s.rd (NET p) Reg.NET_PORT_CFG_MACSEC = 0 →
      (s.frameBad p f = true → out (good.inc (NETG x) Reg.NETG_RX_BAD)) ∧
      (∀ c, s.frameBad p f = false → f.control = some c → out (good.controlFrame p c)) ∧
      (s.frameBad p f = false → f.control = none → (∀ i, i < 512 → s.flowMatch p i f = false) →
        out (good.inc (NETG x) Reg.NETG_RX_UNMATCHED)) ∧
      (∀ i, s.frameBad p f = false → f.control = none → i < 512 → s.flowMatch p i f = true →
        (∀ j, j < i → s.flowMatch p j f = false) →
        let w0 := s.netWord x 1 i 0
        (512 ≤ bits w0 25 16 → f.rtp = none → out (good.inc (NETG x) Reg.NETG_RX_BAD)) ∧
        (∀ k, 512 ≤ bits w0 25 16 → f.rtp = some k → bit w0 7 = false → k.version = 2 → k.pt = bits (s.netWord x 1 i 1) 22 16 →
          out (good.deliver p i k)) ∧
        (∀ k, 512 ≤ bits w0 25 16 → f.rtp = some k → bit w0 7 = false → k.version ≠ 2 → out (good.inc (NETG x) Reg.NETG_RX_BAD)) ∧
        (∀ k, 512 ≤ bits w0 25 16 → f.rtp = some k → bit w0 7 = true → k.authOk = false →
          out (good.inc (NETG x) Reg.NETG_SRTP_AUTH_FAIL)) ∧
        (∀ k, bits w0 25 16 < 512 → f.length * 8192000000 ≤ s.policerTokens x (bits w0 25 16) → f.rtp = some k → bit w0 7 = false →
          k.version = 2 → k.pt = bits (s.netWord x 1 i 1) 22 16 → ∃ u : State, out (u.deliver p i k) ∧
            tfind u.net.tokens (x * 512 + bits w0 25 16) =
              some (s.policerTokens x (bits w0 25 16) - f.length * 8192000000, s.tm.sys) ∧
            u.netWord x 3 (bits w0 25 16) 3 = (s.netWord x 3 (bits w0 25 16) 3 + 1) % 2 ^ 32 ∧
            u.cur = good.cur ∧ u.ing = s.ing ∧ u.mem = s.mem) ∧
        (bits w0 25 16 < 512 → s.policerTokens x (bits w0 25 16) < f.length * 8192000000 →
          s.netWord x 3 (bits w0 25 16) 2 % 2 = 0 → ∃ u : State, out u ∧
            u.rd (NETG x) Reg.NETG_POLICED_DROP = (s.rd (NETG x) Reg.NETG_POLICED_DROP + 1) % 2 ^ 32 ∧ u.ing = s.ing ∧ u.mem = s.mem))))

/-- R82, R95: INGEST_FRAME_PUBLISH of a fill whose marker packet has come and whose active lines are all in HBM makes its slot the
newest published one, with VALID 1 and FILLING 0, and counts it; a fill that is not complete is left as it is. INGEST_NO_SIGNAL and
INGEST_PATH_DOWN set their levels on an enabled stream, the latter only with DUAL_PATH. -/
def Obligations.IngestFrames : Prop :=
  ∀ (i : Nat) (s : State), s.pow.up = true →
    (s.fillComplete i = false → exec (.ingestFramePublish i) s = .next (settle s)) ∧
    (∀ k, s.fillComplete i = true → (s.stream i).ring.fill = some k → Takes (.ingestFramePublish i) s fun t =>
      t.rd (ING i) Reg.INGEST_NEWEST_NEWEST_SLOT = k % 16 ∧ t.rd (ING i) Reg.INGEST_NEWEST_VALID = 1 ∧
      t.rd (ING i) Reg.INGEST_NEWEST_FILLING = 0 ∧
      t.rd (ING i) Reg.INGEST_PROGRESS_PUBLISHED = (s.rd (ING i) Reg.INGEST_PROGRESS_PUBLISHED + 1) % 2 ^ 16 ∧
      (t.stream i).ring.newest = some k ∧ (t.stream i).ring.fill = none ∧
      tfind (t.stream i).ring.order k = some (s.stream i).ring.nextOrder ∧
      (∀ j, j ≠ i → t.stream j = s.stream j) ∧ SameButEvents s { t with cur := s.cur, ing := s.ing, leases := s.leases }) ∧
    (exec (.ingestNoSignal i) s = .next (settle (if s.enabled (ING i) then s.wr (ING i) ⟨0x00C, 0, 0⟩ 1 else s))) ∧
    (∀ b : Bool, exec (.ingestPathDown i b) s = .next (settle
      (if s.enabled (ING i) = true ∧ s.rd (ING i) Reg.INGEST_STREAM_CFG_DUAL_PATH = 1 then
        s.wr (ING i) ⟨0x00C, if b then 2 else 1, if b then 2 else 1⟩ 1 else s)))

/-! 05_composition.md, 06_colour_tone.md, 11_scanout.md: loadable tables. -/

/-- R110, R111, R112: COEF_DATA_WRITE stores the low 12 bits in the coefficient that COEF_INDEX selects, and INDEX advances, 895 going to
0; a coefficient of a bank in use is not written and INDEX still advances; an INDEX beyond the bank is ACCESS_UNMAPPED and changes
nothing else. R142: LUT_DATA_WRITE likewise, with the entry's width and the table's size; a write of STATS is ACCESS_RO_WRITE. -/
def Obligations.CoefficientsAndLuts : Prop :=
  ∀ (a : Access) (x : Nat) (v : Word) (s : State),
    (x < 48 → Ready s a (SCALER x) →
      let i := s.rd (SCALER x) Reg.SCALER_COEF_INDEX_INDEX
      let bank := s.rd (SCALER x) Reg.SCALER_COEF_INDEX_COEF_BANK
      (896 ≤ i → exec (.coefDataWrite a x v) s = .next (settle (s.faulted a 0x10 true (pageBase (SCALER x) + 0x48)))) ∧
      (i < 896 → Takes (.coefDataWrite a x v) s fun t =>
        t.rd (SCALER x) Reg.SCALER_COEF_INDEX_INDEX = (if i = 895 then 0 else i + 1) ∧
        t.coefBits x bank i = (if s.coefInUse x bank then s.coefBits x bank i else v.toNat % 4096) ∧
        (∀ k b j, k < 48 → b < 2 → j < 896 → (k, b, j) ≠ (x, bank, i) → t.coefBits k b j = s.coefBits k b j) ∧
        (s.coefInUse x bank = false → t.occ = s.occ ∧
          t.rd (SCALER x) ⟨0x4C, 4 * bank + 3, 4 * bank⟩ = t.bankValid x bank) ∧
        (s.coefInUse x bank = true → t.queue (SCALER x) = occPush (s.queue (SCALER x)) (occRecord 0x20 bank i)))) ∧
    (x < 32 → Ready s a (COL x) →
      let i := (s.lutPort x).1
      let table := (s.lutPort x).2.1
      let bank := (s.lutPort x).2.2
      (lutSize table ≤ i → exec (.lutDataWrite a x v) s = .next (settle (s.faulted a 0x10 true (pageBase (COL x) + 0x54)))) ∧
      (i < lutSize table → table = 4 →
        exec (.lutDataWrite a x v) s = .next (settle (s.faulted a 0x12 true (pageBase (COL x) + 0x54)))) ∧
      (i < lutSize table → table ≠ 4 → Takes (.lutDataWrite a x v) s fun t =>
        t.rd (COL x) Reg.COLOUR_LUT_INDEX_INDEX = (i + 1) % lutSize table ∧
        t.lut x bank table i = (if s.lutInUse x table bank then s.lut x bank table i else v.toNat % 2 ^ lutWidth table) ∧
        (∀ r b w j, r < 32 → b < 2 → w < 4 → j < 131072 → (r, b, w, j) ≠ (x, bank, table, i) → t.lut r b w j = s.lut r b w j) ∧
        SameButRecords s { t with cur := s.cur, cmp := { t.cmp with lut := s.cmp.lut } }))

/-- R144: STATS_CAPTURE_READ. A read of STATS index 0 captures the last completed statistics and answers the first bin of the capture;
statistics of a sealed frame read 0 to every role below OWNER. -/
def Obligations.StatisticsCapture : Prop :=
  ∀ (a : Access) (r : Nat) (x : Stats) (s : State), r < 32 → Readable s a (COL r) → s.rd (COL r) Reg.COLOUR_LUT_INDEX_TABLE = 4 →
    s.rd (COL r) Reg.COLOUR_LUT_INDEX_INDEX = 0 → (s.ras r).stats = some x → ∃ (u : State) (d : Nat),
      exec (.statsCaptureRead a r) s = .next (settle (u.emit (.readData (BitVec.ofNat 32 d)))) ∧
      (u.ras r).captured = some x ∧
      (x.isSealed = false ∨ s.roleOf a = some .owner → d = tget 0 x.hist 0) ∧
      (x.isSealed = true → s.roleOf a ≠ some .owner → s.roleOf a ≠ some .factory → d = 0) ∧
      (∀ q, q ≠ r → u.ras q = s.ras q) ∧ u.cur = s.cur ∧ u.occ = s.occ ∧ u.out = s.out

/-- R261, R265, R267: TILE_MAP_DATA_WRITE stores a word of the entry of TILE_MAP, CHECK_RECT or THERMAL that TBL_INDEX selects, unless the
entry or its bank is in use, which records TABLE_BUSY, and advances WORD, then INDEX, wrapping, in both cases. An INDEX beyond the table is
ACCESS_UNMAPPED, a write of CHECK_RESULT or of words 2 and 3 of THERMAL ACCESS_RO_WRITE, and nothing else changes.
CAL_DATA_WRITE stores a word of a calibration cell that is not referenced, at once; a referenced
cell's word goes to its pending copy and the active cell stays, unless 4,096 cells are pending, which records the cell; WORD advances, then
CELL, modulo 2²⁰. A cell of the other chiplet, or a WORD above 5, is ACCESS_UNMAPPED. -/
def Obligations.TileMapAndCells : Prop :=
  ∀ (a : Access) (x : Nat) (v : Word) (s : State), x < 2 →
    (Ready s a (MAP x) →
      let tb := s.rd (MAP x) Reg.MAP_TBL_INDEX_TABLE
      let i := s.rd (MAP x) Reg.MAP_TBL_INDEX_INDEX
      let w := s.rd (MAP x) Reg.MAP_TBL_INDEX_WORD
      let size := match tb with | 0 => 8192 | 1 => 256 | 2 => 4096 | _ => 128
      let at' (t : State) (e k : Nat) : Nat := match tb with
        | 0 => t.mapWord x e k
        | 1 => (tget [] t.scn.rects (x * 256 + e)).getD k 0
        | _ => (tget [] t.scn.thermal (x * 4096 + e)).getD k 0
      let busy := match tb with
        | 0 => s.mapInUse x i
        | 1 => s.rectInUse (16 * x + i / 16) (i / 8 % 2)
        | _ => s.thermInUse x (i / 2048)
      (size ≤ i → exec (.tileMapDataWrite a x v) s = .next (settle (s.faulted a 0x10 true (pageBase (MAP x) + 0x44)))) ∧
      (i < size → tb = 3 ∨ (tb = 2 ∧ 2 ≤ w) →
        exec (.tileMapDataWrite a x v) s = .next (settle (s.faulted a 0x12 true (pageBase (MAP x) + 0x44)))) ∧
      (i < size → tb ≠ 3 → (tb = 2 → w < 2) → Takes (.tileMapDataWrite a x v) s fun t =>
        (busy = false → at' t i w = v.toNat ∧ t.occ = s.occ ∧ (∀ k, k < (if tb = 2 then 2 else 4) → k ≠ w → at' t i k = at' s i k) ∧
          (∀ e k, e ≠ i → e < size → at' t e k = at' s e k)) ∧
        (busy = true → t.scn = s.scn ∧ t.queue (MAP x) = occPush (s.queue (MAP x)) (occRecord 0x20 tb i)) ∧
        t.rd (MAP x) Reg.MAP_TBL_INDEX_WORD = (w + 1) % 4 ∧
        t.rd (MAP x) Reg.MAP_TBL_INDEX_INDEX = (if w = 3 then (i + 1) % size else i) ∧
        SameButRecords s { t with cur := s.cur, scn := s.scn })) ∧
    (Ready s a (CAL x) →
      let c := s.rd (CAL x) Reg.CAL_CAL_INDEX_CELL
      let w := s.rd (CAL x) Reg.CAL_CAL_INDEX_WORD
      (c / 524288 ≠ x ∨ 5 < w → exec (.calDataWrite a x v) s = .next (settle (s.faulted a 0x10 true (pageBase (CAL x) + 0x44)))) ∧
      (c / 524288 = x → w ≤ 5 → Takes (.calDataWrite a x v) s fun t =>
        (s.cellReferenced c = false → (t.cell c).getD w 0 = v.toNat ∧ t.scn.cellPend = s.scn.cellPend) ∧
        (s.cellReferenced c = true → t.cell c = s.cell c) ∧
        (s.cellReferenced c = true → (s.pendCells x).length < 4096 →
          (tfind t.scn.cellPend c).map (·.getD w 0) = some v.toNat ∧ pageBase (CAL x) ∈ t.dirty) ∧
        (s.cellReferenced c = true → tfind s.scn.cellPend c = none → 4096 ≤ (s.pendCells x).length →
          t.scn = s.scn ∧ t.queue (CAL x) = occPush (s.queue (CAL x)) (occRecord 0x20 0 c)) ∧
        (∀ k, k ≠ c → t.cell k = s.cell k) ∧
        t.rd (CAL x) Reg.CAL_CAL_INDEX_WORD = (if w < 5 then w + 1 else 0) ∧
        t.rd (CAL x) Reg.CAL_CAL_INDEX_CELL = (if w < 5 then c else (c + 1) % 2 ^ 20)))

/-- R268: the calibration load. START of a load whose source lies in the host pool and whose cells lie in this chiplet, none of them
referenced, runs; a COUNT of 0 or above 524,288, a source beyond the host pool, a cell of the other chiplet, or a referenced cell ends it
FAILED; a START while one runs records START_BUSY. CAL_LOAD_DONE ends a running load DONE with COUNT as its progress and every cell as the
source holds it, no other cell changed; an abort leaves it ABORTED, no load in progress and every cell outside the load as it was. -/
def Obligations.CalibrationLoad : Prop :=
  ∀ (a : Access) (x : Nat) (v : Word) (s : State), x < 2 →
    let src := s.rd (CAL x) Reg.CAL_LOAD_SRC % 2 ^ 21
    let first := s.rd (CAL x) Reg.CAL_LOAD_FIRST % 2 ^ 20
    let n := s.rd (CAL x) Reg.CAL_LOAD_COUNT % 2 ^ 20
    (Ready s a (CAL x) → v.getLsbD 1 = false → s.opState (CAL x) 0x58 ≠ 1 → 0 < n → n ≤ 524288 → src * 65536 + 24 * n ≤ poolSize →
      first / 524288 = x → (first + n - 1) / 524288 = x → (∀ k, k < n → s.cellReferenced (first + k) = false) →
      Takes (.calLoadStart a x v) s fun t => t.opState (CAL x) 0x58 = 1 ∧ tfind t.scn.loads x = some (src, first, n) ∧
        t.scn.cells = s.scn.cells ∧ t.occ = s.occ) ∧
    (Ready s a (CAL x) → v.getLsbD 1 = false → s.opState (CAL x) 0x58 ≠ 1 →
      n = 0 ∨ 524288 < n ∨ poolSize < src * 65536 + 24 * n ∨ first / 524288 ≠ x ∨ (first + n - 1) / 524288 ≠ x ∨
        (∃ k, k < n ∧ s.cellReferenced (first + k) = true) →
      Takes (.calLoadStart a x v) s fun t => t.opState (CAL x) 0x58 = 4 ∧ t.scn = s.scn ∧ t.occ = s.occ) ∧
    (Ready s a (CAL x) → v.getLsbD 1 = false → s.opState (CAL x) 0x58 = 1 → Takes (.calLoadStart a x v) s fun t =>
      t.scn = s.scn ∧ t.queue (CAL x) = occPush (s.queue (CAL x)) (occRecord 0x02 0 s.frameNo)) ∧
    (∀ b f k, s.pow.up = true → s.opState (CAL x) 0x58 = 1 → tfind s.scn.loads x = some (b, f, k) → k < 2 ^ 24 →
      Takes (.calLoadDone x) s fun t => t.opState (CAL x) 0x58 = 2 ∧ t.rd (CAL x) Reg.CAL_OP_STATUS_PROGRESS = k ∧
        (∀ j, j < k → t.cell (f + j) = s.cellAt (b * 65536 + 24 * j)) ∧ (∀ c, c < f ∨ f + k ≤ c → t.cell c = s.cell c) ∧
        tfind t.scn.loads x = none ∧ t.mem = s.mem) ∧
    (∀ e, Ready s a (CAL x) → v.getLsbD 0 = false → s.opState (CAL x) 0x58 = 1 → tfind s.scn.loads x = some e →
      Takes (.calLoadAbort a x v) s fun t => t.opState (CAL x) 0x58 = 3 ∧ tfind t.scn.loads x = none ∧
        (∀ c, c < e.2.1 ∨ e.2.1 + e.2.2 ≤ c → t.cell c = s.cell c))

/-! 07_encoder_pipeline.md, 08_rate_control.md, 09_guided_coding.md: rows, jobs, engines. -/

/-- R155, R167, R169, R226: ROW_HANDOFF hands off a channel's next row once its source lines and hints are complete, and not before.
PIXEL_JOB_DISPATCH and AFFINITY_WAIT_EXPIRY start, of the jobs that wait, one that has an engine and that no other such job precedes in
the order of R167 (age, channel, row, tile column), or nothing; one job starts in a cycle. ANALYSIS_PUBLISH adds the job's tile column to
those published, gives the job's analysis to the pictures of the ladder's other rungs, and counts the row with the last column.
PIXEL_JOB_COMPLETE frees the engine and keeps the job's results, with their exact sizes, before rows are released; it counts
the engine's busy cycles, job and cache misses (R173), and writes nothing outside the channel's work area. It waits while an error on the engine comes in the same cycle (R168), and where the HEVC job above it has not
completed (R162). -/
def Obligations.PixelJobs : Prop :=
  ∀ (t : Nat) (s0 : State), s0.pow.up = true →
    let s := s0.advance t
    (∀ c p r f, (s.chan c).nextHandoff = some (p, r) → p.overrun = false →
      ((s.ras (encField p.words Reg.ENC_CH_CFG_RASTER)).composed.find? fun f => f.frame = p.frame) = some f →
      (rowComposed f p.geo r = false → exec (.rowHandoff c t) s0 = .next (settle s)) ∧
      (rowComposed f p.geo r = true → Takes (.rowHandoff c t) s0 fun u =>
        ((u.chan c).pic p.number).map (fun q => (q.row r).handed) = some (some s.tm.sys) ∧
        (∀ k, k ≠ c → u.chan k = s.chan k) ∧ u.pnd = s.pnd)) ∧
    (∀ c, c = Instr.pixelJobDispatch t ∨ c = Instr.affinityWaitExpiry t →
      ((∀ j ∈ s.enc.waiting, s.engineFor j = none) ∨ s.enc.sentPixel = tskCycle s.tm.sys + 1 → exec c s0 = .next (settle s)) ∧
      ((∃ j ∈ s.enc.waiting, s.engineFor j ≠ none) → s.enc.sentPixel ≠ tskCycle s.tm.sys + 1 → ∃ j e, j ∈ s.enc.waiting ∧ s.engineFor j = some e ∧
        (∀ k ∈ s.enc.waiting, s.engineFor k ≠ none → jobBefore k j = false) ∧
        (let v := s.startJob j e
         exec c s0 = .next (settle ({ v with enc := { v.enc with sentPixel := tskCycle v.tm.sys + 1 } } : State).encSettle)) ∧
        (∀ p, (s.chan j.ch).pic j.picture = some p → tfind (s.startJob j e).enc.pixel e = some (j, s.tm.sys) ∧
          j ∉ (s.startJob j e).enc.waiting ∧ tfind ((s.startJob j e).chan j.ch).preferred (j.row * 16 + j.col) = some e))) ∧
    (∀ e j t0 p l, tfind s.enc.pixel e = some (j, t0) → (s.chan j.ch).rung = some (l, 0) → (s.chan j.ch).pic j.picture = some p →
      j.row < p.rows.length → ∃ u : State, exec (.analysisPublish e t) s0 = .next (settle u.encSettle) ∧
        ((u.chan j.ch).pic j.picture).map (fun q => (q.row j.row).published) = some (sins j.col (p.row j.row).published) ∧
        u.enc.pixel = s.enc.pixel ∧
        (∀ k i q, k ≠ j.ch → (s.enc.channels.map (·.1)).Nodup → (s.chan k).rung = some (l, i) → i ≠ 0 →
          (s.chan k).pic p.number = some q → (u.chan k).pic p.number =
            some (q.analyse (if p.overrun then [] else p.analysisOf (s.chan j.ch) j.row j.col))) ∧
        u.rd (LADDER l) Reg.LADDER_ROWS_ANALYSED = (s.rd (LADDER l) Reg.LADDER_ROWS_ANALYSED +
          (if p.geo.cols ≤ (sins j.col (p.row j.row).published).length ∧ (p.row j.row).published.length < p.geo.cols then 1 else 0)) % 2 ^ 32) ∧
    ∀ e misses j t0 p, let v := s.publishAnalysis e
      tfind v.enc.pixel e = some (j, t0) → (v.chan j.ch).pic j.picture = some p → j.row < p.rows.length →
      (v.failsNow e = true ∨ p.follows j.row j.col = true → exec (.pixelJobComplete (e / 24) (e % 24) misses t) s0 = .next (settle s.encSettle)) ∧
      (v.failsNow e = false → p.follows j.row j.col = false → ∃ u : State, exec (.pixelJobComplete (e / 24) (e % 24) misses t) s0 =
          .next (settle (State.releaseRows j.ch (u.chan j.ch).allRows.length u).encSettle) ∧
        tfind u.enc.pixel e = none ∧ (∀ k, k ≠ e → tfind u.enc.pixel k = tfind s.enc.pixel k) ∧
        (let r := p.results (v.chan j.ch) j.row j.col
         ((u.chan j.ch).pic j.picture).map (fun q => (tfind (q.row j.row).finished j.col, tfind (q.row j.row).results j.col)) =
           some (some (Config.jobBits r.1, Config.jobBits r.2), some r)) ∧
        (s.areas = [] → u.mem = s.mem) ∧
        (∀ b n a, tfind s.areas j.ch = some (b, n) → 0 < n → a < b * 65536 ∨ (b + n) * 65536 ≤ a → u.byteAt a = s.byteAt a) ∧
        u.cur = v.cur ∧
        (e < 96 → u.obs 1 e 0 = s.obs 1 e 0 + tskCycles t0 s.tm.sys ∧ u.obs 1 e 1 = s.obs 1 e 1 + 1 ∧
          u.obs 1 e 4 = s.obs 1 e 4 + misses))

/-- R167: the engine that takes a job. With an available preferred engine that is idle, that one; while that one is busy and the job has
waited less than AFFINITY_WAIT cycles, or becomes idle in this very cycle (R168), none; after that, the lowest idle engine of its compute
chiplet, or, where that has none, the lowest idle engine of all. Without a preferred engine, the lowest idle engine of the raster's compute chiplet, or, where
that chiplet has none, the lowest idle engine of all; and a job is given only to an engine that is available, idle and awake. -/
def Obligations.EngineChoice : Prop :=
  ∀ (j : PixelJob) (s : State),
    let idle (e : Nat) : Prop := e < 96 ∧ s.engineAvail e = true ∧ tfind s.enc.pixel e = none ∧ s.clusterAsleep e = false
    let chip := s.rd (COMP (s.rdL (ENC j.ch) Reg.ENC_CH_CFG_RASTER)) Reg.CRASTER_COMP_STATE_CHIPLET
    (∀ e, s.preferred j = some e → idle e → s.engineFor j = some e) ∧
    (∀ e, s.preferred j = some e → ¬ idle e → tskCycles j.since s.tm.sys < s.rd TSK Reg.TSK_TSK_CFG_AFFINITY_WAIT →
      s.engineFor j = none) ∧
    (∀ e, s.preferred j = some e → ¬ idle e → s.completesNow e = true → s.engineFor j = none) ∧
    (∀ e k, s.preferred j = some e → ¬ idle e → s.rd TSK Reg.TSK_TSK_CFG_AFFINITY_WAIT ≤ tskCycles j.since s.tm.sys →
      s.completesNow e = false → idle k →
      (k / 24 = e / 24 → (∀ i, i < k → i / 24 = e / 24 → ¬ idle i) → s.engineFor j = some k) ∧
      ((∀ i, i / 24 = e / 24 → ¬ idle i) → (∀ i, i < k → ¬ idle i) → s.engineFor j = some k)) ∧
    (∀ e, s.preferred j = none → idle e → e / 24 = chip → (∀ k, k < e → k / 24 = chip → ¬ idle k) → s.engineFor j = some e) ∧
    (∀ e, s.preferred j = none → (∀ k, k / 24 = chip → ¬ idle k) → idle e → (∀ k, k < e → ¬ idle k) → s.engineFor j = some e) ∧
    (∀ e, s.engineFor j = some e → idle e)

/-- R163, R169, R170, R196: FLOOR_RECODE_DONE ends the recoding of the channel's oldest row that waits for the floor recoder;
SEAM_FILTER_DONE completes the oldest released row that it had not, and the row above it, or the picture's last row, is final then: it has its
reconstruction. ENTROPY_JOB_DISPATCH gives the slice that has waited longest to the
lowest idle entropy engine, or does nothing; one slice goes in a cycle. SLICE_ASSEMBLED waits while a row of the slice is not released; else the engine is free and
the slice is assembled before what is ready leaves. -/
def Obligations.EntropyJobs : Prop :=
  ∀ (t : Nat) (s0 : State), s0.pow.up = true →
    let s := s0.advance t
    (∀ c p r, ((s.chan c).allRows.find? fun e => (e.1.row e.2).recoding) = some (p, r) → ∃ u : State,
      exec (.floorRecodeDone c t) s0 = .next (settle u.encSettle) ∧
      ((u.chan c).pic p.number).map (·.row r) = some { p.row r with recoding := false } ∧ u.cur = s.cur ∧ u.occ = s.occ) ∧
    (∀ c p r, ((s.chan c).allRows.find? fun e =>
        (e.1.row e.2).released.isSome && !(e.1.row e.2).recoding && !(e.1.row e.2).seamed) = some (p, r) → ∃ u : State,
      ((u.chan c).pic p.number).map (·.row r) = some { p.row r with seamed := true } ∧ SameButEvents s { u with enc := s.enc } ∧
      (let v := if r = 0 then u else u.finishRow c p.number (r - 1)
       exec (.seamFilterDone c t) s0 =
         .next (settle (if r + 1 = p.rows.length then v.finishRow c p.number r else v).encSettle))) ∧
    (∀ (c n r : Nat) (p : EncPicture) (s : State), (s.chan c).pic n = some p → r < p.rows.length →
      ((s.finishRow c n r).chan c).pic n =
        some (p.setRow r { p.row r with recon := p.finalRow (p.refs.head?.bind (s.chan c).pic) r }) ∧
      (s.finishRow c n r).cur = s.cur ∧ (s.finishRow c n r).occ = s.occ) ∧
    (s.readySlices = [] ∨ s.enc.sentEntropy = tskCycle s.tm.sys + 1 ∨ (∀ e, e < 16 → s.entropyAvail e = true → tfind s.enc.entropy e ≠ none) →
      exec (.entropyJobDispatch t) s0 = .next (settle s)) ∧
    (∀ e, s.readySlices ≠ [] → s.enc.sentEntropy ≠ tskCycle s.tm.sys + 1 → e < 16 → s.entropyAvail e = true → tfind s.enc.entropy e = none →
      (∀ k, k < e → s.entropyAvail k = true → tfind s.enc.entropy k ≠ none) → Takes (.entropyJobDispatch t) s0 fun u =>
        ∃ z ∈ s.readySlices, (∀ y ∈ s.readySlices, z.2.2.2 ≤ y.2.2.2) ∧
          tfind u.enc.entropy e = some (z.1, z.2.1, z.2.2.1, s.tm.sys) ∧
          (∀ k, k ≠ e → tfind u.enc.entropy k = tfind s.enc.entropy k) ∧ u.occ = s.occ ∧ u.mem = s.mem) ∧
    (∀ e c n i t0 p, tfind s.enc.entropy e = some (c, n, i, t0) → (s.chan c).pic n = some p →
      let rows := (List.range (sliceSpan p.words i).2).filter ((sliceSpan p.words i).1 ≤ ·)
      ((∃ r ∈ rows, (p.row r).released = none ∨ (p.row r).recoding = true) →
        exec (.sliceAssembled e t) s0 = .next (settle s.mateSettle)) ∧
      ((∀ r ∈ rows, (p.row r).released ≠ none ∧ (p.row r).recoding = false) → i < p.slices.length → ∃ u : State,
        exec (.sliceAssembled e t) s0 = .next (settle ((((State.emitReady c
          ((u.chan c).pictures.map fun q => q.slices.length).sum u).prunePicture c).encStopped c).encSettle.mateSettle)) ∧
        tfind u.enc.entropy e = none ∧ ((u.chan c).pic n).map (fun q => (q.slices.getD i {}).assembled) = some (some s.tm.sys) ∧
        u.cur = s.cur ∧ u.occ = s.occ))

/-- R171, R172, R173, R184, R213: JOB_ERROR of an engine withdraws it, puts its job back among those that wait, as retried, and records
JOB_RETRY and ENGINE_WITHDRAWN. An engine that has been idle with no job of its kind waiting for twice AFFINITY_WAIT cycles is lent to
self-test; ENGINE_RETURN puts a withdrawn engine back, with
ENGINE_RETURNED, or a lent one without a record. HIST_CLEAR sets the wait bins and maximum of every channel to 0. RC_CLEAR sets MIN_SLACK
to 0x7FFF_FFFF and the LAT_MAX registers of the selected entry to 0. HINT_ERROR zeroes those of the named hints of a handed-off row that no job
has read yet, and is recorded once per picture with the first block row that it hits. -/
def Obligations.EnginesAndCounts : Prop :=
  ∀ (s : State), s.pow.up = true →
    (∀ t u j t0, u < 96 → let o := s.advance t; tfind o.enc.pixel u = some (j, t0) → Takes (.jobError u t) s fun w =>
      tfind w.enc.pixel u = none ∧ u ∈ w.enc.withdrawn ∧ { j with since := o.tm.sys, retried := true } ∈ w.enc.waiting ∧
      w.queue TSK = occPush (occPush (s.queue TSK) (occRecord 0x20 u (j.ch <<< 40 ||| (j.row % 256) <<< 32 ||| s.frameNo % 2 ^ 32)))
        (occRecord 0x21 u s.frameNo)) ∧
    (∀ t u c n i t0 p, u < 16 → let o := s.advance t; tfind o.enc.entropy u = some (c, n, i, t0) → (o.chan c).pic n = some p →
      i < p.slices.length → Takes (.jobError (128 + u) t) s fun w =>
      tfind w.enc.entropy u = none ∧ 128 + u ∈ w.enc.withdrawn ∧
      ((w.chan c).pic n).map (fun q => (q.slices.getD i {}).engine) = some none ∧
      w.queue TSK = occPush (occPush (s.queue TSK) (occRecord 0x20 (128 + u)
        (c <<< 40 ||| ((sliceSpan p.words i).1 % 256) <<< 32 ||| s.frameNo % 2 ^ 32))) (occRecord 0x21 (128 + u) s.frameNo)) ∧
    (∀ t e, let o := s.advance t; Takes (.engineSelftestLoan e t) s fun w =>
      (e ∈ w.enc.lent ↔ e ∈ s.enc.lent ∨
        (if e < 128 then o.engineAvail e = true ∧ tfind o.enc.pixel e = none ∧ o.enc.waiting = [] ∧
            2 * o.rd TSK Reg.TSK_TSK_CFG_AFFINITY_WAIT ≤ tskCycles (max (tget 0 o.enc.idle e) o.enc.lastJob) o.tm.sys
         else o.entropyAvail (e - 128) = true ∧ tfind o.enc.entropy (e - 128) = none ∧ o.readySlices = [] ∧
            2 * o.rd TSK Reg.TSK_TSK_CFG_AFFINITY_WAIT ≤ tskCycles (max (tget 0 o.enc.idle e) o.enc.lastSlice) o.tm.sys)) ∧
      w.occ = s.occ) ∧
    (∀ t u, Takes (.engineReturn u t) s fun w =>
      u ∉ w.enc.withdrawn ∧ (u ∉ s.enc.withdrawn → u ∉ w.enc.lent ∧ w.occ = s.occ) ∧
      (u ∈ s.enc.withdrawn → w.queue TSK = occPush (s.queue TSK) (occRecord 0x22 u s.frameNo))) ∧
    (∀ (a : Access) (v : Word), Ready s a TSK → Takes (.histClear a v) s fun w =>
      (∀ c k, c < 4096 → k < 16 → w.obs 0 c k = if k < 12 ∨ k = 13 then 0 else s.obs 0 c k) ∧
      (∀ d c k, 0 < d → c < 4096 → k < 16 → w.obs d c k = s.obs d c k) ∧ w.occ = s.occ ∧ w.enc.waiting = s.enc.waiting) ∧
    (∀ (a : Access) (v : Word), Ready s a ⟨.encRc, 0⟩ →
      let c := s.rd ⟨.encRc, 0⟩ Reg.RC_RC_INDEX_CHANNEL
      Takes (.rcClear a v) s fun w => w.rd (RCE c) Reg.RC_MIN_SLACK = 0x7FFFFFFF ∧
        (∀ k, k < 4 → w.rd (RCE c) (Reg.RC_LAT_MAX k) = 0) ∧
        (∀ k o, k ≠ c → o < 0x1000 → w.word (RCE k) o = s.word (RCE k) o) ∧ w.pnd = s.pnd ∧ w.enc = s.enc ∧ w.occ = s.occ) ∧
    ∀ c n row blocks p, (s.chan c).pic n = some p → row < p.rows.length →
      ((p.row row).handed = none ∨ p.overrun = true ∨ p.unread row blocks = [] →
        exec (.hintError c (n, row) blocks) s = .next (settle s)) ∧
      ((p.row row).handed ≠ none → p.overrun = false → p.unread row blocks ≠ [] → Takes (.hintError c (n, row) blocks) s fun w =>
        (∃ q, (w.chan c).pic n = some q ∧ q.hintError = true ∧
          (∀ b ∈ p.unread row blocks, ∀ h, (q.row row).hints[b]? = some h → h = {}) ∧
          (∀ b, b ∉ p.unread row blocks → (q.row row).hints[b]? = (p.row row).hints[b]?)) ∧
        (p.hintError = true → w.occ = s.occ) ∧
        (p.hintError = false → ∃ y,
          (∃ b ∈ p.unread row blocks, ((p.geo.rowBlocks row)[b]?).map (·.2) = some y) ∧
          (∀ b ∈ p.unread row blocks, ∀ e, (p.geo.rowBlocks row)[b]? = some e → y ≤ e.2) ∧
          w.queue (ENC c) = occPush (s.queue (ENC c)) (occRecord 0x44 (y % 256) p.frame)) ∧
        SameButRecords s { w with enc := s.enc })

/-! 21_power_reset_boot.md, 07_encoder_pipeline.md, 10_decoder.md: the mailbox's end of a command, admission, decoding. -/

/-- R494: a mailbox command that ends DONE writes its response words and 0 beyond them, sets STATE DONE and CMD_ENDED with its code, and changes
no pending value, no other page and nothing but registers and records. -/
def Obligations.MailboxReply : Prop :=
  ∀ (rsp : List Nat) (s : State),
    let t := s.mbxReply rsp
    (∀ k, k < 16 → t.rd MBX (Reg.MBX_RSP k) = rsp.getD k 0 % 2 ^ 32) ∧ t.opState MBX mbxOp = 2 ∧
    t.rd MBX ⟨0xCC, 15, 0⟩ = s.mbx.code % 2 ^ 16 ∧ t.rd MBX Reg.MBX_CMD_RESULT_UNKNOWN = 0 ∧
    t.queue MBX = occPush (s.queue MBX) (occRecord 0x20 2 ((s.mbx.code % 65536) * 2 ^ 32 + s.frameNo % 2 ^ 32)) ∧
    (∀ (q : Page) (o : Nat), q.inBar0 → o < 0x1000 → q ≠ MBX → t.word q o = s.word q o ∧ t.queue q = s.queue q) ∧
    SameButRecords s { t with cur := s.cur }

/-- R180, R181, R182, R183: ENC_ADMIT of the running command. BUSY (5) for a channel that is admitted or a rung of a ladder, BAD_CONFIG
(1), then the first limit exceeded: 2 above Σ D = 93,000, 3 above Σ E = 15,000, 4 above 16,384 job slots or 128 channels; each of these
changes nothing. Otherwise the grant is recorded and STATE is ADMITTED. LADDER_ADMIT does the same with all rungs at once, none of which may be
a rung already or differ from the ladder in ENABLE. ENC_RELEASE answers 6 for a channel that is not admitted, 5 for one that runs or drains,
and otherwise makes it IDLE, a rung leaving its ladder's demand (the model's own choice: assumption log 48); with bit 7 it does the same to a
ladder and all of its rungs. ENC_QUERY answers the sums. -/
def Obligations.EncoderAdmission : Prop :=
  ∀ (s : State), s.pow.up = true →
    (s.mbxRunning 0x0201 = true →
      let c := s.mbx.req.getD 0 0 % 128
      let x := s.admitted1 c none
      let d := s.demandSum (·.d) + x.d
      let k := if (s.chan c).grant.isSome = true ∨ s.rungOf c = true then 5 else if encBad s.rdP s.tm.rate c = true then 1
        else if 93000 < d then 2 else if 15000 < s.demandSum (·.e) + x.e then 3
        else if 16384 < s.demandSum (·.slots) + x.slots ∨ 128 < s.admitted + 1 then 4 else 0
      (k ≠ 0 → exec .encAdmit s = .next (settle (s.mbxReply [k]))) ∧
      (k = 0 → Takes .encAdmit s fun t => t.rd (ENC c) Reg.ENC_CH_STATE_STATE = 1 ∧ t.chan c = x ∧
        t.rd MBX (Reg.MBX_RSP 0) = 0 ∧ t.rd MBX (Reg.MBX_RSP 1) = x.units % 2 ^ 32 ∧ t.rd MBX (Reg.MBX_RSP 2) = x.d % 2 ^ 32 ∧
        t.rd MBX (Reg.MBX_RSP 3) = x.e % 2 ^ 32 ∧ t.pnd = s.pnd ∧ (∀ j, j ≠ c → t.chan j = s.chan j))) ∧
    (s.mbxRunning 0x0202 = true →
      let l := s.mbx.req.getD 0 0 % 16
      let rs := ladderRungs s.rdP l
      let xs := (List.range rs.length).map fun i => s.admitted1 (rs.getD i 0) (some (l, i))
      let k := if (tfind s.enc.ladders l).isSome = true ∨ (∃ c ∈ rs, (s.chan c).grant.isSome = true ∨ ∃ e ∈ s.enc.ladders, c ∈ e.2.1) then 5
        else if ladderBad s.rdP l = true ∨ (∃ c ∈ rs, encBad s.rdP s.tm.rate c = true ∨
          s.rdP (ENC c) Reg.PAGE_CTL_ENABLE ≠ s.rdP (LADDER l) Reg.PAGE_CTL_ENABLE) then 1
        else if 93000 < s.demandSum (·.d) + (xs.map (·.d)).sum then 2 else if 15000 < s.demandSum (·.e) + (xs.map (·.e)).sum then 3
        else if 16384 < s.demandSum (·.slots) + (xs.map (·.slots)).sum ∨ 128 < s.admitted + xs.length ∨ 16 ≤ s.enc.ladders.length then 4
        else 0
      (k ≠ 0 → exec .ladderAdmit s = .next (settle (s.mbxReply [k]))) ∧
      (k = 0 → Takes .ladderAdmit s fun t =>
        t.rd (LADDER l) Reg.LADDER_LADDER_STATE_ADMITTED = 1 ∧ (tfind t.enc.ladders l).map (·.1) = some rs ∧
        (∀ i c, rs[i]? = some c → t.chan c = s.admitted1 c (some (l, i)) ∧ t.rd (ENC c) Reg.ENC_CH_STATE_LADDER = 1) ∧
        t.rd MBX (Reg.MBX_RSP 0) = 0 ∧ t.pnd = s.pnd)) ∧
    (s.mbxRunning 0x0203 = true → bit (s.mbx.req.getD 0 0) 7 = false →
      let i := s.mbx.req.getD 0 0 % 128
      ((s.chan i).grant = none → exec .encRelease s = .next (settle (s.mbxReply [6]))) ∧
      ((s.chan i).grant ≠ none → s.rd (ENC i) Reg.ENC_CH_STATE_STATE ≠ 1 →
        exec .encRelease s = .next (settle (s.mbxReply [5]))) ∧
      ((s.chan i).grant ≠ none → s.rd (ENC i) Reg.ENC_CH_STATE_STATE = 1 → Takes .encRelease s fun t =>
        t.rd (ENC i) Reg.ENC_CH_STATE_STATE = 0 ∧ (t.chan i).grant = none ∧ (∀ j, j ≠ i → t.chan j = s.chan j) ∧
        ((s.chan i).rung = none → t.enc.ladders = s.enc.ladders) ∧
        (∀ l k rs d e, (s.chan i).rung = some (l, k) → tfind s.enc.ladders l = some (rs, d, e) →
          tfind t.enc.ladders l = some (rs, d - (s.chan i).d, e - (s.chan i).e)) ∧
        t.rd MBX (Reg.MBX_RSP 0) = 0 ∧ t.pnd = s.pnd)) ∧
    (s.mbxRunning 0x0203 = true → bit (s.mbx.req.getD 0 0) 7 = true →
      let l := s.mbx.req.getD 0 0 % 16
      (tfind s.enc.ladders l = none → exec .encRelease s = .next (settle (s.mbxReply [6]))) ∧
      (∀ rs x, tfind s.enc.ladders l = some (rs, x) →
        ((∃ c ∈ rs, (s.chan c).rung ≠ none ∧ s.rd (ENC c) Reg.ENC_CH_STATE_STATE ≠ 1) →
          exec .encRelease s = .next (settle (s.mbxReply [5]))) ∧
        ((∀ c ∈ rs, (s.chan c).rung ≠ none → s.rd (ENC c) Reg.ENC_CH_STATE_STATE = 1) → Takes .encRelease s fun t =>
          tfind t.enc.ladders l = none ∧ t.rd (LADDER l) Reg.LADDER_LADDER_STATE_ADMITTED = 0 ∧
          (∀ c ∈ rs, c < 128 → (s.chan c).rung ≠ none → (t.chan c).grant = none ∧ t.rd (ENC c) Reg.ENC_CH_STATE_STATE = 0) ∧
          (∀ c, c ∉ rs → t.chan c = s.chan c) ∧ t.rd MBX (Reg.MBX_RSP 0) = 0 ∧ t.pnd = s.pnd))) ∧
    (s.mbxRunning 0x0204 = true → exec .encQuery s = .next (settle (s.mbxReply
      [0, s.demandSum (·.d), s.demandSum (·.e), s.demandSum (·.slots), s.admitted, s.enc.ladders.length])))

/-- R238, R239: DEC_ADMIT answers BUSY (5) for an admitted stream, then BAD_CONFIG (1), then 2 where the demand exceeds 7,800 in sum or
1,950 alone or no pipeline takes it, each with no effect; else it records grant, demand and pipelines. DEC_RELEASE answers 6 for a stream
that is not admitted and 5 for an enabled one; else it takes the grant, and forgets a stream that no longer runs. R232, R240, R241: a NAL unit
that the stream's source does not hold does not reach it, and none reaches a stream that is not running or a device in DIM. An SPS is active at
once, refused where R231 or R243 has it so; a slice begins a picture where none is being received, none of a later access unit has begun and
the stream has begun or begins with it; a NAL unit of a later access unit, or a timeout, closes the picture being received; a closed picture
completes, recorded as late where its instant has passed, and what is due is published; R248: DEC_NO_INPUT sets its level. -/
def Obligations.Decoding : Prop :=
  ∀ (s : State), s.pow.up = true →
    (s.mbxRunning 0x0301 = true →
      let d := s.mbx.req.getD 0 0 % 64
      let n := decDemand s.rdP d
      let k := if (s.decStream d).grant.isSome = true then 5 else if decBad s.rdP d = true ∨ decFeedBad s.rdP d = true then 1
        else if 7800 < s.decSum + n ∨ 1950 < n ∨ s.placeDec n = none then 2 else 0
      (k ≠ 0 → exec .decAdmit s = .next (settle (s.mbxReply [k]))) ∧
      (k = 0 → Takes .decAdmit s fun t => ∃ l, s.placeDec n = some l ∧
        t.decStream d = { s.decStream d with grant := some (decGrant s.rdP d), demand := n, pipes := l } ∧
        (∀ j, j ≠ d → t.decStream j = s.decStream j) ∧
        t.rd MBX (Reg.MBX_RSP 0) = 0 ∧ t.rd MBX (Reg.MBX_RSP 2) = n ∧ t.pnd = s.pnd)) ∧
    (s.mbxRunning 0x0302 = true →
      let d := s.mbx.req.getD 0 0 % 64
      ((s.decStream d).grant = none → exec .decRelease s = .next (settle (s.mbxReply [6]))) ∧
      ((s.decStream d).grant ≠ none → s.enabled (DEC d) = true → exec .decRelease s = .next (settle (s.mbxReply [5]))) ∧
      ((s.decStream d).grant ≠ none → s.enabled (DEC d) = false → Takes .decRelease s fun t =>
        t.decStream d = (if (s.decStream d).running then { s.decStream d with grant := none, demand := 0, pipes := [] } else {}) ∧
        t.rd MBX (Reg.MBX_RSP 0) = 0 ∧ (∀ j, j ≠ d → t.decStream j = s.decStream j))) ∧
    (∀ d t n, (s.advance t).decInput d n = none → exec (.decNalReceived d t n) s = .next (settle (s.advance t))) ∧
    (∀ d t n w, (s.advance t).decInput d n = some w → s.isDim = true ∨ (w.decStream d).running = false →
      exec (.decNalReceived d t n) s = .next (settle w)) ∧
    (∀ d t n w, (s.advance t).decInput d n = some w → s.isDim = false → (w.decStream d).running = true →
      let u := w.wr (DEC d) ⟨0x00C, 0, 0⟩ 0
      (∀ au v, n = .sps au v → Takes (.decNalReceived d t n) s fun x =>
        (x.decStream d).sps = some v ∧ (x.decStream d).refused = w.spsRefused d v ∧
        x.rd (DEC d) ⟨0x00C, 0, 0⟩ = 0 ∧ x.rd (DEC d) ⟨0x00C, 4, 4⟩ = b2n (w.spsRefused d v).isSome) ∧
      (∀ au p, n = .other au → (w.decStream d).open' = some p → p.head.au < au → ∃ x : State,
        exec (.decNalReceived d t n) s = .next (settle (x.decShown d)) ∧
        (∃ q ∈ (x.decStream d).pictures, q.number = p.number ∧ q.closed = true) ∧ x.mem = w.mem) ∧
      (∀ au, n = .other au → (∀ p, (w.decStream d).open' = some p → au ≤ p.head.au) →
        exec (.decNalReceived d t n) s = .next (settle (u.decShown d))) ∧
      (∀ au l, n = .params au l → (∀ p, (w.decStream d).open' = some p → au ≤ p.head.au) →
        exec (.decNalReceived d t n) s = .next (settle ((u.decParams d (l.map (·.toNat))).decShown d))) ∧
      (∀ h ctus parsed l v, n = .slice h ctus parsed l → (w.decStream d).sps = some v → (w.decStream d).refused = none →
        ((w.decStream d).open' = none → u.decStarts d h = true →
          exec (.decNalReceived d t n) s = .next (settle (((u.decBegin d v h).decSlice d h.au ctus parsed l).decFlush d)) ∧
          ∃ q ∈ ((u.decBegin d v h).decStream d).pictures, q.head = h ∧ q.sps = v ∧ q.closed = false) ∧
        (∀ p, (w.decStream d).open' = some p → h.au ≤ p.head.au →
          exec (.decNalReceived d t n) s = .next (settle ((u.decSlice d h.au ctus parsed l).decFlush d))))) ∧
    (∀ d p, (s.decStream d).open' = some p → ∃ w : State,
      exec (.decPictureTimeout d) s = .next (settle (w.decShown d)) ∧
        (∃ q ∈ (w.decStream d).pictures, q.number = p.number ∧ q.closed = true) ∧ w.mem = s.mem) ∧
    (∀ d, (s.decStream d).open' = none → exec (.decPictureTimeout d) s = .next (settle (s.decShown d))) ∧
    (∀ d t p, d < 64 → ((s.decStream d).pictures.find? fun p => p.closed && !p.complete) = some p →
      ∃ w : State, exec (.decPictureComplete d t) s = .next (settle (w.decFlush d)) ∧
        (p.head.output = true → ∃ q ∈ (w.decStream d).pictures, q.number = p.number ∧ q.complete = true) ∧
        (p.head.output = false → ∀ q ∈ (w.decStream d).pictures, q.number = p.number → q.head.output = true) ∧
        w.queue (DEC d) =
          if s.decAlign d ≠ 0 ∧ p.head.output = true ∧ s.alignInstant d p.head.frame < (s.advance t).tm.sys
          then occPush (s.queue (DEC d)) (occRecord 0x24 0 (p.head.frame % 2 ^ 48)) else s.queue (DEC d)) ∧
    (∀ d t, exec (.decAlignPublish d t) s = .next (settle ((s.advance t).decFlush d))) ∧
    (∀ d, exec (.decNoInput d) s = .next (settle (if (s.decStream d).running then s.wr (DEC d) ⟨0x00C, 0, 0⟩ 1 else s)))

/-! 11_scanout.md: the reference input. -/

/-- R255, R256: REF_CFG_WRITE stores REF_CFG at once. Where source, kind, edge and rate stay as they were, nothing else changes. A change to
no source leaves the reference off with SOURCE 0; one to PTP, or to a REF_IN rate that divides the beat rate, is ACQUIRING with that
SOURCE; a rate that does not divide it is MISMATCH with SOURCE 3; LOCKED is 0 in each case. On a member that follows another's SYSTIME only the
register changes. R256, R257, R258: an edge at a source that is not selected, or on such a member, only advances SYSTIME. Of other edges, one outside
the glitch window is counted. Where 8 intervals do not agree, in ACQUIRING or LOCKED it steers nothing, and one inside the window is the last
accepted edge: P takes a value within 1,000 ppm of nominal, the first one of ACQUIRING steps SYSTIME onto its boundary while no raster or channel
is enabled, and 8 in a row within 100 ns lock. Where 8 intervals agree, a mean that fits REF_DIV beats takes HOLDOVER and MISMATCH to ACQUIRING;
another mean is a rate change: recorded, and followed with RATE_FOLLOW 1 and a supported rate, else MISMATCH, recorded as well. 2.5 P without an
accepted edge is HOLDOVER, with REF_LOST recorded and counted, for a source in use, and nothing otherwise. -/
def Obligations.Reference : Prop :=
  ∀ (a : Access) (v : Word) (s : State),
    let stt (t : State) : Nat × Nat × Nat := (t.rd SYS Reg.SYS_REF_STATE_STATE, t.rd SYS Reg.SYS_TIME_SRC_SOURCE, t.rd SYS Reg.SYS_TIME_SRC_LOCKED)
    (Ready s a SYS → Takes (.refCfgWrite a v) s fun t =>
      let sel := v.toNat % 4
      let same := fget v 11 0 &&& 0xF73 = s.rd SYS ⟨0x120, 11, 0⟩ &&& 0xF73
      t.rd SYS ⟨0x120, 11, 0⟩ &&& 0xF73 = fget v 11 0 &&& 0xF73 ∧
      (same → stt t = stt s ∧ t.ref = s.ref) ∧
      (¬ same → s.following = true → stt t = stt s ∧ t.ref = { s.ref with changed := true }) ∧
      (¬ same → s.following = false → (sel = 0 ∨ sel = 3 → stt t = (0, 0, 0)) ∧ (sel = 1 → stt t = (1, 1, 0)) ∧
        (sel = 2 → ∀ j, refDivOf s.tm.rate (t.rd SYS Reg.SYS_REF_CFG_REF_RATE) = some j →
          stt t = (1, 2, 0) ∧ t.rd SYS Reg.SYS_REF_STATE_REF_DIV_M1 = j - 1 ∧ t.ref.period = beatStart s.tm.rate j) ∧
        (sel = 2 → refDivOf s.tm.rate (t.rd SYS Reg.SYS_REF_CFG_REF_RATE) = none → stt t = (4, 3, 0))) ∧
      t.tm = s.tm ∧ t.occ = s.occ) ∧
    (∀ t, s.pow.up = true →
      (s.rd SYS Reg.SYS_REF_CFG_TIME_SEL ≠ 2 ∨ s.following = true → exec (.refEdge t) s = .next (settle (s.advance t))) ∧
      (s.rd SYS Reg.SYS_REF_CFG_TIME_SEL = 2 → s.following = false → Takes (.refEdge t) s fun u =>
        u.ref.lastEdge.isSome = true ∧
        u.rd SYS Reg.SYS_GLITCH_COUNT = (s.rd SYS Reg.SYS_GLITCH_COUNT + b2n (s.isGlitch t)) % 2 ^ 32) ∧
      (∀ e, s.rd SYS Reg.SYS_REF_CFG_TIME_SEL = 2 → s.following = false → s.ref.lastAccepted = some e → s.ref.run.length < 7 →
        (stt s).1 = 1 ∨ (stt s).1 = 2 →
        let p := max 1 s.ref.period
        let off := ((t : Int) - (e + max 1 ((t - e + p / 2) / p) * p : Nat)).natAbs
        let j := s.rd SYS Reg.SYS_REF_STATE_REF_DIV_M1 + 1
        let nom := beatStart s.tm.rate j
        let err := boundaryError s.tm.rate j (t - ns (s.rd SYS Reg.SYS_REF_DELAY % 2 ^ 24))
        let near := if err.natAbs ≤ ns 100 then s.ref.inLock + 1 else 0
        let jump := (stt s).1 = 1 ∧ s.ref.stepped = false ∧ s.pictureEnabled = false
        Takes (.refEdge t) s fun u =>
          (s.rd SYS Reg.SYS_REF_CFG_GLITCH_WINDOW * p < off * 1000 → stt u = stt s ∧ u.tm = (s.advance t).tm ∧ u.ref.lastEdge = some t ∧
            u.ref.lastAccepted = some e ∧ u.ref.steer = s.ref.steer ∧ u.ref.period = s.ref.period ∧ u.freeCount = s.freeCount) ∧
          (off * 1000 ≤ s.rd SYS Reg.SYS_REF_CFG_GLITCH_WINDOW * p →
            (nom - nom / 1000 ≤ u.ref.period ∧ u.ref.period ≤ nom + nom / 1000) ∧
            (jump → stt u = stt s ∧ u.tm.sys = ((t : Int) - err).toNat ∧ u.tm.frame = beatAt s.tm.rate u.tm.sys ∧ u.ref.stepped = true) ∧
            (¬ jump → u.tm = (s.advance t).tm ∧ u.ref.lastAccepted = some t ∧ u.ref.inLock = near ∧ u.ref.steer.natAbs ≤ 1000000 ∧
              stt u = (if (stt s).1 = 1 ∧ 8 ≤ near then (2, 2, 1) else stt s) ∧
              u.queue SYS = (if (stt s).1 = 1 ∧ 8 ≤ near then occPush (s.queue SYS) (occRecord 0x29 2 (s.advance t).frameNo) else s.queue SYS)))) ∧
      (∀ e, s.rd SYS Reg.SYS_REF_CFG_TIME_SEL = 2 → s.following = false → s.ref.lastEdge = some e → agree8 (withInterval s.ref.run (t - e)) = true →
        let mean := (withInterval s.ref.run (t - e)).sum / 8
        let fits := within1000ppm mean (beatStart s.tm.rate (s.rd SYS Reg.SYS_REF_STATE_REF_DIV_M1 + 1))
        let one (k : Nat) := occPush (s.queue SYS) (occRecord 0x2A k ((mean / 65536000 % 65536) <<< 32 ||| (s.advance t).frameNo % 2 ^ 32))
        Takes (.refEdge t) s fun u =>
          (fits = true → (stt s).1 = 3 ∨ (stt s).1 = 4 → stt u = (1, 2, 0) ∧ u.occ = s.occ) ∧
          (∀ code k, fits = false → supportedRate s.tm.rate mean = some (code, k) → s.rd SYS Reg.SYS_REF_CFG_RATE_FOLLOW = 1 →
            stt u = (1, 2, 0) ∧ u.rd SYS Reg.SYS_REF_STATE_REF_DIV_M1 = (k - 1) % 8 ∧ u.rd SYS Reg.SYS_REF_STATE_RATE_NOW = code % 16 ∧
            u.queue SYS = one k) ∧
          (fits = false → supportedRate s.tm.rate mean = none ∨ s.rd SYS Reg.SYS_REF_CFG_RATE_FOLLOW = 0 →
            stt u = (4, 3, 0) ∧
            u.queue SYS = occPush (one (((supportedRate s.tm.rate mean).map (·.2)).getD 0)) (occRecord 0x2B 0 (s.advance t).frameNo)))) ∧
    (s.pow.up = true → Takes .refEdgeTimeout s fun t =>
      let used := s.rd SYS Reg.SYS_REF_CFG_TIME_SEL = 2 ∧ ((stt s).1 = 1 ∨ (stt s).1 = 2) ∧ s.following = false
      (used → stt t = (3, 3, 0) ∧ t.rd SYS Reg.SYS_LOSS_COUNT = (s.rd SYS Reg.SYS_LOSS_COUNT + 1) % 2 ^ 32 ∧
        t.queue SYS = occPush (s.queue SYS) (occRecord 0x28 2 s.frameNo)) ∧ (¬ used → SameButEvents s t))

/-! 12_tile_link.md: reports and cable faults. -/

/-- R279-R281, R289, R290, R303: blocks of the return direction on a tile lane. A lane that is looped, out of block lock, disabled or out of service
receives nothing. What the scrambler of R279 makes of bytes, the descrambler of the same state turns back. Of the descrambled blocks, those of a
packet with sound CRC and type 8 keep its REPORT, each field at its place, as the latest of its lane and position, answer the lane's latest BEAT,
and count in REPORTS_RX; GEOMETRY_ERR or OVERTEMP that was 0 in the report before is recorded. A reserved type, a wrong CRC, a wrong count
of data blocks, an invalid block inside, or a START inside counts in REPORTS_BAD and keeps nothing; all but the first count in RX_BAD too. POS
has four bits, so no REPORT has POS 16 or above. -/
def Obligations.TileReports : Prop :=
  (∀ (st : Nat) (l : List Nat), st < 2 ^ 58 → (∀ b ∈ l, b < 256) →
    throughBytes descrambleBit st (throughBytes scrambleBit st l).2 = ((throughBytes scrambleBit st l).1, l)) ∧
  ∀ (n : Nat) (bs : List TileBlock) (s : State), s.pow.up = true →
    let hears := s.rd (TL n) Reg.TL_LANE_CTL_LOOPBACK = 0 ∧ s.rd (TL n) Reg.TL_LANE_STATE_BLOCK_LOCK = 1 ∧ s.enabled (TL n) = true ∧
      (s.tlane n).isOut = false
    let plain := throughBlocks descrambleBit (s.tlane n).descrambler bs
    let x := TILE (n / 448)
    let bad (t : State) := t.rd x Reg.TILE_REPORTS_BAD = (s.rd x Reg.TILE_REPORTS_BAD + 1) % 2 ^ 32 ∧
      t.rd x Reg.TILE_REPORTS_RX = s.rd x Reg.TILE_REPORTS_RX ∧ (t.tlane n).reports = (s.tlane n).reports ∧
      (∀ k, k ≠ n → t.tlane k = s.tlane k) ∧ t.occ = s.occ
    (¬ hears → exec (.tileReportReceived n bs) s = .next (settle s)) ∧
    (hears → Takes (.tileReportReceived n bs) s fun t => (t.tlane n).descrambler = plain.1) ∧
    (∀ h g, hears → h < 2 ^ 56 → g < 2 ^ 64 → h % 16 = 8 → (s.tlane n).open' = none → plain.2 = packetBlocks h g [] →
      Takes (.tileReportReceived n bs) s fun t =>
        let pos := h / 2 ^ 4 % 16
        let old := tfind (s.tlane n).reports pos
        t.rd x Reg.TILE_REPORTS_RX = (s.rd x Reg.TILE_REPORTS_RX + 1) % 2 ^ 32 ∧ t.rd x Reg.TILE_REPORTS_BAD = s.rd x Reg.TILE_REPORTS_BAD ∧
        tfind (t.tlane n).reports pos = some {
          temp := h / 2 ^ 16 % 2 ^ 16, frame := h / 2 ^ 48 % 2 ^ 8, inverted := bit h 8, geometry := bit h 9, overtemp := bit h 10
          crcErrors := h / 2 ^ 32 % 2 ^ 16, highEpoch := g % 2 ^ 16, vendor := g / 2 ^ 16 % 2 ^ 16, age := 0, fresh := true } ∧
        (∀ k, k ≠ pos → tfind (t.tlane n).reports k = tfind (s.tlane n).reports k) ∧
        (∀ k, k ∈ (t.tlane n).answered ↔ k ∈ (s.tlane n).answered ∨ (k = pos ∧ (s.tlane n).beat = some (h / 2 ^ 48 % 2 ^ 8))) ∧
        (t.tlane n).open' = none ∧ (∀ k, k ≠ n → t.tlane k = s.tlane k) ∧ (t.tlane n).causes = (s.tlane n).causes ∧
        t.queue x = if (bit h 9 = true ∧ (old.map (·.geometry)) ≠ some true) ∨ (bit h 10 = true ∧ (old.map (·.overtemp)) ≠ some true) then
          occPush (s.queue x) (occRecord 0x23 pos (n <<< 32 ||| s.frameNo % 2 ^ 32)) else s.queue x) ∧
    (∀ h g, hears → h < 2 ^ 56 → g < 2 ^ 64 → h % 16 ≠ 8 → (s.tlane n).open' = none → plain.2 = packetBlocks h g [] →
      Takes (.tileReportReceived n bs) s fun t => bad t ∧ (t.tlane n).bad = (s.tlane n).bad) ∧
    (∀ p crc, hears → (s.tlane n).open' = some p → plain.2 = [{ sync := 2, bytes := 0x87 :: bytesOf 7 crc }] →
      p.spoilt = true ∨ p.data.length ≠ 8 ∨ crc32c (p.header ++ p.data) ≠ crc % 2 ^ 32 →
      Takes (.tileReportReceived n bs) s fun t => bad t ∧ (t.tlane n).bad = ((s.tlane n).bad + 1) % 65536 ∧ (t.tlane n).open' = none) ∧
    (∀ p h, hears → (s.tlane n).open' = some p → plain.2 = [{ sync := 2, bytes := 0x78 :: bytesOf 7 h }] →
      Takes (.tileReportReceived n bs) s fun t => bad t ∧ (t.tlane n).bad = ((s.tlane n).bad + 1) % 65536 ∧
        (t.tlane n).open' = some { header := bytesOf 7 h }) ∧
    (∀ b, hears → plain.2 = [b] → b.sync = 0 ∨ b.sync = 3 ∨ (b.sync = 2 ∧ b.bytes.headD 0 ∉ [0x1E, 0x78, 0x87]) →
      Takes (.tileReportReceived n bs) s fun t => (t.tlane n).open' = (s.tlane n).open'.map (fun p => { p with spoilt := true }) ∧
        (t.tlane n).reports = (s.tlane n).reports ∧ t.cur = s.cur ∧ t.occ = s.occ)

/-- R298, R299, R300, R301: the causes of a cable fault. CABLE_FAULT_DETECT adds the named causes of an enabled lane, NO_RETURN (6) only in loss of
signal while its transmitter drives; the lane shows the lowest code, and codes 1-4 put it out of service, with what waits for framing
discarded. CABLE_RETRY, and TILE_LANE_RETRY on the indexed lane, clear those causes 1-4 of an out-of-service lane that the test no longer
finds; CABLE_FAULT_CLEARS removes one cause. A code that is shown no more, and then one that appears, is recorded. A lane that returns to
service waits for a frame start. No other lane changes, nor any register but PKT_SENT. A LANE above 447 does nothing. -/
def Obligations.CableFaults : Prop :=
  ∀ (n : Nat) (s : State), s.pow.up = true →
    let q (n : Nat) := TILE (n / 448)
    let follows (n : Nat) (t : State) :=
      let a := (s.tlane n).fault
      let b := (t.tlane n).fault
      let one := if a ≠ 0 ∧ a ∉ (t.tlane n).causes then occPush (s.queue (q n)) (occRecord 0x21 a (s.laneDetail n)) else s.queue (q n)
      t.queue (q n) = (if b ≠ 0 ∧ b ≠ a then occPush one (occRecord 0x20 b (s.laneDetail n)) else one) ∧
      ((s.tlane n).isOut = true → (t.tlane n).isOut = false → (t.tlane n).rejoin = true) ∧
      ((s.tlane n).isOut = false → (t.tlane n).isOut = true → ∀ f ∈ t.scn.framing, f.lane ≠ n) ∧ (∀ k, k ≠ n → t.tlane k = s.tlane k)
    let kept (n : Nat) (t : State) := ∀ (p : Page) (o : Nat), pageBase p + o ≠ pageBase (q n) + 0x64 → t.word p o = s.word p o
    (∀ codes, s.enabled (TL n) = true → Takes (.cableFaultDetect n codes) s fun t =>
      (∀ c, c ∈ (t.tlane n).causes ↔ c ∈ (s.tlane n).causes ∨
        (c ∈ codes ∧ 1 ≤ c ∧ c ≤ 7 ∧ (c = 6 → s.laneDrives n = true ∧ s.rd (TL n) Reg.TL_LANE_STATE_LOS = 1))) ∧
      (∀ c, (t.tlane n).fault = c → c ≠ 0 → c ∈ (t.tlane n).causes ∧ ∀ d ∈ (t.tlane n).causes, c ≤ d) ∧
      ((t.tlane n).isOut = true ↔ 1 ≤ (t.tlane n).fault ∧ (t.tlane n).fault ≤ 4) ∧ follows n t ∧ kept n t) ∧
    (∀ codes, s.enabled (TL n) = false → exec (.cableFaultDetect n codes) s = .next (settle s)) ∧
    (∀ found, (s.tlane n).isOut = true → Takes (.cableRetry n found) s fun t =>
      (t.tlane n).causes = (s.tlane n).causes.filter (fun c => 4 < c ∨ c ∈ found) ∧ follows n t ∧ kept n t) ∧
    (∀ found, (s.tlane n).isOut = false → exec (.cableRetry n found) s = .next (settle s)) ∧
    (∀ c, c ∈ (s.tlane n).causes → Takes (.cableFaultClears n c) s fun t =>
      (t.tlane n).causes = (s.tlane n).causes.filter (· ≠ c) ∧ follows n t ∧ kept n t) ∧
    (∀ c, c ∉ (s.tlane n).causes → exec (.cableFaultClears n c) s = .next (settle s)) ∧
    (∀ (a : Access) (x : Nat) (v : Word) (k : WriteFinds), x < 2 → Ready s a (TILE x) →
      let i := s.rd (TILE x) Reg.TILE_LANE_INDEX_LANE
      (i < 448 → Takes (.tileLaneRetry a x v k) s fun t =>
        let l := 448 * x + i
        (t.tlane l).causes = (if (s.tlane l).isOut then (s.tlane l).causes.filter (fun c => 4 < c ∨ c ∈ k.causes) else (s.tlane l).causes) ∧
        follows l t) ∧
      (448 ≤ i → Takes (.tileLaneRetry a x v k) s fun t => t.scn = s.scn ∧ t.occ = s.occ))

/-! 13_serial_lanes.md: bring-up, detectors, adaptation. -/

/-- R291, R308, R311: the steps of a lane's bring-up. PLL lock takes phase PLL (1) to ACQUIRE (2) and clears PLL_FAIL; a PLL timeout in phase 1
records and shows PLL_FAIL and stays there; CDR lock takes ACQUIRE to ADAPT (3) once LOS is clear; the end of adaptation takes ADAPT to
IN_SERVICE (4), sets every equaliser value, that of the continuous-time equaliser and 3, 5 or 12 taps, shows the eye, and records LANE_UP;
an event outside its phase changes nothing. In service, block lock is reached in the polarity being tried, shown in RX_INVERTED and, inverted, as
fault cause 7; a timeout tries the other polarity. -/
def Obligations.LaneBringUp : Prop :=
  ∀ (w : Bool) (n : Nat) (s : State), s.pow.up = true →
    let p := lanePage w n
    (s.phase w n = 1 →
      (Takes (.lanePllLock w n) s fun t => t.phase w n = 2 ∧ t.rd p ⟨0xC, 3, 3⟩ = 0 ∧ t.serial = s.serial ∧ t.occ = s.occ ∧
        (∀ q o, pageBase q + o ≠ pageBase p + 0xC → pageBase q + o ≠ pageBase p + (laneState w 2 0).off → t.word q o = s.word q o)) ∧
      (Takes (.lanePllTimeout w n) s fun t => t.phase w n = 1 ∧ t.rd p ⟨0xC, 3, 3⟩ = 1 ∧
        t.queue p = occPush (s.queue p) (occRecord 0x22 0 s.frameNo) ∧
        (∀ q o, pageBase q + o ≠ pageBase p + 0xC → t.word q o = s.word q o))) ∧
    (s.phase w n ≠ 1 → exec (.lanePllLock w n) s = .next (settle s) ∧ exec (.lanePllTimeout w n) s = .next (settle s)) ∧
    (s.phase w n = 2 → s.los w n = false → Takes (.laneCdrLock w n) s fun t => t.phase w n = 3 ∧ t.serial = s.serial ∧ t.occ = s.occ) ∧
    (s.phase w n ≠ 2 ∨ s.los w n = true → exec (.laneCdrLock w n) s = .next (settle s)) ∧
    (∀ eq h g, s.phase w n = 3 → s.los w n = false → s.lol w n = false → Takes (.laneAdaptDone w n eq h g) s fun t =>
      t.phase w n = 4 ∧
      (t.serialOf w n).eq.length = 1 + (if w then (if s.rd p Reg.WL_LANE_CFG_RATE < 3 then 5 else 12) else 3) ∧
      (∀ k y, (t.serialOf w n).eq[k]? = some y → y = eq.getD k 0) ∧
      (w = true → t.rd p Reg.WL_LANE_STATE_UP_COUNT = (s.rd p Reg.WL_LANE_STATE_UP_COUNT + 1) % 2 ^ 16 ∧
        t.rd p Reg.WL_RX_EYE_EYE_H = h % 256 ∧ t.rd p Reg.WL_RX_EYE_EYE_W = g % 256) ∧
      (w = false → t.rd p Reg.TL_LANE_STATE_EYE_H = h % 256) ∧
      t.queue p = occPush (s.queue p) (occRecord 0x21 0 s.frameNo)) ∧
    (∀ eq h g, s.phase w n ≠ 3 ∨ s.los w n = true ∨ s.lol w n = true → exec (.laneAdaptDone w n eq h g) s = .next (settle s)) ∧
    (s.phase false n = 4 → s.rd (TL n) Reg.TL_LANE_STATE_BLOCK_LOCK = 0 →
      (Takes (.blockLockAcquire n) s fun t => t.rd (TL n) Reg.TL_LANE_STATE_BLOCK_LOCK = 1 ∧
        t.rd (TL n) Reg.TL_LANE_STATE_RX_INVERTED = b2n (s.serialOf false n).inverted ∧
        (∀ c, c ∈ (t.tlane n).causes ↔ c ∈ (s.tlane n).causes ∨
          (c = 7 ∧ (s.serialOf false n).inverted = true ∧ s.enabled (TL n) = true))) ∧
      (Takes (.blockLockPolarityTimeout n) s fun t =>
        (t.serialOf false n).inverted = !(s.serialOf false n).inverted ∧ t.cur = s.cur ∧ t.occ = s.occ)) ∧
    (s.phase false n ≠ 4 ∨ s.rd (TL n) Reg.TL_LANE_STATE_BLOCK_LOCK = 1 →
      exec (.blockLockAcquire n) s = .next (settle s) ∧ exec (.blockLockPolarityTimeout n) s = .next (settle s))

/-- R306, R307, R309, R310, R311, R312: LOS and LOL. A detector that asserts on an enabled lane sets its bit; a lane in ADAPT or IN_SERVICE falls
back to ACQUIRE, with LANE_DOWN recorded and, on a wide lane, counted in LOSS_EVENTS, and a tile lane loses block lock; near-end parallel loopback
bypasses both, and LOL does not assert under LOS. A cleared detector clears its bit. Background adaptation moves each value by at most one step, and
none while frozen or out of service. LANE_CTL: ADAPT_RESTART takes ADAPT or IN_SERVICE to ADAPT; a change of LOOPBACK takes them to ACQUIRE,
shows LOOPBACK_ON, clears the detectors in near-end parallel loopback, discards the LINE and SHOW packets of a tile lane that wait, and shows LOOPED
of the ports that a wide lane's quad serves; ERR_CLEAR sets the pattern errors to 0. One write may do all three, in the order loopback,
restart, clear. -/
def Obligations.LaneOperation : Prop :=
  ∀ (w : Bool) (n : Nat) (s : State), s.pow.up = true →
    let p := lanePage w n
    let falls (sub : Nat) (t : State) :=
      t.phase w n = (if 3 ≤ s.phase w n then 2 else s.phase w n) ∧
      t.queue p = (if 3 ≤ s.phase w n then occPush (s.queue p) (occRecord 0x20 sub s.frameNo) else s.queue p) ∧
      (3 ≤ s.phase w n → w = false → t.rd p Reg.TL_LANE_STATE_BLOCK_LOCK = 0) ∧
      (w = true → t.rd p Reg.WL_LOSS_EVENTS_LOS = (s.rd p Reg.WL_LOSS_EVENTS_LOS + b2n (sub = 0 ∧ 3 ≤ s.phase w n)) % 2 ^ 16 ∧
        t.rd p Reg.WL_LOSS_EVENTS_LOL = (s.rd p Reg.WL_LOSS_EVENTS_LOL + b2n (sub = 1 ∧ 3 ≤ s.phase w n)) % 2 ^ 16)
    (s.enabled p = true → s.loopback w n ≠ 2 → Takes (.laneLosAssert w n) s fun t => t.los w n = true ∧ t.lol w n = s.lol w n ∧ falls 0 t) ∧
    (s.enabled p = true → s.loopback w n ≠ 2 → s.los w n = false → Takes (.laneLolAssert w n) s fun t =>
      t.lol w n = true ∧ t.los w n = false ∧ falls 1 t) ∧
    (s.enabled p = false ∨ s.loopback w n = 2 → exec (.laneLosAssert w n) s = .next (settle s)) ∧
    (s.enabled p = false ∨ s.loopback w n = 2 ∨ s.los w n = true → exec (.laneLolAssert w n) s = .next (settle s)) ∧
    (Takes (.laneLosClear w n) s fun t => t.los w n = false ∧ t.phase w n = s.phase w n ∧ t.lol w n = s.lol w n ∧ t.occ = s.occ ∧
      t.serial = s.serial) ∧
    (Takes (.laneLolClear w n) s fun t => t.lol w n = false ∧ t.phase w n = s.phase w n ∧ t.los w n = s.los w n ∧ t.occ = s.occ ∧
      t.serial = s.serial) ∧
    (∀ steps, Takes (.laneAdaptUpdate w n steps) s fun t =>
      (t.serialOf w n).eq.length = (s.serialOf w n).eq.length ∧
      (∀ (k : Nat) (x y : Int), (s.serialOf w n).eq[k]? = some x → (t.serialOf w n).eq[k]? = some y →
        y = if s.phase w n = 4 ∧ s.rd p (laneCtl w 4 4) = 0 then x + clampI (-1) 1 (steps.getD k 0) else x) ∧
      t.phase w n = s.phase w n ∧ t.occ = s.occ) ∧
    (∀ (a : Access) (v : Word), (if w then n < 128 else n < 896) → Ready s a p →
      let moved := v.toNat % 4 ≠ s.loopback w n
      let ctl (restart clear : Bool) (t : State) :=
        t.loopback w n = v.toNat % 4 ∧
        t.phase w n = (if moved ∧ 3 ≤ s.phase w n then 2 else if restart ∧ 3 ≤ s.phase w n then 3 else s.phase w n) ∧
        t.queue p = (if moved ∧ s.phase w n = 4 then occPush (s.queue p) (occRecord 0x20 3 s.frameNo)
          else if ¬ moved ∧ restart ∧ 3 ≤ s.phase w n then occPush (s.queue p) (occRecord 0x20 2 s.frameNo) else s.queue p) ∧
        (moved → t.rd p (laneState w 5 5) = b2n (v.toNat % 4 ≠ 0)) ∧
        (moved → v.toNat % 4 = 2 → t.los w n = false ∧ t.lol w n = false) ∧
        (moved → v.toNat % 4 ≠ 0 → w = false → ∀ f ∈ t.scn.framing, f.lane = n → f.h % 16 = 1) ∧
        (moved → w = true → ∀ i, i ∈ [2 * (n / 4), 2 * (n / 4) + 1, 2 * (n / 4 / 2 * 2)] → t.rd (NET i) Reg.NET_PORT_STATE_LOOPED =
          b2n ((t.netLanes i).any fun l => t.rd (WL l) Reg.WL_LANE_STATE_LOOPBACK_ON = 1)) ∧
        (clear = true → if w then t.rd p Reg.WL_PRBS_ERRORS = 0 else t.rd p Reg.TL_LANE_STATE_PRBS_ERRORS = 0) ∧
        t.pnd = s.pnd
      (Takes (.laneAdaptRestart a w n v) s (ctl true (v.getLsbD 9))) ∧
      (Takes (.laneLoopbackChange a w n v) s (ctl (v.getLsbD 8) (v.getLsbD 9))) ∧
      (Takes (.laneErrClear a w n v) s (ctl (v.getLsbD 8) true)))

/-! 14_network_transport.md: links, tables, PTP. -/

/-- R322, R324, R326, R328, R337: LINK of an enabled port rises once, counted and with LINK_UP; it falls with LINK_DOWN; a link that is already so, and a
disabled port, stay. NET_TABLE_WRITE copies TBL_DATA into the entry that TBL_INDEX selects, and INDEX advances; an entry in use keeps its words, with
ENTRY_IN_USE recorded, and an INDEX beyond the table is ACCESS_UNMAPPED. A written POLICER keeps its counts and has its tokens full; a written
RX_FLOW, TX_FLOW or MACSEC entry starts anew. NET_TABLE_READ copies the entry into TBL_DATA, zeros beyond the table. A command with both bits
writes, then reads. -/
def Obligations.NetLinksAndTables : Prop :=
  ∀ (s : State), s.pow.up = true →
    (∀ p, s.enabled (NET p) = true → s.rd (NET p) Reg.NET_PORT_STATE_LINK = 0 → Takes (.netLinkRise p) s fun t =>
      t.rd (NET p) Reg.NET_PORT_STATE_LINK = 1 ∧
      t.rd (NET p) Reg.NET_PORT_STATE_LINK_UPS = (s.rd (NET p) Reg.NET_PORT_STATE_LINK_UPS + 1) % 2 ^ 16 ∧
      t.queue (NET p) = occPush (s.queue (NET p)) (occRecord 0x20 0 s.frameNo) ∧ SameButRecords s { t with cur := s.cur }) ∧
    (∀ p, s.enabled (NET p) = false ∨ s.rd (NET p) Reg.NET_PORT_STATE_LINK = 1 → exec (.netLinkRise p) s = .next (settle s)) ∧
    (∀ p, s.rd (NET p) Reg.NET_PORT_STATE_LINK = 1 → Takes (.netLinkFall p) s fun t => t.rd (NET p) Reg.NET_PORT_STATE_LINK = 0 ∧
        t.rd (NET p) Reg.NET_PORT_STATE_LINK_UPS = s.rd (NET p) Reg.NET_PORT_STATE_LINK_UPS ∧
        t.queue (NET p) = occPush (s.queue (NET p)) (occRecord 0x21 0 s.frameNo) ∧ SameButRecords s { t with cur := s.cur }) ∧
    (∀ p, s.rd (NET p) Reg.NET_PORT_STATE_LINK = 0 → exec (.netLinkFall p) s = .next (settle s)) ∧
    (∀ (a : Access) (x : Nat) (v : Word), x < 2 → Ready s a (NETG x) →
      let i := s.rd (NETG x) Reg.NETG_TBL_INDEX_INDEX
      let table := s.rd (NETG x) Reg.NETG_TBL_INDEX_TABLE
      let p := 32 * x + i / 5
      let unmapped (t : State) := t.net = s.net ∧ t.queue SYS = (s.faulted a 0x10 true (pageBase (NETG x) + 0x44)).queue SYS
      (i < netTableSize table → Takes (.netTableWrite a x v) s fun t =>
        t.rd (NETG x) Reg.NETG_TBL_INDEX_INDEX = (i + 1) % 2 ^ 11 ∧
        (s.netInUse x table i = true → t.net = s.net ∧
          t.queue (NETG x) = occPush (s.queue (NETG x)) (occRecord 0x20 table i)) ∧
        (s.netInUse x table i = false → t.queue (NETG x) = s.queue (NETG x) ∧ (v.getLsbD 1 = false → t.occ = s.occ) ∧
          (∀ w, w < netTableWords table → table ≠ 3 ∨ w < 3 → t.netWord x table i w = (s.word (NETG x) (0x48 + 4 * w)).toNat) ∧
          (∀ w, table = 3 → 3 ≤ w → w < 6 → t.netWord x table i w = s.netWord x table i w) ∧
          (table = 3 → tfind t.net.tokens (x * 512 + i) = some (t.netWord x 3 i 1 % 2 ^ 24 * 8192000000, s.tm.sys)) ∧
          (table = 2 → tfind t.net.tx (2048 * x + i) = none) ∧ (table = 1 → tfind t.net.rx (512 * x + i) = none) ∧
          (table = 4 → i % 5 = 0 → tfind t.net.pnTx p = none) ∧
          (table = 4 → i % 5 ≠ 0 → tfind t.net.pnRx (4 * p + (i % 5 - 1)) = none) ∧
          (∀ y b j, y < 2 → b < 8 → j < 2048 → (y, b, j) ≠ (x, table, i) → t.netEntry y b j = s.netEntry y b j)) ∧
        (v.getLsbD 1 = true → i + 1 < netTableSize table →
          ∀ w, w < 12 → (t.word (NETG x) (0x48 + 4 * w)).toNat = t.netWord x table (i + 1) w % 2 ^ 32)) ∧
      (netTableSize table ≤ i → v.getLsbD 1 = false → Takes (.netTableWrite a x v) s unmapped) ∧
      (exec (.netTableRead a x (v ||| 1)) s = exec (.netTableWrite a x (v ||| 2)) s) ∧
      (v.getLsbD 0 = false → i < netTableSize table → Takes (.netTableRead a x v) s fun t => t.net = s.net ∧ t.occ = s.occ ∧
        (∀ w, w < 12 → (t.word (NETG x) (0x48 + 4 * w)).toNat = s.netWord x table i w % 2 ^ 32)) ∧
      (v.getLsbD 0 = false → netTableSize table ≤ i → Takes (.netTableRead a x v) s fun t => unmapped t ∧
        (∀ w, w < 12 → t.word (NETG x) (0x48 + 4 * w) = 0)))

/-- R338, R256: PTP. A message on a port that takes part, of the instance's domain and transport: Sync gives offset and delay and drives the
servo, which locks after 16 in a row within 100 ns and, on the member whose source it is, steps SYSTIME while no raster or channel is enabled; a
Delay_Req at a master is answered; an Announce names the grandmaster and sets the states of the ports, none MASTER with SLAVE_ONLY. Any other
message, and messages and timers at a port that does not take part, are ignored. At its intervals a master sends Announce, with its grandmaster's
data set or its own, and Sync, with Follow_Up in two-step operation, and a slave Delay_Req. The loss of the master is PTP_LOST, and where PTP is the
source in use the reference is lost. -/
def Obligations.PtpMessages : Prop :=
  ∀ (p t dom : Nat) (v6 : Bool) (s : State), s.pow.up = true →
    let x := p / 32
    let g := NETG x
    let st := s.rd (NET p) Reg.NET_PORT_STATE_PTP_STATE
    let ours := p % 32 ∈ s.ptpPorts x ∧ s.rd g Reg.NETG_PTP_CFG_DOMAIN = dom ∧ s.rd g Reg.NETG_PTP_CFG_IPV6 = b2n v6
    let drives := s.rd SYS Reg.SYS_REF_CFG_TIME_SEL = 1 ∧ s.following = false ∧ s.net.ptpFirst = some x
    let ref (u : State) := u.rd SYS Reg.SYS_REF_STATE_STATE
    (¬ ours → ∀ m, exec (.ptpMessageReceived p t ⟨dom, v6, m⟩) s = .next (settle (s.advance t))) ∧
    (p % 32 ∉ s.ptpPorts x → (∀ m, exec (.ptpMessageTimer p m) s = .next (settle s)) ∧
      exec (.ptpAnnounceTimeout p) s = .next (settle s)) ∧
    (ours → p < 64 →
      (∀ o d, Takes (.ptpMessageReceived p t ⟨dom, v6, (.sync o d)⟩) s fun u =>
        let n := if o.natAbs ≤ 100 then (s.ptpOf x).inLimits + 1 else 0
        let jump := ref s = 1 ∧ s.ref.stepped = false ∧ s.pictureEnabled = false
        u.rd g Reg.NETG_PTP_OFFSET = sat32 o ∧ u.rd g Reg.NETG_PTP_DELAY = d % 2 ^ 32 ∧ (u.ptpOf x).inLimits = n ∧
        (¬ drives → u.tm = (s.advance t).tm ∧ u.ref = s.ref ∧ ref u = ref s ∧ u.occ = s.occ) ∧
        (drives → jump → u.tm.sys = (((s.advance t).tm.sys : Int) - o * 65536).toNat ∧ u.ref.stepped = true ∧ ref u = 1) ∧
        (drives → ref s = 1 → ¬ jump → ref u = (if 16 ≤ n then 2 else 1) ∧ u.ref.steer.natAbs ≤ 1000000 ∧
          u.queue SYS = if 16 ≤ n then occPush (s.queue SYS) (occRecord 0x29 1 (s.advance t).frameNo) else s.queue SYS) ∧
        (drives → ref s = 3 → ref u = 1 ∧ u.occ = s.occ)) ∧
      (exec (.ptpMessageReceived p t ⟨dom, v6, .delayReq⟩) s =
        .next (settle (if st = 6 then (s.advance t).emit (.control p "Delay_Resp") else s.advance t))) ∧
      (exec (.ptpMessageReceived p t ⟨dom, v6, .other⟩) s = .next (settle (s.advance t))) ∧
      (∀ states gm cls m, Takes (.ptpMessageReceived p t ⟨dom, v6, (.announce states gm cls m)⟩) s fun u =>
        let slave := states.find? fun e => e.2 = 9
        u.rd g Reg.NETG_GM_ID_LO = gm % 2 ^ 32 ∧ u.rd g Reg.NETG_GM_ID_HI = gm / 2 ^ 32 % 2 ^ 32 ∧
        u.rd g Reg.NETG_PTP_STATE_SLAVE = b2n slave.isSome ∧ u.rd g ⟨0x84, 4, 0⟩ = ((slave.map (·.1)).getD 0) % 32 ∧
        u.rd g ⟨0x84, 15, 8⟩ = (if slave.isSome then cls else 248) % 256 ∧
        (∀ j k, (j, k) ∈ states → (∀ e ∈ states, e.1 = j → e.2 = k) → j ∈ s.ptpPorts x →
          u.rd (NET (32 * x + j)) Reg.NET_PORT_STATE_PTP_STATE =
            (if k = 6 ∧ s.rd g Reg.NETG_PTP_CFG_SLAVE_ONLY = 1 then 4 else k) % 16) ∧
        (u.ptpOf x).master = m ∧ (u.ptpOf x).grandmaster = gm ∧
        u.queue g = (if (s.ptpOf x).grandmaster = gm then s.queue g
          else occPush (s.queue g) (occRecord 0x21 ((slave.map (·.1)).getD 0) (s.advance t).frameNo)))) ∧
    (p % 32 ∈ s.ptpPorts x → p < 64 →
      (exec (.ptpMessageTimer p .announce) s = .next (settle (if st ≠ 6 then s else s.emit (
        if s.rd g Reg.NETG_PTP_STATE_SLAVE = 1 then
          .announce p (s.rd g Reg.NETG_PTP_CFG_DOMAIN) (s.rd g ⟨0x84, 15, 8⟩) (s.rd g Reg.NETG_GM_ID_LO + 2 ^ 32 * s.rd g Reg.NETG_GM_ID_HI) none
        else
          .announce p (s.rd g Reg.NETG_PTP_CFG_DOMAIN) 248 (s.rd g Reg.NETG_GM_ID_LO + 2 ^ 32 * s.rd g Reg.NETG_GM_ID_HI)
            (some (s.rd g Reg.NETG_PTP_PRIO_PRIORITY1, s.rd g Reg.NETG_PTP_PRIO_PRIORITY2,
              if s.rd SYS Reg.SYS_REF_CFG_TIME_SEL = 2 then 0x90 else 0xA0)))))) ∧
      (exec (.ptpMessageTimer p .delayReq) s = .next (settle (if st = 8 ∨ st = 9 then s.emit (.control p "Delay_Req") else s))) ∧
      (exec (.ptpMessageTimer p .sync) s = .next (settle (if st ≠ 6 then s else
        if s.rd g Reg.NETG_PTP_CFG_TWO_STEP = 1 then (s.emit (.control p "Sync")).emit (.control p "Follow_Up")
        else s.emit (.control p "Sync")))) ∧
      ((s.ptpOf x).master = none → exec (.ptpAnnounceTimeout p) s = .next (settle s)) ∧
      ((s.ptpOf x).master ≠ none → Takes (.ptpAnnounceTimeout p) s fun u =>
        let used := drives ∧ (ref s = 1 ∨ ref s = 2)
        (u.ptpOf x).master = none ∧ (u.ptpOf x).inLimits = 0 ∧ u.rd g Reg.NETG_PTP_STATE_SLAVE = 0 ∧ u.rd g ⟨0x84, 15, 8⟩ = 248 ∧
        u.rd (NET p) Reg.NET_PORT_STATE_PTP_STATE = 4 ∧
        u.queue g = occPush (s.queue g) (occRecord 0x22 (p % 32) s.frameNo) ∧
        (used → ref u = 3 ∧ u.rd SYS Reg.SYS_LOSS_COUNT = (s.rd SYS Reg.SYS_LOSS_COUNT + 1) % 2 ^ 32 ∧
          u.queue SYS = occPush (s.queue SYS) (occRecord 0x28 1 s.frameNo)) ∧
        (¬ used → ref u = ref s ∧ u.queue SYS = s.queue SYS)))

/-! 15_traffic_scheduler.md: selection, gates, staged tables. -/

/-- R330, R337, R342, R350, R354, R356, R358, R360: SCHED_SELECT of a network port. First a head that fits no window of its class is dropped. Only a
candidate is selected, and one that conforms to its committed buckets wherever such a candidate exists: the highest class of weight 0, else the
class, the node of it and the queue state of that of least virtual time. The packet that starts is the head of the selected queue: it takes its
tokens, advances the virtual times and occupies the port for its wire time. A port that is still sending, or whose lanes do not
transmit, starts nothing. A packet that starts leaves, with its SecTAG, unless it is muted or its port disabled or its next hop unknown, each counted.
At a boundary of its gate list a port in force shows the list's gates, and a pending list whose start has come takes over, with GATE_SWITCHED
recorded where a list was running; otherwise the lists stay. A fabric port selects among the frames of its own queues. -/
def Obligations.EgressSelection : Prop :=
  ∀ (p t : Nat) (s : State), s.pow.up = true →
    (∀ k c, s.selectQueue p t = some (k, c) →
      let cls (j : Nat) := s.classOfNode (s.nodeOf j)
      let vc (j : Nat) := tget 0 (s.schPort p).vtClass (cls j)
      let set := if s.committedOf p t = [] then s.candidates p t else s.committedOf p t
      k ∈ set ∧ k ∈ s.candidates p t ∧ (c = true ↔ s.committedOf p t ≠ []) ∧
      (∀ j ∈ set, s.classWeight p (cls j) = 0 → s.classWeight p (cls k) = 0 ∧ cls j ≤ cls k) ∧
      ((∀ j ∈ set, s.classWeight p (cls j) ≠ 0) → ∀ j ∈ set, vc k ≤ vc j) ∧
      (∀ j ∈ set, cls j = cls k → (s.schNode (s.nodeOf k)).vt ≤ (s.schNode (s.nodeOf j)).vt) ∧
      (∀ j ∈ set, s.nodeOf j = s.nodeOf k → (s.queueState k).vt ≤ (s.queueState j).vt)) ∧
    (s.selectQueue p t = none ↔ s.candidates p t = []) ∧
    (64 ≤ p → exec (.schedSelect p t) s = .next (settle ((s.advance t).fabSelect (p - 64) t))) ∧
    (p < 64 →
      let a := s.advance t
      let o := a.dropOversize p t
      let ends (u : State) := u.wr (SCH p) ⟨0x00C, 2, 2⟩ (b2n (u.gateHold p (max t (u.schPort p).freeAt)))
      let still := t < (o.schPort p).freeAt ∨ (o.enabled (NET p) = true ∧ o.portTransmits p = false) ∨ o.selectQueue p t = none
      (s.rd (SCH p) Reg.SCHED_SCHED_CFG_GATE_EN = 0 ∨ s.rd (SCH p) Reg.SCHED_SCHED_CFG_GUARD_MODE = 1 → o = a) ∧
      (∀ k h, (∀ e ∈ s.sch.queues, e.1 < 8192) → k ∈ a.queuesOf p → a.headOf k = some h → s.rd (SCH p) Reg.SCHED_SCHED_CFG_GATE_EN = 1 →
        s.rd (SCH p) Reg.SCHED_SCHED_CFG_GUARD_MODE = 0 →
        (a.neverFits p (a.classOfNode (a.nodeOf k)) (t / 65536) (a.wireTime p h.wire) = true →
          (o.queueState k).pkts.length < (a.queueState k).pkts.length) ∧
        (a.neverFits p (a.classOfNode (a.nodeOf k)) (t / 65536) (a.wireTime p h.wire) = false → o.queueState k = a.queueState k)) ∧
      (still → exec (.schedSelect p t) s = .next (settle (ends o))) ∧
      (∀ k c h, ¬ still → o.selectQueue p t = some (k, c) → o.headOf k = some h →
        let u := o.startHead p t k c h
        let n := o.nodeOf k
        let b := o.bucketsOf p k (cycleAt t)
        exec (.schedSelect p t) s = .next (settle (ends ((u.transmit p t h).packetMarks p t h))) ∧
        (u.queueState k).pkts = (o.queueState k).pkts.tail ∧ (u.queueState k).sent = (o.queueState k).sent + h.wire ∧
        (u.queueState k).bucket = spend b.1 h.wire c ∧ (u.schNode n).bucket = spend b.2.1 h.wire c ∧
        (u.schPort p).bucket = spend b.2.2 h.wire c ∧ (u.schPort p).freeAt = t + o.wireTime p h.wire ∧
        (∀ j, j ≠ k → u.queueState j = o.queueState j) ∧ (∀ j, j ≠ n → u.schNode j = o.schNode j) ∧
        (∀ j, j ≠ p → u.schPort j = o.schPort j) ∧ u.out = s.out)) ∧
    (∀ h, h.sealedFrame = none ∨ s.flowMayCarry h.flow = true →
      let u := s.transmit p t h
      let lost := s.mutedFor h.frame = true ∨ s.enabled (NET p) = false
      let g := NETG (p / 32)
      (lost → u.rd g Reg.NETG_TX_SUPPRESSED = (s.rd g Reg.NETG_TX_SUPPRESSED + 1) % 2 ^ 32 ∧ u.out = s.out ∧ (t, h) ∈ u.shadow) ∧
      (¬ lost → h.resolved = false → u.rd g Reg.NETG_TX_UNRESOLVED = (s.rd g Reg.NETG_TX_UNRESOLVED + 1) % 2 ^ 32 ∧ u.out = s.out) ∧
      (¬ lost → h.resolved = true → u.rd (NET p) Reg.NET_TX_FRAMES = (s.rd (NET p) Reg.NET_TX_FRAMES + 1) % 2 ^ 32 ∧
        u.out = s.out ++ [.packet p t { h with tag := s.secTag p }] ∧
        (∀ tag, s.secTag p = some tag → tget 0 u.net.pnTx p = tag.pn + 1))) ∧
    (∀ b at', (s.schPort p).pendingStart = some (b, at') → at' ≤ t / 65536 → Takes (.gateEntryBoundary p t) s fun u =>
      (u.schPort p).running = true ∧ (u.schPort p).bank = b ∧ (u.schPort p).pendingStart = none ∧
      u.rd (SCH p) Reg.SCHED_GATE_STATE_BANK = b % 2 ∧ u.rd (SCH p) Reg.SCHED_GATE_STATE_SWITCH_PENDING = 0 ∧
      u.queue (SCH p) = (if (s.schPort p).running then occPush (s.queue (SCH p)) (occRecord 0x20 b (s.advance t).frameNo)
        else s.queue (SCH p))) ∧
    ((s.schPort p).pendingStart = none ∨ (∃ b at', (s.schPort p).pendingStart = some (b, at') ∧ t / 65536 < at') →
      Takes (.gateEntryBoundary p t) s fun u => (u.schPort p).running = (s.schPort p).running ∧ (u.schPort p).bank = (s.schPort p).bank ∧
        (u.schPort p).pendingStart = (s.schPort p).pendingStart ∧ u.occ = s.occ) ∧
    (s.rd (SCH p) Reg.SCHED_SCHED_CFG_GATE_EN = 1 → Takes (.gateEntryBoundary p t) s fun u =>
      u.rd (SCH p) Reg.SCHED_GATE_STATE_OPEN = (u.gatesAt p (t / 65536)).2.1 % 256 ∧
      u.rd (SCH p) Reg.SCHED_GATE_STATE_ENTRY = (u.gatesAt p (t / 65536)).1 % 256) ∧
    ((s.schPort p).pendingStart = none → s.rd (SCH p) Reg.SCHED_SCHED_CFG_GATE_EN = 0 →
      exec (.gateEntryBoundary p t) s = .next (settle (s.advance t)))

/-- R344, R345, R355: the table port. SCHED_TABLE_WRITE of tables 0-2 puts TBL_DATA into the entry's pending copy, and the active entry stays; a
pending buffer of 512 entries drops a new one with STAGE_FULL. Of tables 3-4 it changes the entry at once, reserved bits reading 0, but drops
it with TABLE_BUSY for a bank in use. INDEX advances in every case. SCHED_TABLE_READ answers the pending copy where the entry has one,
SCHED_TABLE_READ_ACTIVE the active entry, each with the counts of a subscriber or node. A PORT entry of the other chiplet's fabric port reads 0 and
ignores writes; an INDEX beyond the table is ACCESS_UNMAPPED and reads 0. A command with several bits writes, reads, then reads the active
entry. SCHED_PEAK_CLEAR sets BUF_PEAK to 0 and nothing else. -/
def Obligations.SchedulerTables : Prop :=
  ∀ (a : Access) (x : Nat) (v : Word) (s : State), x < 2 → Ready s a (SCHT x) →
    let q := SCHT x
    let i := s.rd q Reg.SCHT_TBL_INDEX_INDEX
    let table := s.rd q Reg.SCHT_TBL_INDEX_TABLE
    let key := tblKey x table i
    let d (w : Nat) := (s.word q (0x48 + 4 * w)).toNat
    let hdr := if table = 3 then i else i / 256
    let busy := s.gateInUse (if hdr / 2 < 32 then 32 * x + hdr / 2 else 64 + (hdr / 2 - 32)) (hdr % 2) = true
    let unmapped (t : State) := t.sch = s.sch ∧ t.queue SYS = (s.faulted a 0x10 true (pageBase q + 0x44)).queue SYS
    let shows (e : List Nat) (t : State) := t.sch = s.sch ∧ t.occ = s.occ ∧ ∀ w, w < 8 → (t.word q (0x48 + 4 * w)).toNat =
      (if s.schForeign x table i = true then 0 else (s.schShown x table i e).getD w 0 % 2 ^ 32)
    (i < schTableSize table → Takes (.schedTableWrite a x v) s fun t =>
      t.rd q Reg.SCHT_TBL_INDEX_INDEX = (i + 1) % 2 ^ 15 ∧
      (table ≤ 2 → s.schForeign x table i = false → t.sch.tbl = s.sch.tbl ∧
        (tfind s.sch.pend key ≠ none ∨ (s.schPending x).length < 512 → t.queue q = s.queue q ∧
          tfind t.sch.pend key = some (s.tblData q (schTableWords table)) ∧ key ∈ t.sch.touched ∧
          (∀ k, k ≠ key → tfind t.sch.pend k = tfind s.sch.pend k)) ∧
        (tfind s.sch.pend key = none → 512 ≤ (s.schPending x).length → t.sch = s.sch ∧
          t.queue q = occPush (s.queue q) (occRecord 0x22 table i))) ∧
      (s.schForeign x table i = true → t.sch = s.sch ∧ t.queue q = s.queue q) ∧
      (3 ≤ table → busy → t.sch = s.sch ∧ t.queue q = occPush (s.queue q) (occRecord 0x20 table i)) ∧
      (3 ≤ table → ¬ busy → t.queue q = s.queue q ∧ t.sch.pend = s.sch.pend ∧ t.schEntry x table i =
        (if table = 3 then [d 0, d 1, d 2 % 2 ^ 30, d 3 % 2 ^ 9 + 2 ^ 16 * (d 3 / 2 ^ 16 % 2)] else [d 0 % 2 ^ 8, d 1 % 2 ^ 30]) ∧
        (∀ y b j, y < 2 → b < 8 → j < 32768 → (y, b, j) ≠ (x, table, i) → t.schEntry y b j = s.schEntry y b j))) ∧
    (i < schTableSize table → v.getLsbD 0 = false →
      (v.getLsbD 2 = false → Takes (.schedTableRead a x v) s (shows ((tfind s.sch.pend key).getD (s.schEntry x table i)))) ∧
      (Takes (.schedTableReadActive a x v) s (shows (s.schEntry x table i)))) ∧
    (∀ e, s.schShown x 0 i e = (List.range 6).map (e.getD · 0) ++
        [((s.queueState ((2048 * x + i) * 2)).sent + (s.queueState ((2048 * x + i) * 2 + 1)).sent) / 1024 % 2 ^ 32,
          ((s.queueState ((2048 * x + i) * 2)).drops + (s.queueState ((2048 * x + i) * 2 + 1)).drops) % 2 ^ 32] ∧
      s.schShown x 1 i e = (List.range 5).map (e.getD · 0) ++ [(s.schNode (256 * x + i)).sent / 1024 % 2 ^ 32]) ∧
    (schTableSize table ≤ i →
      (v.getLsbD 1 = false → v.getLsbD 2 = false → Takes (.schedTableWrite a x v) s unmapped) ∧
      (v.getLsbD 0 = false → v.getLsbD 2 = false → Takes (.schedTableRead a x v) s fun t => unmapped t ∧
        ∀ w, w < 8 → t.word q (0x48 + 4 * w) = 0) ∧
      (v.getLsbD 0 = false → v.getLsbD 1 = false → Takes (.schedTableReadActive a x v) s fun t => unmapped t ∧
        ∀ w, w < 8 → t.word q (0x48 + 4 * w) = 0)) ∧
    (exec (.schedTableRead a x (v ||| 1)) s = exec (.schedTableWrite a x (v ||| 2)) s ∧
      exec (.schedTableReadActive a x (v ||| 1)) s = exec (.schedTableWrite a x (v ||| 4)) s ∧
      exec (.schedTableRead a x (v ||| 4)) s = exec (.schedTableReadActive a x (v ||| 2)) s) ∧
    (Takes (.schedPeakClear a x v) s fun t => t.rd q Reg.SCHT_BUF_PEAK = 0 ∧ t.sch = s.sch ∧ t.occ = s.occ ∧ t.pnd = s.pnd ∧
      (∀ (r : Page) (o : Nat), r.inBar0 → o < 0x1000 → (r, o) ≠ (q, 0x070) → (r, o) ≠ (q, 0x07C) → t.word r o = s.word r o))

/-! 16_fabric.md: links, lanes, credits. -/

/-- R366, R372, R373, R374, R376: the states of a fabric port. LINK up takes a DOWN port to HELLO; LINK down, or 300 µs of silence, takes it to DOWN,
with FPORT_DOWN recorded. HELLO_TIMER sends HELLO with the serial number while LINK is 1. A HELLO in state HELLO with a version other than 1, or
this device's own serial number, refuses the port (reasons 5 and 1); otherwise AUTH begins, unless the device holds its ports back or has JOIN 0
after AUTH. On an UP port a HELLO of a landed node with another coordinator makes it SEPARATE, and one of the same coordinator ends that. In AUTH a
timeout, or a first message without a root and a certificate here, of another root or of another serial number than HELLO's, refuses it (reasons
3, 2, 4, 3), and so does a failed signature; each message sends the next one of this side; the last takes it to UP with 512 credits for each
VC, or back to HELLO with JOIN 0, and on an UP port the new keys take over. REFUSED_RETRY returns it to HELLO, and REKEY at PN 2⁴⁰ repeats AUTH
while the port stays UP. -/
def Obligations.FabricLinks : Prop :=
  ∀ (p : Nat) (s : State), s.pow.up = true →
    let x := s.fport p
    let refused (t : State) (r : Nat) : Prop :=
      (t.fport p).st = 4 ∧ (p < 16 → t.rd (FPT p) Reg.FPORT_FPORT_STATE_STATE = 4 ∧
        t.rd (FPT p) Reg.FPORT_FPORT_STATE_REASON = r ∧ t.queue (FPT p) = occPush (s.queue (FPT p)) (occRecord 0x22 r s.frameNo))
    let sends (c : Instr) (bs : List FabBody) (P : State → Prop) : Prop := ∃ (u : State) (l : List FabFrame), exec c s = .next (settle u) ∧
      u.out = s.out ++ l.map (fun f => .fabric p s.tm.sys f) ∧ l.map (·.body) = bs ∧ P u
    let root := s.rd (SEC 0) (Reg.SEC0_ROOT_HASH 0) + 2 ^ 32 * s.rd (SEC 0) (Reg.SEC0_ROOT_HASH 1)
    let joins := s.rd FAB Reg.FAB_FAB_CFG_JOIN = 1
    (∀ b, s.fportOn p = false → exec (.fabLinkChange p b) s = .next (settle s)) ∧
    (s.fportOn p = true → x.st = 0 → (Takes (.fabLinkChange p true) s fun t =>
      (t.fport p).st = 1 ∧ (t.fport p).link = true ∧ (p < 16 → t.rd (FPT p) Reg.FPORT_FPORT_STATE_STATE = 1) ∧
      (∀ q, q ≠ p → t.fport q = s.fport q) ∧ t.occ = s.occ ∧ t.pnd = s.pnd) ∧
      exec (.fabLinkChange p false) s = .next (settle (s.setFport p { x with link := false }))) ∧
    (s.fportOn p = true → x.st ≠ 0 → (Takes (.fabLinkChange p false) s fun t => (t.fport p).st = 0 ∧ (t.fport p).link = false ∧
      (p < 16 → t.rd (FPT p) Reg.FPORT_FPORT_STATE_STATE = 0 ∧
        t.queue (FPT p) = occPush (s.queue (FPT p)) (occRecord 0x21 x.st s.frameNo)) ∧ t.pnd = s.pnd) ∧
      exec (.fabLinkChange p true) s = .next (settle (s.setFport p { x with link := true }))) ∧
    (x.st = 0 → exec (.fabPortSilence p) s = .next (settle s)) ∧
    (x.st ≠ 0 → Takes (.fabPortSilence p) s fun t => (t.fport p).st = 0 ∧ (t.fport p).link = x.link ∧
      (p < 16 → t.queue (FPT p) = occPush (s.queue (FPT p)) (occRecord 0x21 x.st s.frameNo)) ∧ t.pnd = s.pnd) ∧
    (x.link = true → ∃ (u : State) (f : FabFrame), exec (.fabHelloTimer p) s = .next (settle u) ∧
      u.out = s.out ++ [.fabric p s.tm.sys f] ∧ f.pn = 0 ∧ f.len = 16 ∧ f.body = .hello s.serialNo
        (if s.landed then s.nodeId else 0xFFFF)
        (if s.landed = true ∧ s.fab.noCoord = false then s.rd FAB Reg.FAB_NODE_STATE_COORD_ID else 0xFFFF) p 1 ∧
      u.cur = s.cur ∧ u.occ = s.occ ∧ (∀ q, q ≠ p → u.fport q = s.fport q)) ∧
    (x.link = false → exec (.fabHelloTimer p) s = .next (settle s)) ∧
    (∀ f serial node coord port version, ArrivesLink s p f → f.body = .hello serial node coord port version →
      let waits := (s.fab.held = true ∧ p < 16) ∨ (x.authed = true ∧ ¬ joins)
      let parted := s.landed = true ∧ node ≠ 0xFFFF ∧ coord ≠ s.rd FAB Reg.FAB_NODE_STATE_COORD_ID
      (x.st = 1 → version ≠ 1 → Takes (.fabHelloReceived p f) s fun t => refused t 5) ∧
      (x.st = 1 → version = 1 → serial = s.serialNo → Takes (.fabHelloReceived p f) s fun t => refused t 1) ∧
      (x.st = 1 → version = 1 → serial ≠ s.serialNo → waits → Takes (.fabHelloReceived p f) s fun t => (t.fport p).st = 1 ∧ t.occ = s.occ) ∧
      (x.st = 1 → version = 1 → serial ≠ s.serialNo → ¬ waits → sends (.fabHelloReceived p f) [.auth (.first s.serialNo root)] fun t =>
        (t.fport p).st = 2 ∧ (t.fport p).hs = some (1, 0) ∧ (t.fport p).peerSerial = serial ∧ (t.fport p).peerNode = node ∧
          (p < 16 → t.rd (FPT p) Reg.FPORT_FPORT_STATE_STATE = 2 ∧ t.rd (FPT p) Reg.FPORT_PEER_SERIAL_LO = serial % 2 ^ 32) ∧
          t.pnd = s.pnd ∧ t.occ = s.occ) ∧
      (p < 16 → x.st = 3 → parted → Takes (.fabHelloReceived p f) s fun t => (t.fport p).st = 5 ∧
        t.rd (FPT p) Reg.FPORT_FPORT_STATE_STATE = 5) ∧
      (p < 16 → x.st = 5 → ¬ parted → Takes (.fabHelloReceived p f) s fun t => (t.fport p).st = 3 ∧
        t.rd (FPT p) Reg.FPORT_FPORT_STATE_STATE = 3) ∧
      (p < 16 → x.st = 3 → ¬ parted → Takes (.fabHelloReceived p f) s fun t => (t.fport p).st = 3 ∧
        t.rd (FPT p) Reg.FPORT_FPORT_STATE_PEER_NODE = node % 2 ^ 12)) ∧
    (∀ f m, ArrivesLink s p f → f.body = .auth m → x.st ≠ 2 → x.st ≠ 3 → x.st ≠ 5 →
      exec (.fabAuthReceived p f) s = .next (settle (s.checked p f))) ∧
    (∀ f serial r, ArrivesLink s p f → f.body = .auth (.first serial r) → x.st = 2 ∨ x.st = 3 ∨ x.st = 5 →
      let keyed := s.rd (SEC 0) Reg.SEC0_SEC_STATE_ROOT_SET = 1 ∧ s.rd (SEC 0) Reg.SEC0_SEC_STATE_CERT_VALID = 1
      (¬ keyed → Takes (.fabAuthReceived p f) s fun t => refused t 2) ∧
      (keyed → r ≠ root → Takes (.fabAuthReceived p f) s fun t => refused t 4) ∧
      (keyed → r = root → serial ≠ x.peerSerial → Takes (.fabAuthReceived p f) s fun t => refused t 3) ∧
      (keyed → r = root → serial = x.peerSerial →
        sends (.fabAuthReceived p f) ((if x.hs = none then [.auth (.first s.serialNo root)] else []) ++ [.auth (.second true)]) fun t =>
          (t.fport p).st = x.st ∧ (t.fport p).hs = some (2, 1) ∧ t.occ = s.occ)) ∧
    (∀ f n, ArrivesLink s p f → x.st = 2 ∨ x.st = 3 ∨ x.st = 5 → x.hs = some (n, 1) →
      (f.body = .auth (.second false) → Takes (.fabAuthReceived p f) s fun t => refused t 3) ∧
      (f.body = .auth (.second true) → sends (.fabAuthReceived p f) [.auth .finish] fun t =>
        (t.fport p).st = x.st ∧ (t.fport p).hs = some (max n 3, 2) ∧ t.occ = s.occ)) ∧
    (∀ f, ArrivesLink s p f → f.body = .auth .finish → x.hs = some (3, 2) →
      (x.st = 2 → p < 16 → joins → Takes (.fabAuthReceived p f) s fun t =>
        (t.fport p).st = 3 ∧ (t.fport p).hs = none ∧ (t.fport p).pnTx = 0 ∧ (t.fport p).pnRx = 0 ∧
        t.rd (FPT p) Reg.FPORT_FPORT_STATE_STATE = 3 ∧ t.rd (FPT p) Reg.FPORT_CREDITS_01 = 512 + 512 * 65536 ∧
        t.rd (FPT p) Reg.FPORT_CREDITS_23 = 512 + 512 * 65536 ∧
        t.queue (FPT p) = occPush (s.queue (FPT p)) (occRecord 0x20 0 (s.nodeDetail x.peerNode))) ∧
      (x.st = 2 → p < 16 → ¬ joins → Takes (.fabAuthReceived p f) s fun t => (t.fport p).st = 1 ∧ (t.fport p).authed = true ∧
        t.rd (FPT p) Reg.FPORT_FPORT_STATE_STATE = 1 ∧ t.occ = s.occ) ∧
      (x.st = 2 → 16 ≤ p → Takes (.fabAuthReceived p f) s fun t => (t.fport p).st = 3 ∧ (t.fport p).hs = none ∧
        (t.fport p).used = [0, 0, 0, 0] ∧ (t.fport p).peerFreed = [0, 0, 0, 0]) ∧
      (x.st = 3 ∨ x.st = 5 → ∃ u : State, exec (.fabAuthReceived p f) s = .next (settle u) ∧
        u.fport p = { x with hs := none, pnTx := 0, pnRx := 0, authed := true } ∧ u.occ = s.occ ∧ u.out = s.out)) ∧
    (x.st = 2 → Takes (.fabAuthTimeout p) s fun t => refused t 3) ∧
    (x.st ≠ 2 → exec (.fabAuthTimeout p) s = .next (settle s)) ∧
    (x.st = 4 → Takes (.fabRefusedRetry p) s fun t => (t.fport p).st = 1 ∧ t.occ = s.occ ∧ t.pnd = s.pnd ∧
      (p < 16 → t.rd (FPT p) Reg.FPORT_FPORT_STATE_STATE = 1 ∧ t.rd (FPT p) Reg.FPORT_FPORT_STATE_REASON = 0)) ∧
    (x.st ≠ 4 → exec (.fabRefusedRetry p) s = .next (settle s)) ∧
    (x.st = 3 → 2 ^ 40 ≤ x.pnTx → x.hs = none → sends (.fabRekey p) [.auth (.first s.serialNo root)] fun u => (u.fport p).st = 3 ∧
      (u.fport p).hs = some (1, 0) ∧ u.cur = s.cur ∧ u.occ = s.occ ∧ (u.fport p).queue = x.queue) ∧
    (x.st ≠ 3 ∨ x.pnTx < 2 ^ 40 ∨ x.hs ≠ none → exec (.fabRekey p) s = .next (settle s))

/-- R358, R361, R363, R370, R371, R374, R380, R381, R397: an automatic remap of a logical lane with LOS or LOL swaps it with the lowest spare lane in service,
sends REMAP and records it, or records REMAP_REFUSED while a group of either page is armed; without a spare, or with AUTO_REMAP 0, nothing changes; a
REMAP that arrives does the same and sends nothing. A CREDIT replaces the peer's counts, and the credits held follow; CREDIT_SEND sends the counts freed
where any changed; a frame that waits for want of credits marks its VC as stalled. A frame for another node is forwarded with HOPS + 1, on the
port that HASH selects, with a wrong FCS if it failed its check; at HOPS 15, and without a route, it is dropped and counted; one for the pair's alias
is dropped by the unit that does not hold the helm; one of a reserved type or on another VC than its type's is counted in DROP_TYPE; what is consumed
frees its credits. A fabric port that can start a frame sends the
head of the lowest VC that its gates, its bucket and its credits allow, consumes credits, and frees those of the port a frame came by once its
last copy is gone; a busy port sends nothing, and GATE_HOLD shows a head that waits for its gate alone. -/
def Obligations.FabricCredits : Prop :=
  ∀ (p : Nat) (s : State), s.pow.up = true →
    let x := s.fport p
    let q := s.fportQuad p
    let armed (n : Nat) := bit (s.rd SYS Reg.SYS_GROUP_ARMED) (s.groupOf (WL (4 * q + n))) = true
    let swapped (l a b : Nat) (t : State) :=
      t.rd (WL (4 * q + a)) Reg.WL_LANE_CFG_LOGICAL = 4 ∧ t.rd (WL (4 * q + b)) Reg.WL_LANE_CFG_LOGICAL = l ∧
      (p < 16 → t.queue (FPT p) = occPush (s.queue (FPT p)) (occRecord 0x23 l (b <<< 40 ||| s.frameNo % 2 ^ 32))) ∧
      (∀ n, n ≠ 4 * q + a → n ≠ 4 * q + b → t.word (WL n) 0x40 = s.word (WL n) 0x40) ∧ t.mem = s.mem
    let kept (l : Nat) (t : State) := (p < 16 → t.queue (FPT p) = occPush (s.queue (FPT p)) (occRecord 0x24 l s.frameNo)) ∧
      (∀ n, t.word (WL n) 0x40 = s.word (WL n) 0x40) ∧ t.out = s.out
    (∀ l, (p < 16 ∧ s.rd (FPT p) Reg.FPORT_FPORT_CFG_AUTO_REMAP = 0) ∨ x.st ≠ 3 ∨ s.spareLane q = none ∨ s.logicalLane q l = none →
      exec (.fabAutoRemap p l) s = .next (settle s)) ∧
    (∀ l a, s.logicalLane q l = some a → s.los true (4 * q + a) = false → s.lol true (4 * q + a) = false →
      exec (.fabAutoRemap p l) s = .next (settle s)) ∧
    (∀ l a b, (p < 16 → s.rd (FPT p) Reg.FPORT_FPORT_CFG_AUTO_REMAP = 1) → x.st = 3 → s.logicalLane q l = some a →
      s.spareLane q = some b → s.los true (4 * q + a) = true ∨ s.lol true (4 * q + a) = true → l < 4 → q < 32 →
      (¬ armed a → ¬ armed b → ∃ (u : State) (f : FabFrame), exec (.fabAutoRemap p l) s = .next (settle u) ∧ swapped l a b u ∧
        u.out = s.out ++ [.fabric p s.tm.sys f] ∧ f.body = .remap l) ∧
      (armed a ∨ armed b → ∃ u : State, exec (.fabAutoRemap p l) s = .next (settle u) ∧ kept l u)) ∧
    (∀ f l a b, ArrivesLink s p f → f.body = .remap l → s.logicalLane q l = some a → s.spareLane q = some b → l < 4 → q < 32 →
      (¬ armed a → ¬ armed b → ∃ u : State, exec (.fabRemapReceived p f) s = .next (settle u) ∧ swapped l a b u ∧ u.out = s.out) ∧
      (armed a ∨ armed b → ∃ u : State, exec (.fabRemapReceived p f) s = .next (settle u) ∧ kept l u)) ∧
    (∀ f l, ArrivesLink s p f → f.body = .remap l → s.logicalLane q l = none ∨ s.spareLane q = none →
      exec (.fabRemapReceived p f) s = .next (settle (s.checked p f))) ∧
    (∀ f c, ArrivesLink s p f → f.body = .credit c → ∃ u : State, exec (.fabCreditReceived p f) s = .next (settle u) ∧
      (u.fport p).peerFreed = [c.getD 0 0, c.getD 1 0, c.getD 2 0, c.getD 3 0] ∧ (u.fport p).used = x.used ∧
      (u.fport p).queue = x.queue ∧ (∀ j, j ≠ p → u.fport j = s.fport j) ∧ u.occ = s.occ ∧ u.pnd = s.pnd ∧
      (p < 16 → u.rd (FPT p) Reg.FPORT_CREDITS_01 = (u.fport p).held 0 + (u.fport p).held 1 * 65536 ∧
        u.rd (FPT p) Reg.FPORT_CREDITS_23 = (u.fport p).held 2 + (u.fport p).held 3 * 65536)) ∧
    (x.st = 3 ∨ x.st = 5 → x.freed ≠ x.freedSent → ∃ (u : State) (f : FabFrame), exec (.fabCreditSend p) s = .next (settle u) ∧
      u.out = s.out ++ [.fabric p s.tm.sys f] ∧ f.body = .credit x.freed ∧ f.pn = x.pnTx + 1 ∧
      (u.fport p).freedSent = x.freed ∧ (u.fport p).used = x.used ∧ u.cur = s.cur ∧ u.occ = s.occ) ∧
    (x.freed = x.freedSent ∨ (x.st ≠ 3 ∧ x.st ≠ 5) → exec (.fabCreditSend p) s = .next (settle s)) ∧
    (∀ vc k, x.head vc = some k → x.held vc < frameCredits k.frame.len → exec (.fabCreditStall p vc) s =
      .next (settle (s.setFport p { x with stalled := sins vc x.stalled }))) ∧
    (∀ vc, (∀ k, x.head vc = some k → frameCredits k.frame.len ≤ x.held vc) → exec (.fabCreditStall p vc) s = .next (settle s)) ∧
    (∀ f, x.link = false ∨ x.st = 0 → exec (.fabFrameForward p f) s = .next (settle s)) ∧
    (∀ f, x.link = true → x.st ≠ 0 → linkType f.body.code = false → typeVc f.body.code = none →
      f.fcsOk = true → f.tagOk = true → x.pnRx < f.pn →
      exec (.fabFrameForward p f) s = .next (settle ((s.checked p f).inc FAB Reg.FAB_DROP_TYPE))) ∧
    (∀ f vc, x.link = true → x.st ≠ 0 → linkType f.body.code = false → typeVc f.body.code = some vc →
      let foreign := unicastType f.body.code = true ∧ s.landed = true ∧ s.addressed f.dst = false ∧
        ¬ (f.body.code = 0x09 ∧ f.dst = 0 ∧ f.src = 0)
      (x.st ≠ 3 → ¬ (x.st = 5 ∧ f.body.code = 0x0B) → exec (.fabFrameForward p f) s = .next (settle (s.checked p f))) ∧
      (x.st = 3 → f.vc ≠ vc →
        exec (.fabFrameForward p f) s = .next (settle (((s.checked p f).inc FAB Reg.FAB_DROP_TYPE).fabFree p f))) ∧
      (x.st = 3 → f.vc = vc → ¬ foreign → exec (.fabFrameForward p f) s = .next (settle ((s.checked p f).fabFree p f)))) ∧
    (∀ f, x.link = true → x.st = 3 → typeVc f.body.code = some f.vc → unicastType f.body.code = true → s.landed = true →
      s.addressed f.dst = false → ¬ (f.body.code = 0x09 ∧ f.dst = 0 ∧ f.src = 0) →
      let c := s.checked p f
      let aside := s.alias = some f.dst ∧ s.pairHolder = false
      (15 ≤ f.hops → exec (.fabFrameForward p f) s = .next (settle ((c.inc FAB Reg.FAB_DROP_HOPS).fabFree p f))) ∧
      (f.hops < 15 → aside → exec (.fabFrameForward p f) s = .next (settle (c.fabFree p f))) ∧
      (f.hops < 15 → ¬ aside → portsOf (s.routeTo f.dst) = [] → Takes (.fabFrameForward p f) s fun t =>
        t.rd FAB Reg.FAB_DROP_NOROUTE = (s.rd FAB Reg.FAB_DROP_NOROUTE + 1) % 2 ^ 32 ∧
        (t.fport p).freed = bump x.freed f.vc (frameCredits f.len) ∧ t.occ = s.occ) ∧
      (∀ d l, f.hops < 15 → ¬ aside → portsOf (s.routeTo f.dst) = d :: l → Takes (.fabFrameForward p f) s fun t =>
        let o := (d :: l).getD (f.hash % (d :: l).length) 0
        (∃ e, (t.fport o).queue = (c.fport o).queue ++ [e] ∧
          e.frame = { f with hops := f.hops + 1, fcsOk := f.fcsOk && f.tagOk && decide (x.pnRx < f.pn) } ∧ (e.arrival.map (·.1)) = some p) ∧
        (∀ j, j ≠ o → t.fport j = c.fport j) ∧
        t.rd FAB Reg.FAB_FWD_FRAMES = (s.rd FAB Reg.FAB_FWD_FRAMES + 1) % 2 ^ 32 ∧ t.occ = s.occ)) ∧
    (∀ t, p < 16 →
      let a := s.advance t
      let o := a.fabOversize p t
      let sp := 64 + p
      let ends (u : State) := u.wr (SCH sp) ⟨0x00C, 2, 2⟩ (b2n (u.fabHold p (max t (u.schPort sp).freeAt)))
      (s.rd (SCH sp) Reg.SCHED_SCHED_CFG_GATE_EN = 0 ∨ s.rd (SCH sp) Reg.SCHED_SCHED_CFG_GUARD_MODE = 1 → o = a) ∧
      (t < (o.schPort sp).freeAt ∨ o.fabChoice p t = none → exec (.schedSelect sp t) s = .next (settle (ends o))) ∧
      (∀ c, (o.schPort sp).freeAt ≤ t → o.fabChoice p t = some c →
        let y := o.fport p
        let u := o.fabTake p t c
        let f : FabFrame := { c.frame with pn := y.pnTx + 1 }
        exec (.schedSelect sp t) s = .next (settle (ends u)) ∧
        y.head c.frame.vc = some c ∧ (y.st = 3 ∨ y.st = 5) ∧ frameCredits c.frame.len ≤ y.held c.frame.vc ∧
        o.gateAllows o.rd sp c.frame.vc t (fabWire c.frame.len) = true ∧
        (∀ v, v < c.frame.vc → ∀ k g, o.fabHead p t v = some (k, g) → g = false) ∧
        (∃ body, u.out = o.out ++ [.fabric p t { f with body := body }] ∧
          (body = f.body ∨ ∃ t2 t3 src d, f.body = .timeResponse t2 t3 src d ∧ body = .timeResponse t2 t src d)) ∧
        (u.fport p).queue = y.queue.erase c ∧ (u.fport p).used = bump y.used c.frame.vc (frameCredits c.frame.len) ∧
        (u.schPort sp).freeAt = t + o.wireTime sp (fabWire c.frame.len) ∧ u.occ = o.occ ∧
        ∃ w : State, w.fport p = { y with
            pnTx := y.pnTx + 1, used := bump y.used c.frame.vc (frameCredits c.frame.len), queue := y.queue.erase c
            stalled := sdel c.frame.vc y.stalled, asked := if c.frame.body = .timeRequest then some t else y.asked } ∧
          u = match c.arrival with
            | some k => if w.fab.ports.any fun e => e.2.queue.any fun v => v.arrival = some k then w else w.fabFree k.1 c.frame
            | none => w))

/-! 16_fabric.md: membership and landing. -/

/-- R375, R379, R380: membership. A landed member floods LINK_STATE with its links and the next SEQ out of every UP port. A LINK_STATE whose SEQ is not
newer than the one held, this device's own, or one of a node that the coordinator here has not admitted, is ignored; another replaces what is held
of its sender and leaves every other UP port with HOPS + 1, and the coordinator drops the members that no link names any more. Of a member silent for
3 ms the coordinator declares NODE_DEPARTED; another device forgets it, or, while eligible itself, its links (the model's choice: assumption
log 33). The route table is written from the link states. A coordinator that is silent is replaced by the eligible member of least priority and
serial number reached, while more than half of the members are; else none shows, till a route update finds one. COORD_SYNC gives an eligible
member the coordinator's members, PLACE table, epochs and role; a coordinator whose COORD_ELIGIBLE is cleared stops acting at once. -/
def Obligations.FabricMembership : Prop :=
  ∀ (s : State), s.pow.up = true →
    let coord (t : State) := t.rd FAB Reg.FAB_NODE_STATE_COORD
    let elects (r : State) (out : Option Nat) (t : State) : Prop :=
      let c := r.reached.filter fun e => e.2.eligible && some e.1 ≠ out
      let most := r.memberAttrs.length < 2 * r.reached.length
      (c = [] ∨ ¬ most → t.fab.noCoord = true ∧ coord t = 0) ∧
      (most → ∀ n a, (n, a) ∈ c → (∀ e ∈ c, e.1 = n → e.2 = a) →
        (∀ e ∈ c, e.1 ≠ n → a.priority * 2 ^ 64 + a.serial < e.2.priority * 2 ^ 64 + e.2.serial) →
        t.fab.noCoord = false ∧ coord t = b2n (n = s.nodeId) ∧ t.rd FAB Reg.FAB_NODE_STATE_COORD_ID = n % 4096 ∧
        (s.rd FAB Reg.FAB_NODE_STATE_COORD_ID ≠ n ∨ s.fab.noCoord = true → (s.queue FAB).recs.length < 64 →
          occRecord 0x24 0 (s.nodeDetail n) ∈ (t.queue FAB).recs))
    (s.landed = false → exec .fabLinkStateTimer s = .next (settle s)) ∧
    (s.landed = true → Takes .fabLinkStateTimer s fun t => t.fab.lsSeq = (s.fab.lsSeq + 1) % 2 ^ 32 ∧ t.cur = s.cur ∧ t.occ = s.occ ∧
      (∀ q ∈ s.upPorts, ∃ e ∈ (t.fport q).queue, e.frame.body = .linkState (s.rd FAB Reg.FAB_OWN_EPOCH) s.ownLinks ∧
        e.frame.seq = t.fab.lsSeq ∧ e.frame.src = s.nodeId) ∧
      (∀ q, q ∉ s.upPorts → t.fport q = s.fport q)) ∧
    (∀ p f a epoch links, ArrivesRouted s p f → f.body = .linkState epoch links →
      let known := match tfind s.fab.members f.src with
        | some m => (match m.seq with | some q => newerSeq f.seq q = false | none => False)
        | none => coord s = 1
      let u := s.setMembers (tins f.src { attrs := a, links := links, seq := some f.seq, epoch := epoch } s.fab.members)
      (s.landed = false ∨ f.src = s.nodeId ∨ known →
        exec (.fabLinkStateReceived p f a) s = .next (settle ((s.checked p f).fabFree p f))) ∧
      (s.landed = true → f.src ≠ s.nodeId → ¬ known → Takes (.fabLinkStateReceived p f a) s fun t =>
        tfind u.fab.members f.src = some { attrs := a, links := links, seq := some f.seq, epoch := epoch } ∧
        (∀ n, n ≠ f.src → tfind u.fab.members n = tfind s.fab.members n) ∧
        (∀ n, tfind t.fab.members n =
          if coord s = 1 ∧ s.linked n = true ∧ u.linked n = false then none else tfind u.fab.members n) ∧
        (∀ k ∈ s.upPorts, k ≠ p → ∃ e ∈ (t.fport k).queue, e.frame = { f with hops := f.hops + 1 }))) ∧
    (∀ n, (tfind s.fab.members n = none → exec (.fabMemberTimeout n) s = .next (settle s)) ∧
      (∀ m, tfind s.fab.members n = some m → Takes (.fabMemberTimeout n) s fun t =>
        (∀ k, k ≠ n → tfind t.fab.members k = tfind s.fab.members k) ∧
        tfind t.fab.members n = (if coord s = 0 ∧ s.rd FAB Reg.FAB_FAB_CFG_COORD_ELIGIBLE = 1 then some { m with links := [] } else none) ∧
        t.rd FAB Reg.FAB_MEMBERS = (t.fab.members.length + 1) % 2 ^ 32 ∧ t.pnd = s.pnd ∧
        (coord s = 1 → (s.queue FAB).recs.length < 64 →
          occRecord 0x21 0 (s.nodeDetail n) ∈ (t.queue FAB).recs))) ∧
    (Takes .fabRouteUpdate s fun t => t.fab.route = s.routes ∧ t.fab.members = s.fab.members ∧ t.fab.mcast = s.fab.mcast ∧ t.pnd = s.pnd ∧
      (s.landed = true → s.fab.noCoord = true → elects { s with fab := { s.fab with route := s.routes } } none t) ∧
      (s.fab.noCoord = false → coord t = coord s ∧ t.fab.noCoord = false)) ∧
    (s.landed = false ∨ coord s = 1 → exec .fabCoordTimeout s = .next (settle s)) ∧
    (s.landed = true → coord s = 0 → Takes .fabCoordTimeout s (elects s (some (s.rd FAB Reg.FAB_NODE_STATE_COORD_ID)))) ∧
    (∀ p f members place recorded config, ArrivesRouted s p f → f.body = .coordSync members place recorded config →
      (s.landed = false ∨ s.rd FAB Reg.FAB_FAB_CFG_COORD_ELIGIBLE = 0 →
        exec (.fabCoordSyncReceived p f) s = .next (settle ((s.checked p f).fabFree p f))) ∧
      (s.landed = true → s.rd FAB Reg.FAB_FAB_CFG_COORD_ELIGIBLE = 1 → Takes (.fabCoordSyncReceived p f) s fun t =>
        t.fab.place = place ∧ t.fab.recorded = recorded ∧ coord t = b2n (f.src = s.nodeId) ∧
        t.rd FAB Reg.FAB_NODE_STATE_COORD_ID = f.src % 4096 ∧ t.fab.noCoord = false ∧
        (∀ n, tfind t.fab.members n ≠ none ↔ n ≠ s.nodeId ∧ ∃ e ∈ members, e.1 = n) ∧
        (∀ e ∈ members, e.1 ≠ s.nodeId → (∀ g ∈ members, g.1 = e.1 → g.2 = e.2) →
          (tfind t.fab.members e.1).map (·.attrs) = some e.2))) ∧
    (∀ a v, Ready s a FAB → Takes (.fabCfgWrite a v) s fun t =>
      t.rd FAB Reg.FAB_FAB_CFG_JOIN = v.toNat % 2 ∧ t.rd FAB Reg.FAB_FAB_CFG_COORD_ELIGIBLE = v.toNat / 2 % 2 ∧
      t.rd FAB Reg.FAB_FAB_CFG_COORD_PRIORITY = fget v 23 16 ∧ t.rd FAB Reg.FAB_FAB_CFG_TIME_PRIORITY = fget v 31 24 ∧
      (s.landed = true → v.getLsbD 1 = false → tfind s.fab.members s.nodeId = none → t.rd FAB Reg.FAB_NODE_STATE_COORD = 0) ∧
      t.pnd = s.pnd ∧ t.fab.members = s.fab.members)

/-- R376, R377, R378: landing. A coordinator answers a direct LAND REQUEST through the port it came by, and a relayed one to the relay: JOIN_OFF where
JOIN is 0; else the ID that PLACE gives its serial number, then its relay and port, then the one requested, then the lowest spare one, where
no member holds it, with an epoch one above the larger of the two; else ID_CONFLICT with a spare ID, or FULL. An alone device that may coordinate
lands its own fabric so, and one that may not answers JOIN_OFF (the model's reading: assumption log 32). Another landed member relays the
request, and passes the answer on. A device that is granted lands with the ID and epoch, and is fenced where its CONFIG_EPOCH differs; ID_CONFLICT
refuses it, with the offer shown, and another refusal leaves it alone. LEAVE sends LINK_STATE with no links and makes a landed device alone with
its ports in HELLO; RELAND lets them leave it; ACCEPT_OFFER requests the offered ID. One write does these in that order. -/
def Obligations.FabricLanding : Prop :=
  ∀ (s : State), s.pow.up = true →
    (∀ serial wanted relay port,
      let c := s.chooseId serial wanted relay port
      let place (n : Nat) (w : List Nat) := tfind s.fab.place n = some w ∧ (n, w) ∈ s.validPlace
      let free (n : Nat) := s.idHeld n = false
      (4095 ≤ s.fab.members.length → c = .inr (2, 0xFFFF)) ∧
      (∀ n, c = .inl n → free n) ∧
      (s.fab.members.length < 4095 → s.validPlace = [] →
        (wanted ≠ 0xFFFF → free wanted → c = .inl wanted) ∧
        (wanted ≠ 0xFFFF → ¬ free wanted → ∃ o, c = .inr (1, o) ∧ (o < 4096 → free o ∧ ∀ k, k < o → ¬ free k)) ∧
        (∀ n, wanted = 0xFFFF → n < 4096 → free n → (∀ k, k < n → ¬ free k) → c = .inl n)) ∧
      (s.fab.members.length < 4095 → ∀ n w, place n w → free n → bit (w.getD 0 0) 1 = false → placeSerial w = serial →
        (∀ e ∈ s.validPlace, bit (e.2.getD 0 0) 1 = false → placeSerial e.2 = serial → e = (n, w)) → c = .inl n)) ∧
    (∀ p f serial wanted epoch config relay port, ArrivesRouted s p f →
      f.body = .landRequest serial wanted epoch config relay port →
      let direct := f.src = 0 ∧ relay = 0xFFFF
      let decides := (s.landed = true ∧ s.rd FAB Reg.FAB_NODE_STATE_COORD = 1) ∨ s.nodeState = 0
      let off := s.rd FAB Reg.FAB_FAB_CFG_JOIN = 0 ∨ (s.nodeState = 0 ∧ s.rd FAB Reg.FAB_FAB_CFG_COORD_ELIGIBLE = 0)
      let c := if direct then s.chooseId serial wanted s.nodeId p else s.chooseId serial wanted relay port
      let answers (t : State) (b : FabBody) := ∀ o, (if direct then o = p else
          portsOf (s.routeTo f.src) ≠ [] ∧ ∃ h, o = (portsOf (s.routeTo f.src)).getD (h % (portsOf (s.routeTo f.src)).length) 0 ∧
            h = fabHash b.code f.src s.nodeId b.kind) →
        ∃ e ∈ (t.fport o).queue, e.frame.body = b ∧ e.frame.seq = f.seq % 2 ^ 32
      (decides → off → Takes (.fabLandRequestReceived p f) s fun t => answers t (.landRefuse 3 0xFFFF) ∧ t.fab.members = s.fab.members) ∧
      (decides → ¬ off → (∀ m ∈ s.fab.members, m.2.attrs.serial ≠ serial) →
        (∀ n, c = .inl n → Takes (.fabLandRequestReceived p f) s fun t =>
          let granted := (max epoch (tget (0, 0) s.fab.recorded n).2 + 1) % 2 ^ 32
          answers t (.landGrant n granted (s.rd SYS Reg.SYS_CONFIG_EPOCH)) ∧
          (tfind t.fab.members n).map (fun m => (m.attrs.serial, m.epoch)) = some (serial, granted) ∧
          tget (0, 0) t.fab.recorded n = (serial, granted) ∧ t.landed = true ∧ t.rd FAB Reg.FAB_NODE_STATE_COORD = 1 ∧
          (∀ k, k ≠ n → tfind t.fab.members k = tfind s.fab.members k) ∧
          ((s.queue FAB).recs.length < 64 → occRecord 0x22 0 (s.nodeDetail n) ∈ (t.queue FAB).recs)) ∧
        (∀ r o, c = .inr (r, o) → Takes (.fabLandRequestReceived p f) s fun t => answers t (.landRefuse r o) ∧
          t.fab.members = s.fab.members)) ∧
      (s.landed = true → s.rd FAB Reg.FAB_NODE_STATE_COORD = 0 → direct → Takes (.fabLandRequestReceived p f) s fun t =>
        tfind t.fab.relays ((s.fab.requests + 1) % 2 ^ 32) = some (p, f.seq) ∧ t.fab.members = s.fab.members) ∧
      (¬ decides → s.landed = false ∨ ¬ direct →
        exec (.fabLandRequestReceived p f) s = .next (settle ((s.checked p f).fabFree p f)))) ∧
    (∀ p f, ArrivesRouted s p f → ∀ b, f.body = b →
      let cmd : Option Instr := match b with
        | .landGrant _ _ _ => some (.fabLandGrantReceived p f)
        | .landRefuse _ _ => some (.fabLandRefuseReceived p f)
        | _ => none
      ∀ i, cmd = some i →
        (∀ q n, s.landed = true → tfind s.fab.relays f.seq = some (q, n) → Takes i s fun t =>
          (∃ e ∈ (t.fport q).queue, e.frame.body = b ∧ e.frame.seq = n) ∧ tfind t.fab.relays f.seq = none ∧ t.cm = s.cm) ∧
        ((s.landed = true ∧ tfind s.fab.relays f.seq = none) ∨ (s.landed = false ∧ (s.nodeState ≠ 1 ∨ f.seq ≠ s.fab.requests)) →
          exec i s = .next (settle ((s.checked p f).fabFree p f)))) ∧
    (∀ p f node epoch config, ArrivesRouted s p f → f.body = .landGrant node epoch config →
      s.nodeState = 1 → f.seq = s.fab.requests → Takes (.fabLandGrantReceived p f) s fun t =>
        t.landed = true ∧ t.nodeId = node % 4096 ∧ t.rd FAB Reg.FAB_NODE_STATE_COORD = 0 ∧
        t.rd FAB Reg.FAB_NODE_STATE_COORD_ID = f.src % 4096 ∧ t.rd FAB Reg.FAB_OWN_EPOCH = epoch % 2 ^ 32 ∧
        t.rd FAB Reg.FAB_ID_OFFER = 0 ∧ ((s.queue FAB).recs.length < 64 → occRecord 0x20 0 (s.nodeDetail node) ∈ (t.queue FAB).recs) ∧
        t.cm.fenced = (s.cm.fenced || decide (s.rd SYS Reg.SYS_CONFIG_EPOCH ≠ config))) ∧
    (∀ p f reason offer, ArrivesRouted s p f → f.body = .landRefuse reason offer → s.nodeState = 1 → f.seq = s.fab.requests →
      (reason = 1 → Takes (.fabLandRefuseReceived p f) s fun t => t.nodeState = 3 ∧ t.isFenced = true ∧
        t.rd FAB Reg.FAB_ID_OFFER = (if offer < 4096 then offer + 4096 else 0) ∧
        t.queue FAB = occPush (s.queue FAB) (occRecord 0x23 0 (s.nodeDetail offer))) ∧
      (reason ≠ 1 → Takes (.fabLandRefuseReceived p f) s fun t => t.nodeState = 0 ∧ t.occ = s.occ)) ∧
    (∀ a v, Ready s a FAB →
      let all (u : State) (leave reland accept : Bool) : State :=
        let t := if leave then u.fabLeave else u
        let t := if reland then t.fabReland else t
        if accept then t.fabAcceptOffer else t
      ∃ u, ActionStored FAB 0x64 s u ∧
        exec (.fabLeave a v) s = .next (settle (all u true (v.getLsbD 1) (v.getLsbD 2))) ∧
        exec (.fabReland a v) s = .next (settle (all u (v.getLsbD 0) true (v.getLsbD 2))) ∧
        exec (.fabAcceptOffer a v) s = .next (settle (all u (v.getLsbD 0) (v.getLsbD 1) true))) ∧
    (s.landed = true →
      let t := s.fabLeave
      t.nodeState = 0 ∧ t.nodeId = 0 ∧ t.fab.held = true ∧ t.fab.members = [] ∧ t.fab.wanted = s.nodeId ∧ t.pnd = s.pnd ∧
        (∀ p, p < 16 → (s.fport p).st ≠ 0 → (s.fport p).st ≠ 4 → (t.fport p).st = 1) ∧
        ∃ l : List (Nat × FabFrame), t.out = s.out ++ l.map (fun e => .fabric e.1 s.tm.sys e.2) ∧ l.map (·.1) = s.upPorts ∧
          ∀ e ∈ l, e.2.body = .linkState (s.rd FAB Reg.FAB_OWN_EPOCH) []) ∧
    (s.landed = false → s.fabLeave = s) ∧
    (s.fabReland.fab.held = false ∧ s.fabReland.pnd = s.pnd ∧ s.fabReland.occ = s.occ ∧ s.fabReland.fab.members = s.fab.members) ∧
    (s.nodeState ≠ 3 ∨ s.rd FAB Reg.FAB_ID_OFFER_VALID = 0 → s.fabAcceptOffer = s) ∧
    (s.nodeState = 3 → s.rd FAB Reg.FAB_ID_OFFER_VALID = 1 →
      let t := s.fabAcceptOffer
      let w := s.rd FAB Reg.FAB_ID_OFFER % 4096
      t.fab.wanted = w ∧
      (∀ p, (s.upPorts.find? fun p => (s.fport p).peerNode ≠ 0xFFFF) = some p → t.nodeState = 1 ∧
        ∃ e ∈ (t.fport p).queue, ∃ ep ce, e.frame.body = .landRequest s.serialNo w ep ce 0xFFFF 0xFF) ∧
      ((s.upPorts.find? fun p => (s.fport p).peerNode ≠ 0xFFFF) = none → t.nodeState = 3 ∧ t.cur = s.cur))

/-! 16_fabric.md: time distribution and remote access. -/

/-- R382: an UP or SEPARATE port sends TIME requests, each with the next SEQ; a request is answered with the instant of its arrival; a response to the
latest request gives a follower, on its parent port, offset, delay and REF_DIV, FOLLOWING after 16 offsets in a row within 10 ns, and steers
SYSTIME: one step while no raster or channel is enabled, else a rate offset. R385, R386, R49: a remote access to another node sends one REG request
and runs; without a route it FAILS with result 4; one to this device's own node is executed here, as this node's fabric access, and ends DONE with
the fault that it met; START_BUSY while it runs, and a START with ABORT never begins. ABORT ends a running one ABORTED, the timeout FAILED
with result 5, and the response that matches it DONE with its result, and its data for a read that is OK. A REG request is executed with its
sender as fabric requester, and answered with the value read and the fault met. -/
def Obligations.FabricTimeAndAccess : Prop :=
  ∀ (s : State), s.pow.up = true →
    let timed (p : Nat) (f : FabFrame) := (s.fport p).link = true ∧ ((s.fport p).st = 3 ∨ (s.fport p).st = 5) ∧ f.fcsOk = true ∧ f.tagOk = true ∧
      (s.fport p).pnRx < f.pn ∧ f.vc = 0
    (∀ p, (s.fport p).st ≠ 3 → (s.fport p).st ≠ 5 → exec (.fabTimeRequestTimer p) s = .next (settle s)) ∧
    (∀ p, (s.fport p).st = 3 ∨ (s.fport p).st = 5 → Takes (.fabTimeRequestTimer p) s fun t =>
      (t.fport p).exchange = ((s.fport p).exchange + 1) % 2 ^ 32 ∧ (t.fport p).asked = none ∧
      (∃ e ∈ (t.fport p).queue, e.frame.body = .timeRequest ∧ e.frame.seq = (t.fport p).exchange) ∧ t.pnd = s.pnd) ∧
    (∀ p f i, timed p f → f.body = .timeRequest → Takes (.fabTimeRequestReceived p f i) s fun t =>
      (∃ e ∈ (t.fport p).queue, e.frame.body = .timeResponse i 0 (s.rd FAB ⟨0x058, 11, 0⟩) (s.rd SYS Reg.SYS_REF_STATE_REF_DIV_M1 + 1) ∧
        e.frame.seq = f.seq % 2 ^ 32) ∧ t.pnd = s.pnd ∧ t.tm = s.tm) ∧
    (∀ p f i t2 t3 src d, timed p f → f.body = .timeResponse t2 t3 src d →
      let c := s.checked p f
      let follows := s.following = true ∧ s.parentOf (s.rd FAB ⟨0x058, 11, 0⟩) = some p
      (f.seq ≠ (s.fport p).exchange → exec (.fabTimeResponseReceived p f i) s = .next (settle (c.fabFree p f))) ∧
      (f.seq = (s.fport p).exchange → (s.fport p).asked = none →
        exec (.fabTimeResponseReceived p f i) s = .next (settle ((c.advance i).fabFree p f))) ∧
      (∀ t1, f.seq = (s.fport p).exchange → (s.fport p).asked = some t1 → ¬ follows → Takes (.fabTimeResponseReceived p f i) s fun t =>
        t.rd FAB Reg.FAB_TIME_OFFSET = s.rd FAB Reg.FAB_TIME_OFFSET ∧ t.rd FAB Reg.FAB_TIME_DELAY = s.rd FAB Reg.FAB_TIME_DELAY ∧
        t.tm = (s.advance i).tm ∧ t.freeCount = s.freeCount) ∧
      (∀ t1, f.seq = (s.fport p).exchange → (s.fport p).asked = some t1 → follows →
        s.timeSource = s.rd FAB ⟨0x058, 11, 0⟩ → s.rd FAB ⟨0x058, 16, 13⟩ = p →
        Takes (.fabTimeResponseReceived p f i) s fun t =>
          let off : Int := (((t2 : Int) - t1) - ((i : Int) - t3)) / 2
          let delay : Int := (((i : Int) - t1) - ((t3 : Int) - t2)) / 2
          let jump := s.fab.stepped = false ∧ s.pictureEnabled = false
          t.rd FAB Reg.FAB_TIME_OFFSET = sat32 (off / 65536) ∧ t.rd FAB Reg.FAB_TIME_DELAY = twos 32 (delay / 65536) ∧
          t.rd SYS Reg.SYS_REF_STATE_REF_DIV_M1 = (d - 1) % 8 ∧
          (ns 10 < off.natAbs → t.rd FAB Reg.FAB_TIME_STATE_FOLLOWING = 0 ∧ t.fab.near = 0) ∧
          (off.natAbs ≤ ns 10 → t.fab.near = s.fab.near + 1) ∧
          (off.natAbs ≤ ns 10 → 15 ≤ s.fab.near → t.rd FAB Reg.FAB_TIME_STATE_FOLLOWING = 1) ∧
          (jump → t.tm.sys = (((s.advance i).tm.sys : Int) + off).toNat ∧ t.fab.stepped = true) ∧
          (¬ jump → t.tm = (s.advance i).tm ∧ t.ref.steer.natAbs ≤ 1000000 ∧ (off = 0 → t.ref.steer = 0) ∧
            (0 < off → 0 ≤ t.ref.steer) ∧ (off < 0 → t.ref.steer ≤ 0)))) ∧
    (∀ a v k, Ready s a FAB →
      let running := s.opState FAB 0x98 = 1
      let busy := occRecord 0x02 0 s.frameNo
      let late := occRecord 0x01 0 s.frameNo
      (running → v.getLsbD 1 = false → Takes (.rraStart a v k) s fun t => t.queue FAB = occPush (s.queue FAB) busy ∧ t.fab = s.fab) ∧
      (¬ running → v.getLsbD 1 = false →
        ∃ u, ActionStored FAB 0x94 s u ∧ exec (.rraStart a v k) s = .next (settle (u.rraStart k))) ∧
      (running → v.getLsbD 0 = false → Takes (.rraAbort a v) s fun t => t.opState FAB 0x98 = 3 ∧ t.fab.rra = none ∧ t.occ = s.occ) ∧
      (¬ running → v.getLsbD 0 = false → Takes (.rraAbort a v) s fun t => t.queue FAB = occPush (s.queue FAB) late ∧ t.fab = s.fab) ∧
      (exec (.rraStart a (v ||| 2) k) s = exec (.rraAbort a (v ||| 1)) s) ∧
      (running → Takes (.rraAbort a (v ||| 1)) s fun t => t.queue FAB = occPush (s.queue FAB) busy ∧ t.opState FAB 0x98 = 3 ∧
        t.fab.rra = none) ∧
      (¬ running → Takes (.rraAbort a (v ||| 1)) s fun t => t.fab = s.fab ∧ t.occ = s.occ ∧ t.opState FAB 0x98 = 3)) ∧
    (∀ (k : WriteFinds),
      let dst := s.rd FAB Reg.FAB_RRA_TARGET_NODE
      let addr := s.rd FAB Reg.FAB_RRA_ADDR_BAR0 / 4 * 4
      let write := s.rd FAB Reg.FAB_RRA_TARGET_WRITE = 1
      let own : Access := ⟨.fabric s.nodeId, true⟩
      let begun := s.setOp FAB 0x98 1 1
      let t := s.rraStart k
      (dst ≠ s.nodeId → s.routeTo dst = 0 →
        t.opState FAB 0x98 = 4 ∧ t.rd FAB Reg.FAB_RRA_RESULT = 4 ∧
        t.rd FAB Reg.FAB_DROP_NOROUTE = (s.rd FAB Reg.FAB_DROP_NOROUTE + 1) % 2 ^ 32 ∧ t.occ = s.occ ∧ t.fab.ports = s.fab.ports) ∧
      (∀ q l, dst ≠ s.nodeId → portsOf (s.routeTo dst) = q :: l →
        t.opState FAB 0x98 = 1 ∧ t.rd FAB Reg.FAB_RRA_OP_STATUS_PROGRESS = 1 ∧ t.fab.rra = some ((s.fab.rraSeq + 1) % 2 ^ 32) ∧
        t.occ = s.occ ∧
        ∃ o ∈ q :: l, ∃ e ∈ (t.fport o).queue, e.frame.dst = dst ∧ e.frame.seq = (s.fab.rraSeq + 1) % 2 ^ 32 ∧
          e.frame.body = .reg (decide write) false addr (s.rd FAB Reg.FAB_RRA_WDATA) 0) ∧
      (dst = s.nodeId → ¬ write →
        let r := begun.readWith own addr
        t.opState FAB 0x98 = 2 ∧ t.rd FAB Reg.FAB_RRA_RESULT = rraCode r.2.2 ∧ t.fab.rra = none ∧ t.occ = r.1.occ ∧
        (r.2.2 = none → t.rd FAB Reg.FAB_RRA_RDATA = r.2.1 % 2 ^ 32)) ∧
      (dst = s.nodeId → write → regAt addr = none →
        t.opState FAB 0x98 = 2 ∧ t.rd FAB Reg.FAB_RRA_RESULT = 2 ∧ t.pnd = s.pnd ∧
        t.queue SYS = occPush (s.queue SYS) (occRecord 0x10 2 (s.nodeId % 4096 * 2 ^ 36 + 2 ^ 26 + addr))) ∧
      (dst = s.nodeId → write →
        let w := begun.writeWith own addr (s.word FAB 0x8C) k id
        w.opState FAB 0x98 = 1 → t.opState FAB 0x98 = 2 ∧ t.rd FAB Reg.FAB_RRA_RESULT = rraCode (begun.faultOfWrite own addr) ∧
          t.pnd = w.pnd ∧ t.mem = w.mem ∧ t.occ = w.occ)) ∧
    (s.opState FAB 0x98 = 1 → ∃ u : State, exec .rraTimeout s = .next (settle u) ∧ u.opState FAB 0x98 = 4 ∧
      u.rd FAB Reg.FAB_RRA_RESULT = 5 ∧ u.fab = { s.fab with rra := none } ∧ u.occ = s.occ ∧ u.pnd = s.pnd) ∧
    (s.opState FAB 0x98 ≠ 1 → exec .rraTimeout s = .next (settle s)) ∧
    (∀ p f write offset data result, ArrivesRouted s p f → f.body = .reg write true offset data result →
      (s.opState FAB 0x98 ≠ 1 ∨ s.fab.rra ≠ some f.seq →
        exec (.fabRegResponseReceived p f) s = .next (settle ((s.checked p f).fabFree p f))) ∧
      (s.opState FAB 0x98 = 1 → s.fab.rra = some f.seq → Takes (.fabRegResponseReceived p f) s fun t =>
        t.opState FAB 0x98 = 2 ∧ t.rd FAB Reg.FAB_RRA_RESULT = result % 8 ∧ t.fab.rra = none ∧ t.occ = s.occ ∧
        t.rd FAB Reg.FAB_RRA_RDATA = if write = false ∧ result = 0 then data % 2 ^ 32 else s.rd FAB Reg.FAB_RRA_RDATA)) ∧
    (∀ p f k offset data r0, ArrivesRouted s p f →
      let c := s.checked p f
      let from' : Access := ⟨.fabric f.src, true⟩
      (f.body = .reg true false offset data r0 → exec (.fabRegRequestReceived p f k) s = .next (settle
        (((c.busWrite from' (alignedOf offset) (BitVec.ofNat 32 data) k).fabSend f.src
          (.reg true true offset data (rraCode (c.faultOfWrite from' (alignedOf offset)))) 0 f.seq).fabFree p f))) ∧
      (f.body = .reg false false offset data r0 → exec (.fabRegRequestReceived p f k) s = .next (settle
        (((c.readWith from' (alignedOf offset)).1.fabSend f.src
          (.reg false true offset (c.readWith from' (alignedOf offset)).2.1 (rraCode (c.readWith from' (alignedOf offset)).2.2)) 0
          f.seq).fabFree p f))))

/-! 16_fabric.md: ferries, rectangles, events, tables. -/

/-- R387, R388, R389, R391: a JOIN puts its port into the ferry's MCAST entry, a LEAVE or an expiry takes it out, a full table of 1,024 entries discards a
JOIN with MCAST_FULL, and both go on through the lowest port towards the producer. A stream that reads a ferry refreshes its subscription. A FERRY
frame leaves every port of its entry but its own with HOPS + 1, with a wrong FCS if it failed its check, and a sound one reaches the local streams
where LOCAL is set: a stale epoch or an old SEQ is ignored, a gap discards the emission, and the last frame gives its NAL units to each
stream. A RECT line is written into the sink's surface where the entry, as it stood at the sender's frame, names the sender, and nowhere else. An
EVENT keeps the level of each (node, source) pair: a new pair takes a free place or the oldest one at level 0, else it is counted. The
table port writes PLACE, RECT and the FERRY entries that no running channel uses, records TABLE_BUSY, ACCESS_RO_WRITE and ACCESS_UNMAPPED, and
reads an entry into TBL_DATA; a command with both bits writes, then reads. -/
def Obligations.FabricDelivery : Prop :=
  ∀ (s : State), s.pow.up = true →
    let onwards (producer id : Nat) (leave : Bool) (t : State) : Prop :=
      ∀ h, s.addressed producer = false → s.ferryNode ≠ producer → s.parentOf producer = some h →
        ∃ e ∈ (t.fport h).queue, e.frame.body = .join producer ∧ e.frame.tag = id + 256 * b2n leave
    (∀ p f producer, ArrivesRouted s p f → f.body = .join producer → p < 16 → producer < 4096 →
      let id := f.tag % 256
      let mine := s.fab.mcast.filter fun e => e.2.1 % 4096 = producer && bits e.2.1 19 12 = id
      (bit f.tag 8 = false → mine ≠ [] ∨ s.fab.mcast.length < 1024 → Takes (.fabJoinReceived p f) s fun t =>
        (∃ i w, t.mcastOf producer id = some (i, w) ∧ bit w.2 p = true) ∧ onwards producer id false t) ∧
      (bit f.tag 8 = false → mine = [] → 1024 ≤ s.fab.mcast.length → Takes (.fabJoinReceived p f) s fun t =>
        t.fab.mcast = s.fab.mcast ∧ t.queue FAB = occPush (s.queue FAB) (occRecord 0x26 id (s.nodeDetail producer))) ∧
      (bit f.tag 8 = true → mine = [] → Takes (.fabJoinReceived p f) s fun t => t.fab.mcast = s.fab.mcast ∧ onwards producer id true t) ∧
      (∀ e, bit f.tag 8 = true → mine = [e] → Takes (.fabJoinReceived p f) s fun t =>
        (∀ i w, t.mcastOf producer id = some (i, w) → bit w.2 p = false) ∧ onwards producer id true t)) ∧
    (∀ d,
      let reads := (tget ({} : DecStream) s.dec d).running = true ∧ s.rdL (DEC d) Reg.DEC_DEC_CFG_SOURCE = 1
      let node := s.rdL (DEC d) Reg.DEC_FERRY_SRC_NODE
      let id := s.rdL (DEC d) Reg.DEC_FERRY_SRC_FERRY_ID
      (¬ reads ∨ s.ferryNode = node → exec (.fabJoinRefresh d) s = .next (settle s)) ∧
      (reads → s.ferryNode ≠ node → s.fab.mcast.length < 1024 → Takes (.fabJoinRefresh d) s fun t =>
        (∃ i w, t.mcastOf node id = some (i, w) ∧ bit w.1 20 = true) ∧ onwards node id false t ∧ t.occ = s.occ) ∧
      (reads → s.ferryNode ≠ node → s.mcastOf node id = none → 1024 ≤ s.fab.mcast.length → Takes (.fabJoinRefresh d) s fun t =>
        t.fab.mcast = s.fab.mcast ∧ t.queue FAB = occPush (s.queue FAB) (occRecord 0x26 id (s.nodeDetail node)))) ∧
    (∀ i p, tfind s.fab.mcast i = none → exec (.fabMcastExpiry i p) s = .next (settle s)) ∧
    (∀ i p w, p ≤ 16 → tfind s.fab.mcast i = some w →
      (s.fab.mcast.filter fun e => e.2.1 % 4096 = w.1 % 4096 && bits e.2.1 19 12 = bits w.1 19 12) = [(i, w)] →
      Takes (.fabMcastExpiry i p) s fun t =>
        (∀ j v, t.mcastOf (w.1 % 4096) (bits w.1 19 12) = some (j, v) → if p = 16 then bit v.1 20 = false else bit v.2 p = false) ∧
        t.cur = s.cur ∧ t.occ = s.occ ∧ (∀ q, t.fport q = s.fport q)) ∧
    (∀ p f nals, (s.fport p).link = true → (s.fport p).st = 3 → f.body = .ferry → f.vc = 2 →
      let c := s.fabCheck p f
      (s.mcastOf f.src (f.tag % 256) = none → exec (.fabFerryReceived p f nals) s = .next (settle (c.1.fabFree p f))) ∧
      (∀ i w, s.mcastOf f.src (f.tag % 256) = some (i, w) →
        let outs := (portsOf w.2).filter (· ≠ p)
        ∃ u : State, exec (.fabFerryReceived p f nals) s =
            .next (settle (if bit w.1 20 = true ∧ c.2 = true then u.ferryDeliver f nals else u)) ∧
          (outs = [] ∨ 15 ≤ f.hops → (u.fport p).freed = bump (s.fport p).freed 2 (frameCredits f.len) ∧
            (∀ q, (u.fport q).queue = (s.fport q).queue)) ∧
          (outs ≠ [] → 15 ≤ f.hops → u.rd FAB Reg.FAB_DROP_HOPS = (s.rd FAB Reg.FAB_DROP_HOPS + 1) % 2 ^ 32) ∧
          (outs ≠ [] → f.hops < 15 →
            (∀ q ∈ outs, ∃ e, (u.fport q).queue = (s.fport q).queue ++ [e] ∧
              e.frame = { f with hops := f.hops + 1, fcsOk := c.2 }) ∧
            (∀ q, q ≠ p → q ∉ outs → u.fport q = s.fport q) ∧
            u.rd FAB Reg.FAB_FWD_FRAMES = (s.rd FAB Reg.FAB_FWD_FRAMES + 1) % 2 ^ 32) ∧
          u.mem = s.mem ∧ u.dec = s.dec ∧ u.fab.ferries = s.fab.ferries)) ∧
    (∀ (f : FabFrame) nals,
      let id := f.tag % 256
      let k := f.src * 256 + id
      let e := f.tag / 65536 % 65536
      let x := tget ({ epoch := e, seq := none, gap := false, nals := [] } : FerryRx) s.fab.ferries k
      let old := staleEpoch e x.epoch = true ∨ ∃ q, x.seq = some q ∧ newerSeq f.seq q = false
      let gap := x.gap = true ∨ ∃ q, x.seq = some q ∧ f.seq ≠ (q + 1) % 2 ^ 32
      let got := x.nals ++ nals.map (ferryNal f.frameNo)
      let t := s.ferryDeliver f nals
      (old → t = s) ∧
      (¬ old → f.last = false → t.dec = s.dec ∧ (gap → tfind t.fab.ferries k = some { epoch := e, seq := some f.seq, gap := true, nals := [] }) ∧
        (¬ gap → tfind t.fab.ferries k = some { epoch := e, seq := some f.seq, gap := false, nals := got })) ∧
      (¬ old → f.last = true → gap → t.dec = s.dec ∧ tfind t.fab.ferries k = some { epoch := e, seq := some f.seq, gap := false, nals := [] }) ∧
      (¬ old → f.last = true → ¬ gap → ∃ u : State, SameButEvents s { u with fab := s.fab } ∧
        tfind u.fab.ferries k = some { epoch := e, seq := some f.seq, gap := false, nals := [] } ∧
        t = u.each (s.ferryStreams f.src id) fun a d => a.each got fun b n => b.decNal d n)) ∧
    (∀ p f pix, ArrivesRouted s p f → f.body = .rect pix →
      let i := f.tag % 16
      let now := tget [] s.fab.rectSink i
      let w := match tfind s.fab.sinks i with
        | some u => if u.1 = f.frameNo then u.2 else now
        | none => now
      let width := w.getD 2 0 % 65536
      let line := f.seq % 65536
      let x := f.seq / 65536
      let mine := bit (w.getD 0 0) 31 = true ∧ w.getD 0 0 % 4096 = f.src ∧ line < w.getD 2 0 / 65536 ∧ x < width
      (¬ mine → Takes (.fabRectReceived p f) s fun t => t.mem = s.mem ∧ t.occ = s.occ ∧ tfind t.fab.sinks i = some (f.frameNo, w)) ∧
      (mine → ∃ u : State, exec (.fabRectReceived p f) s = .next (settle ((u.writeChecked .firmware
          (w.getD 1 0 % 2 ^ 21 * 65536 + line * pitchOf 2 width + 6 * x)
          ((pix.take (width - x)).flatMap fun c => leBytes 2 c.1 ++ leBytes 2 c.2.1 ++ leBytes 2 c.2.2)).fabFree p f)) ∧
        u.mem = s.mem ∧ u.leases = s.leases ∧ tfind u.fab.sinks i = some (f.frameNo, w))) ∧
    (∀ p f levels, ArrivesRouted s p f → f.body = .event levels → exec (.fabEventReceived p f) s =
      .next (settle (((s.checked p f).each levels fun u e => u.remoteLevel f.src e.1 e.2).fabFree p f))) ∧
    (∀ node src lvl,
      let pair := node % 4096 + src % 512 * 4096
      let of (t : State) := t.fab.remote.find? fun e => e.2.1 % 2 ^ 21 = pair
      let full := 256 ≤ s.fab.remote.length
      let low := s.fab.remote.filter fun e => !(bit e.2.1 31)
      let t := s.remoteLevel node src lvl
      ((of s).isSome = true ∨ ¬ full → ((of t).map fun e => bit e.2.1 31) = some lvl ∧ t.cur = s.cur) ∧
      (of s = none → full → low = [] →
        t.fab = s.fab ∧ t.rd FAB Reg.FAB_REMOTE_EVT_LOST = (s.rd FAB Reg.FAB_REMOTE_EVT_LOST + 1) % 2 ^ 32) ∧
      (of s = none → full → low ≠ [] → t.cur = s.cur ∧ ∃ i w n, (tget (0, 0) s.fab.remote i = (w, n)) ∧
        (∃ e ∈ low, e.1 = i) ∧ (∀ e ∈ low, n ≤ (tget (0, 0) s.fab.remote e.1).2) ∧
        tfind t.fab.remote i = some (pair + 2 ^ 31 * b2n lvl, s.fab.remoteNext) ∧
        (∀ j, j ≠ i → tfind t.fab.remote j = tfind s.fab.remote j)) ∧
      t.occ = s.occ) ∧
    (∀ a v, Ready s a FAB →
      let i := s.rd FAB Reg.FAB_TBL_INDEX_INDEX
      let table := s.rd FAB Reg.FAB_TBL_INDEX_TABLE
      let data := (List.range 3).map fun k => s.rd FAB (Reg.FAB_TBL_DATA k)
      let refuses (code : Nat) (t : State) := t.queue SYS = (s.faulted a code true (pageBase FAB + 0x70)).queue SYS
      let bumped (t : State) := t.rd FAB Reg.FAB_TBL_INDEX_INDEX = (i + 1) % 4096
      (fabTableSize table ≤ i → v.getLsbD 1 = false → Takes (.fabTableWrite a v) s fun t => t.fab = s.fab ∧ refuses 0x10 t) ∧
      (i < fabTableSize table → table = 0 ∨ table = 3 ∨ table = 6 → Takes (.fabTableWrite a v) s fun t => t.fab = s.fab ∧ bumped t ∧
        (v.getLsbD 1 = false → refuses 0x12 t)) ∧
      (table = 1 → Takes (.fabTableWrite a v) s fun t => tget [] t.fab.place i = data ∧
        (∀ j, j ≠ i → tget [] t.fab.place j = tget [] s.fab.place j) ∧ bumped t ∧ t.queue FAB = s.queue FAB) ∧
      (table = 2 → i < 256 →
        let old := tget 0 s.fab.ferry i
        let st := s.rd (ENC (old % 128)) Reg.ENC_CH_STATE_STATE
        let busy := bit old 31 = true ∧ (st = 2 ∨ st = 3)
        (busy → Takes (.fabTableWrite a v) s fun t => t.fab = s.fab ∧ bumped t ∧
          t.queue FAB = occPush (s.queue FAB) (occRecord 0x27 2 i)) ∧
        (¬ busy → Takes (.fabTableWrite a v) s fun t => bumped t ∧
          t.fab = { s.fab with ferry := tput 0 s.fab.ferry i (s.rd FAB (Reg.FAB_TBL_DATA 0)) } ∧ t.queue FAB = s.queue FAB)) ∧
      (i < 16 → (table = 4 → Takes (.fabTableWrite a v) s fun t => bumped t ∧
          t.fab = { s.fab with rectExport := tput [] s.fab.rectExport i data } ∧ t.queue FAB = s.queue FAB) ∧
        (table = 5 → Takes (.fabTableWrite a v) s fun t => bumped t ∧
          t.fab = { s.fab with rectSink := tput [] s.fab.rectSink i data } ∧ t.queue FAB = s.queue FAB)) ∧
      (exec (.fabTableRead a (v ||| 1)) s = exec (.fabTableWrite a (v ||| 2)) s) ∧
      (v.getLsbD 0 = false → i < fabTableSize table → Takes (.fabTableRead a v) s fun t => t.fab = s.fab ∧ t.occ = s.occ ∧
        (∀ k, k < 4 → t.rd FAB (Reg.FAB_TBL_DATA k) = (s.fabEntry table i).getD k 0 % 2 ^ 32) ∧
        (table = 0 → t.rd FAB (Reg.FAB_TBL_DATA 0) = s.routeTo i % 2 ^ 32) ∧
        (table = 1 → t.rd FAB (Reg.FAB_TBL_DATA 3) = (tget (0, 0) s.fab.recorded i).2 % 2 ^ 32)) ∧
      (v.getLsbD 0 = false → fabTableSize table ≤ i → Takes (.fabTableRead a v) s fun t => t.fab = s.fab ∧ refuses 0x10 t ∧
        ∀ k, k < 4 → t.rd FAB (Reg.FAB_TBL_DATA k) = 0))

/-! 17_redundancy.md: the helm and the mooring. What follows from the pair's state as it stands after such a command is `mateSettle`. -/

/-- R394, R396, R399-R404, R407, R408, R419: the helm. A non-home holder that sees HOLD leaves HOLDER with LOST_HELM 1, a home one keeps it; OPEN and
SENSE_FAULT record HELM_FAULT. A heartbeat carries role, epochs, CONFIG_EPOCH and serial number on both mooring ports as their credits allow;
the receiver keeps the mate's, a unit that is not HOLDER takes the larger EPOCH, equal straps decide HOME by serial number with HELM_FAULT 3, and the
mate's SENSE_FAULT is HELM_FAULT 2. A mooring frame on a fabric port is discarded; the second copy of a SEQ keeps the mooring alive and does
nothing else. The mooring is down with its last port. A claim, where no block of R402 holds, makes ROLE HOLDER and EPOCH one above both
units', and records TAKEOVER; its triggers are a silent mate, a YIELD frame and FORCE_CLAIM. HANDOVER sends YIELD and leaves HOLDER, and
REQUALIFY takes DEAD to STANDBY, in this order where one write asks for several. At the takeover instant the outputs are enabled, packets and
frames of the replay window go again, in order, and each tile lane of a running raster gets a BEAT. What follows at once: READY, the holder's
automatic yields, a home unit's claim at boot, and QUALIFYING. A page that becomes enabled is STANDBY, one disabled UNMOORED. -/
def Obligations.MateHelm : Prop :=
  ∀ (s : State), s.pow.up = true →
    let pushed (u : State) (c k d : Nat) : Prop := u.queue MATE = occPush (s.queue MATE) (occRecord c k d)
    let ready (u : State) : State := u.wr MATE Reg.MATE_HELM_STATE_READY (b2n u.mateIsReady)
    let frames (p : Nat) (f : FabFrame) : List Instr := [.moorHeartbeatReceived p f, .helmYieldReceived p f, .moorCompareReceived p f,
      .moorHealthReceived p f, .moorThermalReceived p f, .arbStartReceived p f, .arbResultReceived p f, .takebackReqReceived p f,
      .takebackAckReceived p f, .takebackNakReceived p f]
    (∀ c, s.enabled MATE = false → exec (.helmInClassChange c) s = .next (settle (s.wr MATE Reg.MATE_HELM_STATE_HELM_IN c))) ∧
    (∀ c, s.enabled MATE = true →
      let lost := c % 4 = 2 ∧ s.role = 1 ∧ s.isHome = false
      let freed := c % 4 = 0 ∧ s.mate.alive = 0 ∧ (s.wr MATE Reg.MATE_HELM_STATE_HELM_IN c).mayClaim s.mateIsReady 1 = true
      ∃ u : State, exec (.helmInClassChange c) s = .next (settle u.mateSettle) ∧ u.helmIn = c % 4 ∧
      (lost → u.role = 2 ∧ u.mate.on = false ∧ pushed u 0x21 1 s.helmDetail) ∧
      (c % 4 = 3 → s.helmIn ≠ 3 → u.role = s.role ∧ u.mate = s.mate ∧ pushed u 0x25 0 s.frameNo) ∧
      (freed → Claimed s u ∧ pushed u 0x20 1 u.helmDetail) ∧
      (c % 4 ≠ 3 ∨ s.helmIn = 3 → ¬ lost → ¬ freed → u.role = s.role ∧ u.occ = s.occ ∧ u.mate.on = s.mate.on)) ∧
    (s.senseFault = true → exec .helmSenseFault s = .next (settle s)) ∧
    (s.senseFault = false → Takes .helmSenseFault s fun t => t.senseFault = true ∧ t.role = s.role ∧ t.mate = s.mate ∧ t.pnd = s.pnd ∧
      (s.enabled MATE = true → pushed t 0x25 1 s.frameNo) ∧ (s.enabled MATE = false → t.occ = s.occ)) ∧
    (∃ u : State, exec .helmSenseClear s = .next (settle u.mateSettle) ∧ u.senseFault = false ∧ u.role = s.role ∧
      SameButEvents s { u with cur := s.cur }) ∧
    (s.enabled MATE = false → exec .moorHeartbeatTimer s = .next (settle s)) ∧
    (s.enabled MATE = true → exec .moorHeartbeatTimer s = .next (settle (s.mateSettle.moorSend (.heartbeat s.mateSettle.role s.mateSettle.isHome
      (s.mateSettle.rd MATE Reg.MATE_HELM_STATE_READY = 1) s.mateSettle.senseFault (bit (s.mateSettle.rd MATE (Reg.MATE_HEALTH 7)) 0)
      s.mateSettle.isFenced (s.mateSettle.rd MATE Reg.MATE_EPOCH) (s.mateSettle.rd SYS Reg.SYS_CONFIG_EPOCH) s.mateSettle.frameNo
      s.mateSettle.serialNo)))) ∧
    (∀ m p, p = 16 ∨ p = 17 →
      let t := s.moorSend m
      let q : FabQueued := { frame := newFrame (.moor m) 0 0 0 t.mate.seqTx s.frameNo, arrival := none }
      t.mate = { s.mate with seqTx := (s.mate.seqTx + 1) % 2 ^ 32 } ∧ t.cur = s.cur ∧ t.occ = s.occ ∧
      (s.fportOn p = false ∨ (s.fport p).st ≠ 3 → t.fport p = s.fport p) ∧
      (s.fportOn p = true → (s.fport p).st = 3 → (s.fport p).queue = [] → frameCredits q.frame.len ≤ (s.fport p).held 0 →
        (t.fport p).queue = [] ∧ ∃ f, Out.fabric p s.tm.sys f ∈ t.out ∧ f = { q.frame with pn := (s.fport p).pnTx + 1 }) ∧
      (s.fportOn p = true → (s.fport p).st = 3 → (s.fport p).queue = [] → (s.fport p).held 0 < frameCredits q.frame.len →
        (t.fport p).queue = [q]) ∧
      (∀ e, s.fportOn p = true → (s.fport p).st = 3 → (s.fport p).head 0 = some e → (s.fport p).held 0 < frameCredits e.frame.len →
        (t.fport p).queue = (s.fport p).queue ++ [q])) ∧
    (∀ p f, ∀ c ∈ frames p f,
      (p < 16 → exec c s = .next (settle (s.fabArrive p f id))) ∧
      (16 ≤ p → s.fportOn p = false ∨ (s.fport p).st ≠ 3 → exec c s = .next (settle s)) ∧
      (∀ m, p < 16 → f.body = .moor m → (s.fport p).st = 3 → (s.fport p).link = true → f.fcsOk = true → f.tagOk = true → (s.fport p).pnRx < f.pn →
        Takes c s fun t => t.rd FAB Reg.FAB_DROP_TYPE = (s.rd FAB Reg.FAB_DROP_TYPE + 1) % 2 ^ 32 ∧ t.mate = s.mate) ∧
      (∀ q, 16 ≤ p → p ≤ 17 → s.fportOn p = true → (s.fport p).st = 3 → f.fcsOk = true → f.tagOk = true → (s.fport p).pnRx < f.pn →
        s.mate.seqRx = some q → newerSeq f.seq q = false → Takes c s fun t => t.occ = s.occ ∧ t.role = s.role ∧
          t.rd MATE Reg.MATE_HELM_STATE_MOORING = 1 ∧ t.mate = { s.mate with alive := s.mate.alive ||| 2 ^ (p - 16) })) ∧
    (∀ p f role home ready sense critical fenced epoch config frame serial, ArrivesMoored s p f →
      f.body = .moor (.heartbeat role home ready sense critical fenced epoch config frame serial) →
      let clash := home = s.isHome ∧ s.mate.conflict = false
      ∃ u : State,
        exec (.moorHeartbeatReceived p f) s = .next (settle u.mateSettle) ∧ u.mate.mateRole = role ∧ u.mate.mateReady = ready ∧
        u.mate.mateSense = sense ∧ u.mate.mateCritical = critical ∧ u.mate.mateConfig = some config ∧ u.role = s.role ∧
        u.mate.alive = s.mate.alive ||| 2 ^ (p - 16) ∧
        u.rd MATE Reg.MATE_MATE_EPOCH = epoch % 2 ^ 32 ∧ u.rd MATE Reg.MATE_MATE_SERIAL_LO = serial % 2 ^ 32 ∧
        u.rd MATE Reg.MATE_MATE_SERIAL_HI = serial / 2 ^ 32 % 2 ^ 32 ∧
        u.rd MATE Reg.MATE_EPOCH = (if s.role = 1 then s.rd MATE Reg.MATE_EPOCH else max (s.rd MATE Reg.MATE_EPOCH) epoch % 2 ^ 32) ∧
        u.isHome = (if clash then decide (s.serialNo < serial) else s.isHome) ∧
        (clash → sense = false ∨ s.mate.mateSense = true → pushed u 0x25 3 s.frameNo) ∧
        (¬ clash → sense = true → s.mate.mateSense = false → pushed u 0x25 2 s.frameNo) ∧
        (¬ clash → sense = false ∨ s.mate.mateSense = true → u.occ = s.occ)) ∧
    (∀ p, s.enabled MATE = false ∨ p < 16 ∨ 17 < p ∨ bit s.mate.alive (p - 16) = false →
      s.mate.alive < 4 → exec (.moorTimeoutExpiry p) s = .next (settle s)) ∧
    (∀ p, s.enabled MATE = true → p = 16 ∨ p = 17 → s.mate.alive = 3 →
      exec (.moorTimeoutExpiry p) s = .next (settle ({ s with mate := { s.mate with alive := 2 ^ (17 - p) } }).mateSettle)) ∧
    (∀ p, s.enabled MATE = true → p = 16 ∨ p = 17 → s.mate.alive = 2 ^ (p - 16) → ∃ u : State,
      exec (.moorTimeoutExpiry p) s = .next (settle u.mateSettle) ∧ u.mate.alive = 0 ∧ u.rd MATE Reg.MATE_HELM_STATE_MOORING = 0 ∧
      (s.helmIn = 0 → s.mayClaim s.mateIsReady 1 = true → Claimed s u ∧
        u.queue MATE = occPush (occPush (s.queue MATE) (occRecord 0x26 (s.rd MATE Reg.MATE_MATE_CFG % 4) s.frameNo))
          (occRecord 0x20 1 u.helmDetail)) ∧
      (s.helmIn ≠ 0 ∨ s.mayClaim s.mateIsReady 1 = false →
        u.role = s.role ∧ pushed u 0x26 (s.rd MATE Reg.MATE_MATE_CFG % 4) s.frameNo)) ∧
    (∀ ready k, s.mayClaim ready k = true ↔ s.enabled MATE = true ∧ s.role ≠ 1 ∧ s.helmIn ≠ 2 ∧ s.helmIn ≠ 3 ∧ s.senseFault = false ∧
      s.mate.mateSense = false ∧ s.role ≠ 4 ∧ s.role ≠ 5 ∧ s.isFenced = false ∧ (ready = true ∨ k = 5 ∨ 6 ≤ k)) ∧
    (∀ k, let t := s.claim k
      Claimed s t ∧ pushed t 0x20 k t.helmDetail ∧ t.mate.everHolder = true ∧ t.mate.takeback = none ∧
      t.rd MATE ⟨0x094, 15, 0⟩ = (s.rd MATE ⟨0x094, 15, 0⟩ + 1) % 2 ^ 16 ∧
      t.rd MATE ⟨0x094, 31, 16⟩ = (s.rd MATE ⟨0x094, 31, 16⟩ + b2n (k = 4)) % 2 ^ 16 ∧
      (k = 4 → t.rd MATE ⟨0x060, 23, 16⟩ = 0) ∧ t.pnd = s.pnd) ∧
    (∀ k, (s.role ≠ 1 → s.loseHelm k = s) ∧ (s.role = 1 →
      let t := s.loseHelm k
      t.role = (if k = 2 then 4 else 2) ∧ t.mate.on = false ∧ t.mate.takeback = none ∧ pushed t 0x21 k s.helmDetail ∧
      t.out = (if k = 0 ∨ k = 2 then (s.moorSend (.helm 0 0)).out else s.out) ∧
      (∀ p, t.fport p = if k = 0 ∨ k = 2 then (s.moorSend (.helm 0 0)).fport p else s.fport p))) ∧
    (∀ t, s.role ≠ 1 ∨ s.mate.on = true → exec (.helmTakeoverInstant t) s = .next (settle (s.advance t))) ∧
    (∀ t, s.role = 1 → s.mate.on = false →
      let a := s.advance t
      let inWindow (i : Nat) : Bool := a.tm.sys - us (s.rd MATE Reg.MATE_REPLAY % 65536) ≤ i && i < a.tm.sys
      Takes (.helmTakeoverInstant t) s fun u => u.mate.on = true ∧ u.role = 1 ∧ u.shadow = [] ∧ u.mate.fabShadow = [] ∧
        (∀ k, (u.queueState k).pkts = ((a.shadow.filter fun e => inWindow e.1 && e.2.flow * 2 + b2n e.2.copyB = k).map (·.2)) ++
          (a.queueState k).pkts) ∧
        (∀ e ∈ a.mate.fabShadow, inWindow e.1 = true →
          (e.2.2.body ≠ .ferry → ∀ q l, portsOf (a.routeTo e.2.2.dst) = q :: l → ∃ o ∈ q :: l, ∃ x ∈ (u.fport o).queue, x.frame = e.2.2) ∧
          (∀ i w, e.2.2.body = .ferry → a.mcastOf e.2.2.src (bits e.2.2.tag 7 0) = some (i, w) →
            ∀ o ∈ portsOf w.2, ∃ x ∈ (u.fport o).queue, x.frame = e.2.2)) ∧
        (∀ r ft cfg, r < 32 → (a.ras r).scan = some (ft, cfg) → (a.ras r).leadIn = false → ∀ n ∈ lanesOf (a.entriesL r),
          a.laneSends n = true → (a.tlane n).isOut = false →
          beatPacket n false (a.tileCfg r).2.2 ft.frame a.tm.sys (ft.period / 65536) ∈ u.scn.framing)) ∧
    (∀ p f n, ArrivesMoored s p f → f.body = .moor (.helm 0 n) →
      ((s.moored p f).mayClaim (s.moored p f).mateIsReady 2 = false →
        exec (.helmYieldReceived p f) s = .next (settle (s.moored p f).mateSettle)) ∧
      ((s.moored p f).mayClaim (s.moored p f).mateIsReady 2 = true → ∃ u : State,
        exec (.helmYieldReceived p f) s = .next (settle u.mateSettle) ∧ Claimed s u ∧ pushed u 0x20 2 u.helmDetail)) ∧
    (∀ a v, Ready s a MATE →
      let ctl (u : State) (h r c : Bool) : State :=
        let x := if h then u.mateHandover else u
        let y := if r then x.mateRequalify else x
        if c then y.mateForceClaim else y
      ∃ h r c : State, ActionStored MATE 0x5C s h ∧ ActionStored MATE 0x5C s r ∧ ActionStored MATE 0x5C s c ∧
        h.rd MATE Reg.MATE_MATE_CTL_HEALTH_SRC = b2n (v.getLsbD 0) ∧ r.rd MATE Reg.MATE_MATE_CTL_HEALTH_SRC = b2n (v.getLsbD 0) ∧
        c.rd MATE Reg.MATE_MATE_CTL_HEALTH_SRC = b2n (v.getLsbD 0) ∧
        exec (.mateHandover a v) s = .next (settle (ctl h true (v.getLsbD 9) (v.getLsbD 10))) ∧
        exec (.mateRequalify a v) s = .next (settle (ctl r (v.getLsbD 8) true (v.getLsbD 10))) ∧
        exec (.mateForceClaim a v) s = .next (settle (ctl c (v.getLsbD 8) (v.getLsbD 9) true))) ∧
    s.mateHandover = (s.loseHelm 0).mateSettle ∧
    (s.role ≠ 4 → s.mateRequalify = s) ∧
    (s.role = 4 → ∃ u : State, s.mateRequalify = u.mateSettle ∧ u.role = 2 ∧ u.mate = { s.mate with mayQualify := true } ∧
      SameButEvents { s with mate := u.mate } { u with cur := s.cur }) ∧
    s.mateForceClaim = (if s.mayClaim false 6 = true then s.claim 6 else s).mateSettle ∧
    (s.enabled MATE = false → s.mateSettle = s) ∧
    (s.enabled MATE = true →
      let yields := s.mate.mateReady = true ∧ (s.isFenced = true ∨ (s.rd MATE Reg.MATE_MATE_CFG_AUTO_YIELD = 1 ∧
        bit (s.rd MATE (Reg.MATE_HEALTH 7)) 0 = true ∧ s.mate.mateCritical = false))
      let boots := s.isHome = true ∧ s.rd SYS Reg.SYS_CONFIG_EPOCH ≠ 0 ∧ s.mate.everHolder = false
      let back := s.isHome = true ∧ s.mate.mayQualify = true ∧ s.mate.mateRole = 1 ∧ s.rd MATE Reg.MATE_MATE_CFG_AUTO_TAKEBACK = 1
      (s.role = 1 → ¬ yields → ¬ boots → s.mateSettle = ready s) ∧
      (s.role = 1 → yields → ¬ boots → ¬ back → s.mateSettle = (ready s).loseHelm 0) ∧
      (boots → (ready s).mayClaim false 5 = true → s.mateSettle = (ready s).claim 5) ∧
      (s.role = 2 → ¬ boots → s.mate.takeback = none → back → s.mateIsReady = true →
        s.mateSettle.role = 3 ∧ s.mateSettle.rd MATE Reg.MATE_QUAL_PROGRESS = 0 ∧ s.mateSettle.occ = s.occ) ∧
      (s.role = 2 → ¬ boots → s.mate.takeback = none → ¬ (back ∧ s.mateIsReady = true) → s.mateSettle = ready s) ∧
      (∀ k, s.role = 3 → ¬ boots → s.mate.takeback = some (k, true, true) → s.helmIn = 1 → s.mayClaim s.mateIsReady 4 = true →
        s.mateSettle = (ready s).claim 4)) ∧
    (∀ o : State,
      (s.enabled MATE = true → o.enabled MATE = false → s.helmIn ≠ 3 → ∃ u : State, s.mateApplied o = u.mateSettle ∧ u.role = 2 ∧
        u.rd MATE Reg.MATE_EPOCH = s.rd FAB Reg.FAB_OWN_EPOCH ∧ u.mate.on = false ∧ u.mate.takeback = none ∧ u.occ = s.occ) ∧
      (s.enabled MATE = false → o.enabled MATE = true → (s.mateApplied o).role = 0 ∧ (s.mateApplied o).mate.alive = 0 ∧
        (s.mateApplied o).mate.suspended = [] ∧ (s.mateApplied o).fport 16 = {} ∧ (s.mateApplied o).occ = s.occ))

/-- R409-R417: the pair compares and recovers. A record that meets its counterpart with the same value is counted, and ends a suspension at its 8th
beat; another value is a departure where a flag is set, which suspends the channel or raster, one more departure while it is
suspended, else a MISMATCH, which fails a takeback attempt and starts arbitration; one that finds no counterpart waits, and after 2
beats is MISSING. A health report is kept; the holder's thermal reports reach a standby, whose gains are held while a part is missing.
Arbitration runs once, on lent engines, and its two results decide by the table of R415; a missing result is FAIL after 10 ms. At each beat a
QUALIFYING unit counts beats without a mismatch, and asks for takeback at QUAL_BEATS; HOLDOFF, suspensions and VACANT advance. A takeback
request is acknowledged by a holder in time that does not arbitrate, else refused; NAK or no answer fails the attempt into HOLDOFF with
QUAL_FAILED; at its beat the holder yields; and HOLDOFF ends in STANDBY. -/
def Obligations.MateRedundancy : Prop :=
  ∀ (s : State), s.pow.up = true →
    let pushed (u : State) (c k d : Nat) : Prop := u.queue MATE = occPush (s.queue MATE) (occRecord c k d)
    (∀ p f l, ArrivesMoored s p f → f.body = .moor (.compare l) →
      exec (.moorCompareReceived p f) s = .next (settle ((s.moored p f).each l State.compareIn).mateSettle)) ∧
    (∀ r, (s.mate.own.find? fun e => e.1.item = r.item) = none →
      s.compareIn r = { s with mate := { s.mate with theirs := s.mate.theirs ++ [(r, s.tm.frame)] } }) ∧
    (∀ r e, (s.mate.own.find? fun e => e.1.item = r.item) = some e →
      s.compareIn r = ({ s with mate := { s.mate with own := s.mate.own.erase e } }).compareItem e.1 r) ∧
    (∀ (a b : MateRecord),
      let t := s.compareItem a b
      let i := a.item
      let k := unitKey i
      let shows (l : List (Nat × (Nat × Nat × Nat))) : Prop := t.mate.suspended = l ∧ t.rd MATE Reg.MATE_SUSPENDED = l.length % 512
      (a.value = b.value → t.rd MATE Reg.MATE_COMPARED = (s.rd MATE Reg.MATE_COMPARED + 1) % 2 ^ 32 ∧ t.occ = s.occ ∧ t.role = s.role ∧
        (tfind s.mate.suspended k = none → t.mate = s.mate) ∧
        (∀ n since j, tfind s.mate.suspended k = some (n, since, j) →
          (j ≠ i.index → t.mate = s.mate) ∧
          (j = i.index → n + 1 < 8 → shows (tins k (n + 1, since, j) s.mate.suspended)) ∧
          (j = i.index → 8 ≤ n + 1 → shows (tdel k s.mate.suspended)))) ∧
      (∀ n since j, a.value ≠ b.value → tfind s.mate.suspended k = some (n, since, j) →
        t.rd MATE Reg.MATE_DEPARTURES = (s.rd MATE Reg.MATE_DEPARTURES + 1) % 2 ^ 32 ∧ t.occ = s.occ ∧ t.role = s.role ∧
        shows (tins k (0, since, i.index) s.mate.suspended)) ∧
      (a.value ≠ b.value → tfind s.mate.suspended k = none → a.flags ≠ 0 ∨ b.flags ≠ 0 →
        t.rd MATE Reg.MATE_DEPARTURES = (s.rd MATE Reg.MATE_DEPARTURES + 1) % 2 ^ 32 ∧ t.role = s.role ∧ t.mate.beatBad = true ∧
        pushed t 0x23 i.kind (s.itemDetail i) ∧ shows (tins k (0, s.tm.frame, i.index) s.mate.suspended)) ∧
      (a.value ≠ b.value → tfind s.mate.suspended k = none → a.flags = 0 → b.flags = 0 → ∃ u : State,
        t = u.mateBad.arbStart i ∧ u.rd MATE Reg.MATE_MISMATCHES = (s.rd MATE Reg.MATE_MISMATCHES + 1) % 2 ^ 32 ∧ u.role = s.role ∧
        pushed u 0x22 i.kind (s.itemDetail i) ∧ u.mate = { s.mate with beatBad := true })) ∧
    (s.role ≠ 3 → s.mateBad = { s with mate := { s.mate with lastBad := some s.tm.frame, beatBad := true } }) ∧
    (s.role = 3 → s.mateBad = ({ s with mate := { s.mate with lastBad := some s.tm.frame, beatBad := true } }).qualFail) ∧
    (∀ r, (s.enabled MATE = false → s.mateRecord r = s) ∧
      (s.enabled MATE = true → ∃ u : State, u = s.moorSend (.compare [r]) ∧
        ((s.mate.theirs.find? fun e => e.1.item = r.item) = none →
          s.mateRecord r = { u with mate := { u.mate with own := u.mate.own ++ [(r, s.tm.frame)] } }) ∧
        (∀ e, (s.mate.theirs.find? fun e => e.1.item = r.item) = some e →
          s.mateRecord r = ({ u with mate := { u.mate with theirs := u.mate.theirs.erase e } }).compareItem r e.1))) ∧
    (∀ i, (s.mate.own.find? fun e => e.1.item = i) = none ∨ s.mate.alive = 0 → exec (.moorRecordMissing i) s = .next (settle s)) ∧
    (∀ i e, (s.mate.own.find? fun e => e.1.item = i) = some e → s.tm.frame < e.2 + 2 →
      exec (.moorRecordMissing i) s = .next (settle s)) ∧
    (∀ i e, (s.mate.own.find? fun e => e.1.item = i) = some e → s.mate.alive ≠ 0 → e.2 + 2 ≤ s.tm.frame → ∃ u : State,
      exec (.moorRecordMissing i) s = .next (settle u.mateBad.mateSettle) ∧ u.mate = { s.mate with own := s.mate.own.erase e } ∧
      u.rd MATE Reg.MATE_MISSING = (s.rd MATE Reg.MATE_MISSING + 1) % 2 ^ 32 ∧ u.role = s.role ∧ u.occ = s.occ) ∧
    (∀ p f w, ArrivesMoored s p f → f.body = .moor (.health w) → ∃ u : State,
      exec (.moorHealthReceived p f) s = .next (settle u.mateSettle) ∧ u.mate.mateHealth = w ∧
      u.mate.mateCritical = bit (w.getD 7 0) 0 ∧ u.role = s.role ∧ u.occ = s.occ) ∧
    (∀ k, s.healthShown k = if s.rd MATE Reg.MATE_MATE_CTL_HEALTH_SRC = 1 then s.mate.mateHealth.getD k 0 else s.rd MATE (Reg.MATE_HEALTH k)) ∧
    (bit (s.healthWords.getD 7 0) 0 = true ↔
      (∃ f, s.mate.health.lastUncorrectable = some f ∧ s.tm.frame < f + 1024) ∨ 125 * 16 ≤ s.mate.health.junction ∨
        4 < (s.enc.withdrawn.filter (· < 96)).length) ∧
    (∀ p f r frame part last reports, ArrivesMoored s p f → f.body = .moor (.thermal r frame part last reports) →
      (s.role = 1 → exec (.moorThermalReceived p f) s = .next (settle (s.moored p f))) ∧
      (s.role ≠ 1 → Takes (.moorThermalReceived p f) s fun t => ∃ y l, t.thermalSets r = y :: l ∧ y.frame = frame ∧ part ∈ y.parts ∧
        (last = true → y.last = some part) ∧ l.length < 4 ∧ (∀ q, q ≠ r → t.thermalSets q = s.thermalSets q) ∧ t.occ = s.occ)) ∧
    (∀ r frame k, s.enabled MATE = true → s.rdL (SCAN r) Reg.SCAN_RG_CFG_THERMAL_EN ≠ 0 → s.role ≠ 1 →
      ((∀ x ∈ s.thermalSets r, x.frame + k = frame → x.whole = false) →
        s.mateThermal r frame k = { s with mate := { s.mate with thermalMissing := sins r s.mate.thermalMissing } }) ∧
      (∀ x, ((s.thermalSets r).find? fun x => x.frame + k = frame && x.whole) = some x → s.mateThermal r frame k =
        ({ s with mate := { s.mate with thermalMissing := sdel r s.mate.thermalMissing } }).thermalLatch r fun e =>
          (tfind x.reports e.1).map fun (t : Nat × Nat) => (t.1, t.2 == 0))) ∧
    (∀ p f i, ArrivesMoored s p f → f.body = .moor (.arbStart i) →
      (s.mate.arb.isSome = true → exec (.arbStartReceived p f) s = .next (settle (s.moored p f))) ∧
      (s.mate.arb = none → exec (.arbStartReceived p f) s = .next (settle ((((s.moored p f).arbBegin i)).moorSend (.arbStart i))))) ∧
    (∀ i, (s.mate.arb.isSome = true → s.arbStart i = s) ∧
      (s.mate.arb = none → s.arbStart i = (s.arbBegin i).moorSend (.arbStart i)) ∧
      (s.arbBegin i).mate = { s.mate with arb := some { item := i, lent := s.stageEngines i } } ∧
      (s.arbBegin i).rd MATE Reg.MATE_ARB_STATE_RUNNING = 1 ∧
      (s.arbBegin i).rd MATE ⟨0x08C, 31, 16⟩ = (s.rd MATE ⟨0x08C, 31, 16⟩ + 1) % 2 ^ 16 ∧ (s.arbBegin i).occ = s.occ ∧
      (∀ e ∈ s.stageEngines i, e ∈ (s.arbBegin i).enc.lent ∧ tfind s.enc.pixel e = none)) ∧
    (∀ fail failed, (s.mate.arb = none ∨ (∃ x, s.mate.arb = some x ∧ x.own ≠ none) →
        exec (.arbRunDone fail failed) s = .next (settle s)) ∧
      (∀ x, s.mate.arb = some x → x.own = none →
        let r := fail || !failed.isEmpty
        let u := ({ s with mate := { s.mate with arb := some { x with own := some (r, failed) } } }).moorSend (.arbResult x.item r failed)
        (x.mate = none → exec (.arbRunDone fail failed) s = .next (settle u)) ∧
        (∀ m, x.mate = some m →
          exec (.arbRunDone fail failed) s = .next (settle (u.arbDecide { x with own := some (r, failed) } (r, failed) m))))) ∧
    (∀ p f i fail failed, ArrivesMoored s p f → f.body = .moor (.arbResult i fail failed) →
      (s.mate.arb = none → exec (.arbResultReceived p f) s = .next (settle (s.moored p f))) ∧
      (∀ x, s.mate.arb = some x →
        let y := { x with mate := some (fail, failed) }
        let u : State := { s.moored p f with mate := { (s.moored p f).mate with arb := some y } }
        (x.own = none → exec (.arbResultReceived p f) s = .next (settle u)) ∧
        (∀ own, x.own = some own → exec (.arbResultReceived p f) s = .next (settle (u.arbDecide y own (fail, failed)))))) ∧
    (s.mate.arb = none → exec .arbResultTimeout s = .next (settle s)) ∧
    (∀ x, s.mate.arb = some x →
      exec .arbResultTimeout s = .next (settle (s.arbDecide x (x.own.getD (true, [])) (x.mate.getD (true, []))))) ∧
    (∀ x (own mate : Bool × List Nat),
      let holder := if s.role = 1 then own.1 else mate.1
      let standby := if s.role = 1 then mate.1 else own.1
      let rec0 (n : Nat) := occPush (s.queue MATE) (occRecord 0x24 n s.frameNo)
      ∃ u : State, s.arbDecide x own mate = u.mateSettle ∧ u.mate.arb = none ∧
        u.rd MATE Reg.MATE_ARB_ENGINES = own.2.length % 65536 + mate.2.length % 65536 * 65536 ∧
        (∀ e ∈ own.2, e ∈ u.enc.withdrawn) ∧ (∀ e ∈ x.lent, e ∉ u.enc.lent) ∧
        (holder = false → standby = false → u.role = s.role ∧ u.rd MATE ⟨0x08C, 3, 0⟩ = 2 ∧ u.queue MATE = rec0 1 ∧
          u.mate.suspended = tins (unitKey x.item) (0, s.tm.frame, x.item.index) s.mate.suspended) ∧
        (holder = true → standby = false → u.rd MATE ⟨0x08C, 3, 0⟩ = 4 ∧
          (s.role = 1 → u.role = 4 ∧ u.mate.on = false ∧ u.queue MATE = occPush (rec0 2) (occRecord 0x21 2 s.helmDetail)) ∧
          (s.mayClaim s.mateIsReady 3 = true → Claimed s u ∧ u.queue MATE = occPush (rec0 2) (occRecord 0x20 3 u.helmDetail)) ∧
          (s.role ≠ 1 → s.mayClaim s.mateIsReady 3 = false → u.role = s.role ∧ u.queue MATE = rec0 2)) ∧
        (holder = false → standby = true → u.rd MATE ⟨0x08C, 3, 0⟩ = 6 ∧ u.queue MATE = rec0 3 ∧
          u.role = (if s.role = 1 then 1 else 4)) ∧
        (holder = true → standby = true → u.rd MATE ⟨0x08C, 3, 0⟩ = 8 ∧ u.queue MATE = rec0 4 ∧ u.role = s.role ∧
          u.mate.suspended = s.mate.suspended)) ∧
    (∃ u : State, (s.enabled MATE = true → s.mateBeat = u.mateSettle) ∧ (s.enabled MATE = false → s.mateBeat = s.healthReport) ∧
      (s.enabled MATE = true →
        let q := if s.mate.beatBad = true then 0 else s.rd MATE Reg.MATE_QUAL_PROGRESS + 1
        let asks := s.role = 3 ∧ s.mate.takeback = none ∧ s.rd MATE Reg.MATE_QUAL_BEATS % 2 ^ 24 ≤ q
        let v := if s.role ≠ 1 ∧ s.helmIn ≠ 2 then min 2 (s.mate.vacant + 1) else 0
        u.role = s.role ∧ u.mate.beatBad = false ∧ u.mate.vacant = v ∧
        (∀ k, k < 8 → u.rd MATE (Reg.MATE_HEALTH k) = s.healthWords.getD k 0 % 2 ^ 32) ∧
        u.rd MATE Reg.MATE_QUAL_PROGRESS = (if s.role = 3 ∧ s.mate.takeback = none then min q (2 ^ 24 - 1) else s.rd MATE Reg.MATE_QUAL_PROGRESS) ∧
        u.mate.takeback = (if asks then some (s.tm.frame + 2, false, false) else s.mate.takeback) ∧
        u.mate.seqTx = (s.mate.seqTx % 2 ^ 32 + (if asks then 2 else 1)) % 2 ^ 32 ∧
        u.rd MATE Reg.MATE_HOLDOFF_LEFT = (if s.role = 5 then s.rd MATE Reg.MATE_HOLDOFF_LEFT - 1 else s.rd MATE Reg.MATE_HOLDOFF_LEFT) ∧
        u.mate.suspended = s.mate.suspended.filter (fun e => s.tm.frame - e.2.2.1 < s.rd MATE Reg.MATE_SUSPEND_MAX % 2 ^ 24) ∧
        u.queue MATE = (if v = 2 ∧ s.mate.vacant = 1 then occPush (s.queue MATE) (occRecord 0x28 0 s.frameNo) else s.queue MATE))) ∧
    (∀ p f target, ArrivesMoored s p f → f.body = .moor (.helm 1 target) →
      let m := s.moored p f
      (s.role ≠ 1 → exec (.takebackReqReceived p f) s = .next (settle m)) ∧
      (s.role = 1 → s.tm.sys < beatStart s.tm.rate (target - 1) → s.mate.arb = none → exec (.takebackReqReceived p f) s = .next (settle
        (({ m with mate := { m.mate with takeback := some (target, true, false) } }).moorSend (.helm 2 target)))) ∧
      (s.role = 1 → beatStart s.tm.rate (target - 1) ≤ s.tm.sys ∨ s.mate.arb.isSome = true →
        exec (.takebackReqReceived p f) s = .next (settle (m.moorSend (.helm 3 target))))) ∧
    (∀ p f target, ArrivesMoored s p f → f.body = .moor (.helm 2 target) →
      (s.mate.takeback = none → exec (.takebackAckReceived p f) s = .next (settle (s.moored p f))) ∧
      (∀ k b d, s.mate.takeback = some (k, b, d) → Takes (.takebackAckReceived p f) s fun t => t.role = s.role ∧ t.occ = s.occ ∧
        t.mate.takeback = some (k, if s.role = 3 ∧ k = target then true else b, d))) ∧
    (∀ p f target, ArrivesMoored s p f → f.body = .moor (.helm 3 target) →
      ((∀ b d, s.mate.takeback ≠ some (target, b, d)) → exec (.takebackNakReceived p f) s = .next (settle (s.moored p f))) ∧
      (∀ b d, s.mate.takeback = some (target, b, d) → exec (.takebackNakReceived p f) s = .next (settle (s.moored p f).qualFail))) ∧
    (s.role ≠ 3 → s.qualFail = s) ∧
    (s.role = 3 →
      let n := min 255 (s.rd MATE ⟨0x060, 23, 16⟩ + 1)
      let t := s.qualFail
      t.role = 5 ∧ t.rd MATE ⟨0x060, 23, 16⟩ = n ∧ t.mate = { s.mate with takeback := none } ∧ t.rd MATE Reg.MATE_QUAL_PROGRESS = 0 ∧
      t.rd MATE Reg.MATE_HOLDOFF_LEFT = min 0xFFFFFFFF (s.rd MATE Reg.MATE_HOLDOFF_BASE % 2 ^ 24 * 2 ^ min n 8) ∧ pushed t 0x27 n s.frameNo) ∧
    (∀ t, (∀ k d, s.mate.takeback ≠ some (k, true, d)) → exec (.takebackYield t) s = .next (settle (s.advance t))) ∧
    (∀ t k d, s.mate.takeback = some (k, true, d) →
      (s.role = 1 → ∃ u : State, exec (.takebackYield t) s = .next (settle u) ∧ u.role = 2 ∧ u.mate.on = false ∧ u.mate.takeback = none ∧
        u.out = (s.advance t).out ∧ pushed u 0x21 3 s.helmDetail) ∧
      (s.role ≠ 1 → ∃ u : State, exec (.takebackYield t) s = .next (settle u.mateSettle) ∧ u.mate = { s.mate with takeback := some (k, true, true) } ∧
        u.cur = s.cur ∧ u.occ = s.occ)) ∧
    (∀ k d, s.mate.takeback = some (k, false, d) → exec .takebackTimeout s = .next (settle s.qualFail)) ∧
    ((∀ k d, s.mate.takeback ≠ some (k, false, d)) → exec .takebackTimeout s = .next (settle s)) ∧
    (s.role = 5 → ∃ u : State, exec .holdoffExpiry s = .next (settle u.mateSettle) ∧ u.role = 2 ∧
      u.rd MATE Reg.MATE_HOLDOFF_LEFT = 0 ∧ u.mate = { s.mate with mayQualify := true } ∧ u.occ = s.occ) ∧
    (s.role ≠ 5 → exec .holdoffExpiry s = .next (settle s))

/-! 18_audio.md and 19_check_values.md. -/

/-- R422-R426, R428-R430, R432: at a grid frame every enabled audio port that has not seen it yet carries its slots, with its clocks, and counts it; its
first frame starts it, RUNNING and PLL_LOCK 1; a frame that is a multiple of BLOCK closes the block in progress, its record waiting for the ring with
RX_EN 1, opens the next one, and takes a changed format with FORMAT_RESTART. A slot that is not transmitted follows SDO_MODE; one that
is carries its sample of the source, cut to WORD, or 0 where the sample is missing, with GAP and TX_UNDERRUN once a block. Captured words are
kept. A SYSTIME step closes the block with TIME_STEP. A port that is not enabled, and a frame already seen, change nothing; a disabled port
stops. AUDIO_BLOCK_WRITE writes the oldest waiting record to its ring and counts it.
R436-R442, R444-R447: START of a check-value unit samples its configuration and runs, or fails with the first cause that holds; a running unit
records START_BUSY, and START with ABORT ends ABORTED at once. SCAN_DONE feeds the rest of the range, forms the result, compares it and ends DONE; a
memory error ends it FAILED with cause 5; ABORT ends it ABORTED, or is late. A whole snooped frame is fed once, a sealed one ends an operation
below OWNER FAILED with cause 4 and sets SEALED_FED for OWNER, and the last frame of a group forms the result, ends the operation or, in a
continuous snoop, begins the next group. VAL_LO and VAL_HI move 64-bit values; RUNNING is not written while the unit runs. -/
def Obligations.AudioAndCheckValues : Prop :=
  ∀ (s : State), s.pow.up = true →
    (∀ t sdi, exec (.audioFrameStart t sdi) s = .next (settle ((s.advance t).each ((List.range 16).filter fun p => s.enabled (AUD p))
      fun u p => u.audFrame p (sampleCount u.tm.sys) (tget [] sdi p)))) ∧
    (∀ i t, ((i : Nat) * (1000000000 * 65536) / 48000 ≤ t ↔ i ≤ sampleCount t)) ∧
    (∀ p g sdi, p < 16 →
      let q := AUD p
      let x := s.audPort p
      let t := s.audFrame p g sdi
      let y := t.audPort p
      let same := x.last = none ∨ x.steps = s.tm.steps
      let due := ∀ l, x.last = some l → l < g
      let edge := g % y.blockLen = 0
      let sends := s.rd q Reg.AUD_STREAM_CFG_TX_EN = 1 ∧ y.block.isSome = true
      let src := s.rd q Reg.AUD_STREAM_CFG_SRC_STREAM
      let delay := 6 * s.rd q Reg.AUD_CLOCK_CFG_PLAYOUT
      let width := y.cfg Reg.AUD_PORT_CFG_SLOT_WIDTH
      let word := min (y.cfg Reg.AUD_PORT_CFG_WORD) width
      let from' (i : Nat) : Option Nat := if delay ≤ g ∧ s.enabled (ING src) = true then
        s.audioSample src (g - delay) (s.rd q Reg.AUD_STREAM_CFG_FIRST_CH + i) else none
      let onSlot (i : Nat) : Bool := bit (s.rd q Reg.AUD_TX_MASK) i
      (same → ¬ due → t = s) ∧
      (same → due → y.last = some g ∧ t.mem = s.mem ∧ t.pnd = s.pnd ∧ (∀ k, k ≠ p → t.audPort k = s.audPort k) ∧
        (x.last = none → y.fmt = s.audFormat p ∧ t.rd q Reg.AUD_PORT_STATE_RUNNING = 1 ∧ t.rd q Reg.AUD_PORT_STATE_PLL_LOCK = 1) ∧
        (x.last ≠ none → g % x.blockLen ≠ 0 → y.fmt = x.fmt ∧ y.records = x.records ∧ y.seq = x.seq) ∧
        (x.last ≠ none → g % x.blockLen = 0 → y.fmt = s.audFormat p ∧ (y.block.map fun b => (b.first, b.format)) = some (g, decide (x.fmt ≠ s.audFormat p)) ∧
          (x.fmt ≠ s.audFormat p → (s.queue q).recs.length < 63 → occRecord 0x22 0 s.frameNo ∈ (t.queue q).recs) ∧
          (x.block = none → y.records = x.records ∧ y.seq = x.seq) ∧
          (∀ b, x.block = some b → y.seq = (x.seq + 1) % 2 ^ 32 ∧ y.records = x.records ++
            (if s.rd q Reg.AUD_RX_RING_RX_EN = 1 then [blockRecord b.first b.mask0
              (b2n b.change.isSome + 2 * b2n b.gap + 4 * b2n b.broken + 8 * b2n b.format) (b.change.getD 0) b.mask x.seq p b.words] else []))) ∧
        (x.last = none → x.block = none → edge → (y.block.map (·.first)) = some g) ∧
        (∃ slots, Out.audio p g slots y.wave ∈ t.out ∧ slots.length = y.cfg Reg.AUD_PORT_CFG_SLOTS_M1 + 1 ∧
          ∀ i, i < slots.length →
            (¬ (sends ∧ onSlot i = true) → slots[i]? = some (if y.cfg Reg.AUD_PORT_CFG_SDO_MODE = 1 then some 0 else none)) ∧
            (sends → onSlot i = true → from' i = none → slots[i]? = some (some 0) ∧ (y.block.map (·.gap)) = some true) ∧
            (∀ v, sends → onSlot i = true → from' i = some v → slots[i]? = some (some (v / 2 ^ (32 - word) * 2 ^ (width - word))))) ∧
        (∀ b, x.last ≠ none → g % x.blockLen ≠ 0 → x.block = some b → ∃ c words, y.block = some c ∧ c.first = b.first ∧
          c.words = b.words ++ [words] ∧ words.length = 32 ∧ (b.gap = true → c.gap = true) ∧
          (∀ i, i < 32 → words.getD i 0 = if i ≤ y.cfg Reg.AUD_PORT_CFG_SLOTS_M1 ∧ bit (s.rd q Reg.AUD_RX_MASK) i = true then
            y.captured (sdi.getD i 0) else 0) ∧
          (x.masks = some (s.rd q Reg.AUD_TX_MASK, s.rd q Reg.AUD_RX_MASK) → c.change = b.change) ∧
          (∀ m, x.masks = some m → m ≠ (s.rd q Reg.AUD_TX_MASK, s.rd q Reg.AUD_RX_MASK) → c.change = some (g - b.first)) ∧
          t.queue q = (if c.gap = true ∧ b.gap = false then occPush (s.queue q) (occRecord 0x20 0 (x.seq % 65536 * 2 ^ 32 + s.frameNo % 2 ^ 32))
            else s.queue q))) ∧
      (∀ l, x.last = some l → x.steps ≠ s.tm.steps → g ≤ l → y.steps = s.tm.steps ∧ y.block = none ∧ y.since = none ∧ y.last = x.last ∧
        t.queue q = occPush (s.queue q) (occRecord 0x21 0 s.frameNo) ∧
        (∀ b, x.block = some b → s.rd q Reg.AUD_RX_RING_RX_EN = 1 → y.records = x.records ++ [blockRecord b.first b.mask0
          (b2n b.change.isSome + 2 * b2n b.gap + 4 + 8 * b2n b.format) (b.change.getD 0) b.mask x.seq p b.words])) ∧
      (∀ l, x.last = some l → x.steps ≠ s.tm.steps → l < g → y.steps = s.tm.steps ∧ y.last = some g ∧ (y.block.map (·.first)) = some g)) ∧
    (∀ p, p < 16 → s.enabled (AUD p) = false → (s.audApplied p).audPort p = { seq := (s.audPort p).seq } ∧
      (s.audApplied p).rd (AUD p) Reg.AUD_PORT_STATE_RUNNING = 0) ∧
    (∀ p, (s.audPort p).records = [] → exec (.audioBlockWrite p) s = .next (settle s)) ∧
    (∀ p r l, p < 16 → (s.audPort p).records = r :: l → Takes (.audioBlockWrite p) s fun t =>
      let a := s.rd (AUD p) Reg.AUD_RX_RING_BASE * 65536 +
        s.rd (AUD p) Reg.AUD_PORT_STATE_RX_WRITTEN % 2 ^ s.rd (AUD p) Reg.AUD_RX_RING_ENTRIES_LOG2 * (32 + 128 * (s.audPort p).blockLen)
      (t.audPort p).records = l ∧
      t.rd (AUD p) Reg.AUD_PORT_STATE_RX_WRITTEN = (s.rd (AUD p) Reg.AUD_PORT_STATE_RX_WRITTEN + 1) % 2 ^ 16 ∧
      (∀ i b, r[i]? = some b → a + i < poolSize → s.guardedByte .firmware ((a + i) / 64 * 64) = false → t.byteAt (a + i) = b) ∧
      (∀ x, x < a ∨ a + r.length ≤ x → t.byteAt x = s.byteAt x)) ∧
    (∀ n, n < 16 →
      let q := CVU n
      let x := s.unit n
      let running := s.opState q cvuOp = 1
      let scans := running ∧ x.cfgField Reg.CVU_CVU_CFG_MODE = 0
      let snoops := running ∧ x.cfgField Reg.CVU_CVU_CFG_MODE ≠ 0
      let width := (s.cvuAlg n).getD 0 0
      let sel := s.rd q Reg.CVU_VAL_SEL % 16
      (∀ a v, Ready s a q → ∃ u : State, ActionStored q 0x54 s u ∧
        (v.getLsbD 1 = false → exec (.cvuStart a n v) s = .next (settle (u.cvuStart a n))) ∧
        (v.getLsbD 0 = false → exec (.cvuAbort a n v) s = .next (settle (u.cvuAbort n))) ∧
        (running ∨ (u.cvuStart a n).opState q cvuOp ≠ 1 → exec (.cvuStart a n (v ||| 2)) s = .next (settle ((u.cvuStart a n).cvuAbort n))) ∧
        (¬ running → (u.cvuStart a n).opState q cvuOp = 1 →
          exec (.cvuStart a n (v ||| 2)) s = .next (settle ((u.cvuStart a n).cvuEnd n 3))) ∧
        exec (.cvuAbort a n (v ||| 1)) s = exec (.cvuStart a n (v ||| 2)) s) ∧
      (∀ a,
        let owner := s.roleOf a = some .owner
        let cause := s.cvuCause n (decide owner)
        let t := s.cvuStart a n
        let y := t.unit n
        (running → t.queue q = occPush (s.queue q) (occRecord 0x02 0 s.frameNo) ∧ t.unit n = x ∧ t.opState q cvuOp = 1) ∧
        (¬ running → cause ≠ 0 → t.opState q cvuOp = 4 ∧ t.rd q Reg.CVU_CVU_STATE_FAIL_CAUSE = cause % 16 ∧
          y.running = x.running ∧ y.result = x.result ∧ y.done = 0 ∧ t.mem = s.mem ∧
          t.queue q = occPush (s.queue q) (occRecord 0x22 cause s.frameNo)) ∧
        (¬ running → cause = 0 → t.opState q cvuOp = 1 ∧ t.rd q ⟨cvuOp, 31, 8⟩ = 0 ∧ y.span = (x.addr, x.len) ∧ y.done = 0 ∧ y.alg = s.cvuAlg n ∧
          y.cfg = s.rd q Reg.CVU_CVU_CFG ∧ y.snoop = s.rd q Reg.CVU_SNOOP_CFG ∧ y.owner = decide owner ∧ y.result = x.result ∧
          y.left = s.rd q Reg.CVU_SNOOP_CFG_FRAMES ∧ t.occ = s.occ ∧ t.mem = s.mem ∧ t.rd q Reg.CVU_CVU_STATE_FAIL_CAUSE = 0 ∧
          t.rd q Reg.CVU_CVU_STATE_LAST_MISMATCH = 0 ∧
          y.running = (if s.rd q Reg.CVU_CVU_CFG_RESUME = 1 then x.running % 2 ^ width else (s.cvuAlg n).getD 2 0) ∧
          (s.rd q Reg.CVU_CVU_CFG_MODE = 0 → t.rd q Reg.CVU_CVU_STATE_SEALED_FED = b2n (s.meetsSealed x.addr x.len) ∧
            ∀ e ∈ t.leases, e.2.base * 65536 < x.addr + x.len → x.addr < (e.2.base + e.2.size) * 65536 → n ∈ e.2.scans))) ∧
      (∀ owner,
        let kind := s.rd q Reg.CVU_SNOOP_CFG_KIND
        let inst := s.rd q Reg.CVU_SNOOP_CFG_INST
        let bad := width < 8
        let source := 3 < kind ∨ (kind = 0 ∧ (64 ≤ inst ∨ s.rd (ING inst) Reg.INGEST_STREAM_CFG_KIND ≠ 0)) ∨ (kind = 1 ∧ 32 ≤ inst) ∨
          (kind = 2 ∧ 128 ≤ inst) ∨ (kind = 3 ∧ 896 ≤ inst)
        (s.rd q Reg.CVU_CVU_CFG_MODE = 0 → s.cvuCause n owner =
          if x.len = 0 ∨ poolSize < x.addr + x.len then 1 else if bad then 2
          else if owner = false ∧ s.meetsSealed x.addr x.len = true then 4 else 0) ∧
        (s.rd q Reg.CVU_CVU_CFG_MODE ≠ 0 → (s.cvuCause n owner = 2 ↔ bad ∨ s.rd q Reg.CVU_SNOOP_CFG_FRAMES = 0) ∧
          (s.cvuCause n owner = 3 ↔ source ∧ ¬ (bad ∨ s.rd q Reg.CVU_SNOOP_CFG_FRAMES = 0)) ∧
          (s.cvuCause n owner = 0 ∨ s.cvuCause n owner = 2 ∨ s.cvuCause n owner = 3))) ∧
      (s.rd q Reg.CVU_CVU_CFG_CLASS = 0 → s.cvuAlg n = match s.rd q Reg.CVU_CVU_CFG_SYS_ALG with
        | 0 => [16, 0x1021, 0xFFFF, 0, 0, 0]
        | 1 => [32, 0x04C11DB7, 0xFFFFFFFF, 1, 1, 0xFFFFFFFF]
        | 2 => [32, 0x1EDC6F41, 0xFFFFFFFF, 1, 1, 0xFFFFFFFF]
        | _ => [0, 0, 0, 0, 0, 0]) ∧
      (s.rd q Reg.CVU_CVU_CFG_CLASS ≠ 0 → s.cvuAlg n = let w := s.rd q Reg.CVU_CVU_CFG_WIDTH_M1 + 1
        [w, x.poly % 2 ^ w, x.init % 2 ^ w, s.rd q Reg.CVU_CVU_CFG_REFIN, s.rd q Reg.CVU_CVU_CFG_REFOUT, x.xorout % 2 ^ w]) ∧
      (running → (s.cvuAbort n).opState q cvuOp = 3 ∧ ((s.cvuAbort n).unit n).result = x.result ∧ (s.cvuAbort n).occ = s.occ ∧
        (s.cvuAbort n).mem = s.mem ∧ (∀ e ∈ (s.cvuAbort n).leases, n ∉ e.2.scans) ∧
        (scans → x.done < x.span.2 → ((s.cvuAbort n).unit n).running =
          (x.feed ((s.bytesAt (x.span.1 + x.done) (((s.cvuAbort n).unit n).done - x.done)).map fun b => b.toNat)).running)) ∧
      (¬ running → (s.cvuAbort n).queue q = occPush (s.queue q) (occRecord 0x01 0 s.frameNo) ∧ (s.cvuAbort n).unit n = x) ∧
      (¬ scans → exec (.cvuScanDone n) s = .next (settle s)) ∧
      (scans → Takes (.cvuScanDone n) s fun t =>
        let y := x.feed ((s.bytesAt (x.span.1 + x.done) (x.span.2 - x.done)).map fun b => b.toNat)
        t.opState q cvuOp = 2 ∧ (t.unit n).result = y.final ∧ (t.unit n).running = y.running ∧ t.mem = s.mem ∧
        t.rd q Reg.CVU_RESULTS = (s.rd q Reg.CVU_RESULTS + 1) % 2 ^ 32 ∧ t.rd q Reg.CVU_LAST_FRAME = s.frameNo % 2 ^ 32 ∧
        (∀ e ∈ t.leases, n ∉ e.2.scans) ∧
        (x.cfgField Reg.CVU_CVU_CFG_COMPARE_EN = 0 → t.occ = s.occ ∧ t.rd q Reg.CVU_COMPARES = s.rd q Reg.CVU_COMPARES ∧
          t.rd q Reg.CVU_CVU_STATE_LAST_MATCH = s.rd q Reg.CVU_CVU_STATE_LAST_MATCH ∧
          t.rd q Reg.CVU_CVU_STATE_LAST_MISMATCH = s.rd q Reg.CVU_CVU_STATE_LAST_MISMATCH) ∧
        (x.cfgField Reg.CVU_CVU_CFG_COMPARE_EN = 1 →
          t.rd q Reg.CVU_COMPARES = (s.rd q Reg.CVU_COMPARES + 1) % 2 ^ 32 ∧
          t.rd q Reg.CVU_CVU_STATE_LAST_MATCH = (if y.final = x.expected % 2 ^ x.width then 1 else 0) ∧
          t.rd q Reg.CVU_CVU_STATE_LAST_MISMATCH = (if y.final = x.expected % 2 ^ x.width then 0 else 1) ∧
          (y.final = x.expected % 2 ^ x.width → t.occ = s.occ) ∧
          (y.final ≠ x.expected % 2 ^ x.width → t.queue q = occPush (s.queue q) (occRecord 0x20 0 s.frameNo) ∧
            t.rd q Reg.CVU_MISMATCHES = (s.rd q Reg.CVU_MISMATCHES + 1) % 2 ^ 32))) ∧
      (∀ k, ¬ scans ∨ k < x.done ∨ x.span.2 ≤ k → exec (.cvuMemoryError n k) s = .next (settle s)) ∧
      (∀ k, scans → x.done ≤ k → k < x.span.2 → Takes (.cvuMemoryError n k) s fun t => t.opState q cvuOp = 4 ∧
        t.rd q Reg.CVU_CVU_STATE_FAIL_CAUSE = 5 ∧ (t.unit n).result = x.result ∧
        (t.unit n).running = (x.feed ((s.bytesAt (x.span.1 + x.done) (k - x.done)).map fun b => b.toNat)).running ∧
        (∀ e ∈ t.leases, n ∉ e.2.scans) ∧ t.queue q = occPush (s.queue q) (occRecord 0x22 5 s.frameNo)) ∧
      (¬ snoops ∨ s.snoopFrame x = none → exec (.cvuSnoopFrame n) s = .next (settle s)) ∧
      (∀ key isSealed content count, snoops → s.snoopFrame x = some (key, isSealed, content, count) →
        let again := x.cfgField Reg.CVU_CVU_CFG_CONTINUOUS ≠ 0
        let stops := x.cfgField Reg.CVU_CVU_CFG_STOP_ON_MISMATCH = 1 ∧ x.cfgField Reg.CVU_CVU_CFG_COMPARE_EN ≠ 0
        (isSealed = true → x.owner = false → Takes (.cvuSnoopFrame n) s fun t => t.opState q cvuOp = 4 ∧
          t.rd q Reg.CVU_CVU_STATE_FAIL_CAUSE = 4 ∧ (t.unit n).running = x.running ∧
          t.queue q = occPush (s.queue q) (occRecord 0x22 4 s.frameNo)) ∧
        (isSealed = false ∨ x.owner = true → Takes (.cvuSnoopFrame n) s fun t =>
          t.rd q Reg.CVU_CVU_STATE_SEALED_FED = (if isSealed = true then 1 else s.rd q Reg.CVU_CVU_STATE_SEALED_FED) ∧
          (t.unit n).next = key + 1 ∧ t.mem = s.mem ∧ t.rd q ⟨cvuOp, 31, 8⟩ = (s.rd q ⟨cvuOp, 31, 8⟩ + 1) % 2 ^ 24 ∧
          (1 < x.left → t.opState q cvuOp = 1 ∧ (t.unit n).left = x.left - 1 ∧ (t.unit n).result = x.result ∧ t.occ = s.occ ∧
            (∀ l, content = some l → (t.unit n).running = (x.feed l).running)) ∧
          (x.left ≤ 1 →
            t.rd q Reg.CVU_RESULTS = (s.rd q Reg.CVU_RESULTS + 1) % 2 ^ 32 ∧ t.rd q Reg.CVU_LAST_FRAME = s.frameNo % 2 ^ 32 ∧
            (∀ l, content = some l → (t.unit n).result = (x.feed l).final) ∧
            (¬ again → t.opState q cvuOp = 2) ∧
            (again → ¬ stops → t.opState q cvuOp = 1 ∧ (t.unit n).running = x.start ∧ (t.unit n).done = 0 ∧
              (t.unit n).left = x.snoopField Reg.CVU_SNOOP_CFG_FRAMES) ∧
            (∀ l, again → stops → content = some l →
              t.opState q cvuOp = if (x.feed l).final = x.expected % 2 ^ x.width then 1 else 2)))) ∧
      (∀ a, Readable s a q →
        let u := if sel = 4 ∨ sel = 8 then s.cvuLook n else s
        ∃ w : State, exec (.cvuValLoRead a n) s = .next (settle (w.emit (.readData (BitVec.ofNat 32 (u.cvuValue a n))))) ∧
          w.cvuReadHi a n = u.cvuValue a n / 2 ^ 32 ∧ w.occ = s.occ ∧ w.mem = s.mem ∧ (∀ k, k ≠ n → w.unit k = s.unit k) ∧
          (¬ scans ∨ (sel ≠ 4 ∧ sel ≠ 8) → u.unit n = x ∧ w.cur = s.cur)) ∧
      (∀ a,
        let hidden := s.rd q Reg.CVU_CVU_STATE_SEALED_FED = 1 ∧ belowOwner (s.roleOf a) = true
        s.cvuValue a n = match sel with
          | 0 => x.poly | 1 => x.init | 2 => x.xorout | 3 => x.expected
          | 4 => if hidden then 0 else x.running % 2 ^ s.cvuWidth n
          | 5 => if hidden then 0 else x.result
          | 6 => x.addr | 7 => x.len | 8 => x.done | _ => 0) ∧
      (∀ a v, Ready s a q →
        let w := x.held + 2 ^ 32 * v.toNat
        let stores (y : CvuUnit) : Prop := exec (.cvuValHiWrite a n v) s = .next (settle (s.setUnit n y))
        exec (.cvuValLoWrite a n v) s = .next (settle (s.setUnit n { x with held := v.toNat })) ∧
        (sel = 0 → stores { x with poly := w }) ∧ (sel = 1 → stores { x with init := w }) ∧ (sel = 2 → stores { x with xorout := w }) ∧
        (sel = 3 → stores { x with expected := w }) ∧ (sel = 4 → ¬ running → stores { x with running := w }) ∧
        (sel = 4 → running → exec (.cvuValHiWrite a n v) s = .next (settle (s.occur q 0x21 4 s.frameNo))) ∧
        (sel = 6 → stores { x with addr := w % 2 ^ 37 }) ∧ (sel = 7 → stores { x with len := w % 2 ^ 37 }) ∧
        (sel = 5 ∨ 8 ≤ sel → exec (.cvuValHiWrite a n v) s = .next (settle s))))

/-! 20_security.md: tokens, identity. -/

/-- R454, R455, R458, R474, R475: a token command acts on the TOKEN_SUBMIT that runs with a token of its action, and on nothing else. A token that
fails a check is refused with the number of the first check it fails, and changes nothing but TOKEN_RESULT, TOKENS_REFUSED, its record and
its reply. Which check is first: 2 FORMAT, 3 DEVICE, 4 NO_ROOT, 5 ROOT_EXISTS, 6 SIGNATURE, 7 REPLAY, 8 NO_TIME, 9 EXPIRED. -/
def Obligations.TokenRefusal : Prop :=
  (∀ (action : Nat) (c : MbxOutcome → Instr) (o : MbxOutcome) (r : Nat) (s : State),
    (action, c) ∈ [(1, Instr.tokenRootProvision), (2, .tokenPolicySet), (3, .tokenCertInstall), (4, .tokenSeal), (5, .tokenUnseal),
      (6, .tokenRegWrite), (7, .tokenSvnAdvance), (8, .tokenDebugPermaClose), (9, .tokenPwReset)] →
    (s.mbxRunning 0x0501 = false ∨ tokNat (s.token s.mbx.req) 3 1 ≠ action → exec (c o) s = .next (settle s)) ∧
    (TokenRuns s action o.signed r → r ≠ 0 → TokenRefused (c o) s action r 0)) ∧
  ∀ (s : State) (b : List Byte) (sig : Bool),
    (b.length < 128 ∨ 4096 < b.length ∨ tokNat b 0 2 ≠ 0x7A1E ∨ tokNat b 2 1 ≠ 1 ∨ tokNat b 4 2 ≠ b.length ∨ tokNat b 6 2 ≠ 0 ∨
      payloadOk (tokNat b 3 1) (tokPayload b) = false ↔ s.tokenCheck b sig = 2) ∧
    (s.tokenCheck b sig ≠ 2 →
      let seq := s.rd (SEC 0) Reg.SEC0_OWNER_SEQ_LO + 2 ^ 32 * s.rd (SEC 0) Reg.SEC0_OWNER_SEQ_HI
      (tokNat b 8 8 ≠ s.serialNo ↔ s.tokenCheck b sig = 3) ∧
      (tokNat b 8 8 = s.serialNo →
        (s.rootSet = false ∧ tokNat b 3 1 ≠ 1 ↔ s.tokenCheck b sig = 4) ∧ (s.rootSet = true ∧ tokNat b 3 1 = 1 ↔ s.tokenCheck b sig = 5) ∧
        ((s.rootSet = true ↔ tokNat b 3 1 ≠ 1) →
          (sig = false ↔ s.tokenCheck b sig = 6) ∧
          (sig = true → (tokNat b 16 8 ≤ seq ↔ s.tokenCheck b sig = 7) ∧
            (seq < tokNat b 16 8 →
              (tokNat b 24 8 ≠ 0 ∧ s.rd SYS Reg.SYS_TIME_SRC_SOURCE = 0 ↔ s.tokenCheck b sig = 8) ∧
              (tokNat b 24 8 ≠ 0 ∧ s.rd SYS Reg.SYS_TIME_SRC_SOURCE ≠ 0 ∧ tokNat b 24 8 < s.tm.frame ↔ s.tokenCheck b sig = 9) ∧
              (tokNat b 24 8 = 0 ∨ (s.rd SYS Reg.SYS_TIME_SRC_SOURCE ≠ 0 ∧ s.tm.frame ≤ tokNat b 24 8) ↔ s.tokenCheck b sig = 0))))))

/-- R452, R453, R456, R457, R460, R463, R464, R470, R473: what each action of an accepted token does, and the details with which an action
refuses (result 10). ROOT_PROVISION programs the hash's 1 bits and sets ROOT_SET; POLICY_SET puts its record in force; CERT_INSTALL stores a
certificate that names this device, its root and its keys; each of the three extends its measurement, and a policy with another password hash
clears the failures; SEAL adds ranges; UNSEAL takes the named ranges away, or all; REG_WRITE executes
its writes with OWNER rights; SVN_ADVANCE raises SVN_MIN no further than the running image; DEBUG_PERMA_CLOSE ends the session for ever;
PW_RESET clears failures and wait. -/
def Obligations.TokenEffects : Prop :=
  ∀ (o : MbxOutcome) (s : State),
    let b := s.token s.mbx.req
    let p := tokPayload b
    (TokenRuns s 1 o.signed 0 →
      let h := hashBytes (Config.sha384 p)
      (beNat s.rootBytes &&& beNat h ≠ beNat s.rootBytes → TokenRefused (.tokenRootProvision o) s 1 10 1) ∧
      (beNat s.rootBytes &&& beNat h = beNat s.rootBytes → TokenAccepted (.tokenRootProvision o) s 1 fun u =>
        u.rootSet = true ∧ u.rd (SEC 0) Reg.SEC0_SEC_STATE_ROOT_FAULT = 0 ∧
        u.sec = { s.sec with rootKey := p, meas := (s.extend 3 p).sec.meas } ∧
        ∀ k, k < 12 → u.rd (SEC 0) (Reg.SEC0_ROOT_HASH k) = s.rd (SEC 0) (Reg.SEC0_ROOT_HASH k) ||| leNat ((h.drop (4 * k)).take 4))) ∧
    (TokenRuns s 2 o.signed 0 →
      let q := policyOf p
      (32 ≤ q.flags ∨ q.sessionMax < 60 ∨ 86400 < q.sessionMax → TokenRefused (.tokenPolicySet o) s 2 10 1) ∧
      (q.flags < 32 → 60 ≤ q.sessionMax → q.sessionMax ≤ 86400 → s.serviceOpen = false ∨ s.cur.Pairwise (fun x y => x.1 < y.1) →
        TokenAccepted (.tokenPolicySet o) s 2 fun u => u.sec.policy = some q ∧ u.rd (SEC 0) Reg.SEC0_SEC_STATE_POLICY_VALID = 1 ∧
          u.rd (SEC 2) Reg.SEC2_POLICY_FRAME = s.frameNo % 2 ^ 32 ∧ u.sec.meas = (s.extend 4 q.record).sec.meas ∧
          (∀ old, s.sec.policy = some old → old.pwHash = q.pwHash → u.sec.failures = s.sec.failures ∧ u.sec.waitUntil = s.sec.waitUntil) ∧
          ((∀ old, s.sec.policy = some old → old.pwHash ≠ q.pwHash) → u.sec.failures = 0 ∧ u.sec.waitUntil = none) ∧
          (∀ d, s.sec.session = some d → (if d.service then bit q.flags 3 && q.keyHashes.contains d.keyHash else bit q.flags 2) = true →
            u.sec.session = some d ∧ u.queue (SEC 3) = s.queue (SEC 3)) ∧
          (∀ d, s.sec.session = some d → (if d.service then bit q.flags 3 && q.keyHashes.contains d.keyHash else bit q.flags 2) = false →
            u.sec.session = none))) ∧
    (TokenRuns s 3 o.signed 0 →
      let named := tokNat p 0 4 = 1 ∧ tokNat p 4 8 = s.serialNo ∧ (p.drop 12).take 8 = s.rootBytes.take 8 ∧
        ∀ i, i < 97 → p.getD (20 + i) 0 = Config.publicKey 0 i ∧ p.getD (117 + i) 0 = Config.publicKey 1 i
      (¬ named → TokenRefused (.tokenCertInstall o) s 3 10 1) ∧
      (named → o.cosigned = false → TokenRefused (.tokenCertInstall o) s 3 10 2) ∧
      (named → o.cosigned = true → TokenAccepted (.tokenCertInstall o) s 3 fun u =>
        u.sec = { s.sec with cert := some p, meas := (s.extend 5 p).sec.meas } ∧ u.rd (SEC 0) Reg.SEC0_SEC_STATE_CERT_VALID = 1)) ∧
    (TokenRuns s 4 o.signed 0 →
      let l := sealEntries p
      let n := (s.wr (SEC 0) Reg.SEC0_OWNER_SEQ_LO (tokNat b 16 8)).wr (SEC 0) Reg.SEC0_OWNER_SEQ_HI (tokNat b 16 8 / 2 ^ 32)
      let t : State := { n with sec := { s.sec with ranges := sealInsert s.sec.ranges l } }
      let good := ∀ e ∈ l, e.2.1 ≠ 0 ∧ (e.1 + e.2.1) * 65536 ≤ poolSize
      (¬ good → TokenRefused (.tokenSeal o) s 4 10 1) ∧
      (good → 64 < s.sec.ranges.length + l.length → TokenRefused (.tokenSeal o) s 4 10 2) ∧
      (good → s.sec.ranges.length + l.length ≤ 64 → t.sealConflict = true → TokenRefused (.tokenSeal o) s 4 10 3) ∧
      (good → s.sec.ranges.length + l.length ≤ 64 → t.sealConflict = false → TokenAccepted (.tokenSeal o) s 4 fun u => u.sec = t.sec)) ∧
    (TokenRuns s 5 o.signed 0 → TokenAccepted (.tokenUnseal o) s 5 fun u =>
      u.sec = { s.sec with ranges := u.sec.ranges } ∧
      ∀ e, e ∈ u.sec.ranges ↔ e ∈ s.sec.ranges ∧ leNat (p.take 1) ≠ 0 ∧ ∀ k, k < leNat (p.take 1) → tokNat p (4 + 4 * k) 4 ≠ e.1) ∧
    (TokenRuns s 6 o.signed 0 →
      let n := (s.wr (SEC 0) Reg.SEC0_OWNER_SEQ_LO (tokNat b 16 8)).wr (SEC 0) Reg.SEC0_OWNER_SEQ_HI (tokNat b 16 8 / 2 ^ 32)
      let e := (n.each (List.range (leNat (p.take 1))) fun t k => t.busWrite ⟨.token (pathUnit t.mbx.by') (pathNode t.mbx.by'), true⟩
        (tokNat p (4 + 8 * k) 4) (BitVec.ofNat 32 (tokNat p (8 + 8 * k) 4)) { signed := o.cosigned, causes := o.failed }).tokenEnd 6 0 0
      e.1.mbxRunning 0x0501 = true → exec (.tokenRegWrite o) s = .next (settle (e.1.mbxReply e.2))) ∧
    (∀ (q : Page) (off : Nat) (d : RegDesc), TokenRuns s 6 o.signed 0 → leNat (p.take 1) = 1 →
      Ready s ⟨.token (pathUnit s.mbx.by') (pathNode s.mbx.by'), true⟩ q → q.inBar0 → 0x20 ≤ off → off < 0x800 → off % 4 = 0 →
      regDesc q off = some d → d.takesWrite off → q.ty ∈ [PageType.pwrDom, .ingest, .lease, .compRaster, .compLayer, .stillPool, .enc,
        .ladder, .dec, .scan, .net, .sched, .fabPort, .aud] → tokNat p 4 4 = pageBase q + off → TokenAccepted (.tokenRegWrite o) s 6 fun u =>
        let v := BitVec.ofNat 32 (tokNat p 8 4)
        (∀ i, i < 32 → (u.wordP q off).getLsbD i = if d.rw.testBit i then v.getLsbD i else (s.wordP q off).getLsbD i) ∧
        (∀ i, i < 32 → (u.word q off).getLsbD i =
          if d.rwi.testBit i || (s.testOpen && d.pv.testBit i) then v.getLsbD i else (s.word q off).getLsbD i) ∧
        u.queue SYS = s.queue SYS) ∧
    (TokenRuns s 7 o.signed 0 →
      let v := leNat p
      (v < s.rd (SEC 0) Reg.SEC0_SVN_MIN_SVN_MIN → TokenRefused (.tokenSvnAdvance o) s 7 10 1) ∧
      (s.rd (SEC 0) Reg.SEC0_SVN_MIN_SVN_MIN ≤ v → s.rd MBX Reg.MBX_FW_SVN % 128 < v → TokenRefused (.tokenSvnAdvance o) s 7 10 2) ∧
      (s.rd (SEC 0) Reg.SEC0_SVN_MIN_SVN_MIN ≤ v → v ≤ s.rd MBX Reg.MBX_FW_SVN % 128 → TokenAccepted (.tokenSvnAdvance o) s 7 fun u =>
        u.rd (SEC 0) Reg.SEC0_SVN_MIN_SVN_MIN = v ∧ u.sec = s.sec)) ∧
    (TokenRuns s 8 o.signed 0 → s.serviceOpen = false ∨ s.cur.Pairwise (fun x y => x.1 < y.1) →
      TokenAccepted (.tokenDebugPermaClose o) s 8 fun u => u.sec = { s.sec with debugDisabled := true, session := none }) ∧
    (TokenRuns s 9 o.signed 0 → TokenAccepted (.tokenPwReset o) s 9 fun u =>
      u.sec = { s.sec with failures := 0, waitUntil := none })

/-- R453, R458, R468: DEVICE_ID answers FORMAT (2) where its 310 bytes do not lie wholly in the host pool, else it writes the certificate, or
without one its layout, and answers whether one is installed. ATTEST answers FORMAT where its 528 bytes do not, else it writes the quote of R468,
whose signature is free. MEAS_EXTEND extends measurement 6 or 7 alone with the hash of the old value and 48 bytes of its request; for another
index it extends none, and its result is free. Each acts only while its command runs. -/
def Obligations.IdentityAndAttestation : Prop :=
  ∀ (s : State), s.pow.up = true →
    (s.mbxRunning 0x0502 = false → exec .deviceId s = .next (settle s)) ∧
    (s.mbxRunning 0x0503 = false → exec .attest s = .next (settle s)) ∧
    (s.mbxRunning 0x0504 = false → exec .measExtend s = .next (settle s)) ∧
    (s.sec.cert = none → s.certificate.length = 310 ∧ s.certificate.take 20 = leBytes 4 1 ++ leBytes 8 s.serialNo ++ leBytes 8 0 ∧
      s.certificate.drop 214 = leBytes 96 0 ∧
      ∀ i, i < 97 → s.certificate[20 + i]? = some (Config.publicKey 0 i) ∧ s.certificate[117 + i]? = some (Config.publicKey 1 i)) ∧
    (∀ c, s.sec.cert = some c → s.certificate = c) ∧
    (s.mbxRunning 0x0502 = true →
      (poolSize < reqOffset s.mbx.req 0 + 310 → exec .deviceId s = .next (settle (s.mbxReply [2]))) ∧
      (reqOffset s.mbx.req 0 + 310 ≤ poolSize → exec .deviceId s = .next (settle
        ((s.writeChecked .firmware (reqOffset s.mbx.req 0) s.certificate).mbxReply [0, b2n s.sec.cert.isSome])))) ∧
    (s.mbxRunning 0x0503 = true →
      (poolSize < reqOffset s.mbx.req 0 + 528 → exec .attest s = .next (settle (s.mbxReply [2]))) ∧
      (reqOffset s.mbx.req 0 + 528 ≤ poolSize → ∃ (quote : List Byte) (u : State), exec .attest s = .next (settle (u.mbxReply [0])) ∧
        u = s.drawn.writeChecked .firmware (reqOffset s.mbx.req 0) quote ∧ quote.length = 528 ∧
        quote.take 8 = leBytes 8 s.serialNo ∧ (quote.drop 8).take 6 = leBytes 6 s.frameNo ∧
        (quote.drop 14).take 34 = leBytes 2 0 ++ ((List.range 8).flatMap fun k => leBytes 4 (s.mbx.req.getD (2 + k) 0)) ∧
        ∀ k, k < 8 → (quote.drop (48 + 48 * k)).take 48 = hashBytes (s.measure k))) ∧
    (s.mbxRunning 0x0504 = true →
      let i := s.mbx.req.getD 0 0
      (i ≠ 6 → i ≠ 7 → ∃ r, exec .measExtend s = .next (settle (s.drawn.mbxReply [r]))) ∧
      (i = 6 ∨ i = 7 → ∃ u : State, exec .measExtend s = .next (settle (u.mbxReply [0])) ∧ (∀ j, j < 8 → j ≠ i → u.measure j = s.measure j) ∧
        u.measure i = Config.sha384 (hashBytes (s.measure i) ++ (List.range 12).flatMap fun k => leBytes 4 (s.mbx.req.getD (1 + k) 0)) ∧
        u = { s with sec := { s.sec with meas := u.sec.meas } }))

/-! 20_security.md: key slots, debug sessions, JTAG. -/

/-- R461, R462: KEY_LOAD_START samples slot, offset and length and runs, or records START_BUSY; ABORT ends a running load ABORTED, and is late
otherwise; a start with an abort ends ABORTED at once. KEY_LOAD_DONE ends it: FAILED with the first cause among 1 RANGE, 2 FORMAT, 3 WRONG_TARGET, 4 UNWRAP and 5 IN_USE, each of which leaves
every slot as it was, or DONE, with the slot valid under the blob's type and holding its key. KEY_CLEAR empties the indexed slot, or records KEY_BUSY for one in
use. -/
def Obligations.KeySlots : Prop :=
  ∀ (s : State),
    let q := SEC 1
    let running := s.opState q 0x54 = 1
    (∀ a v, Ready s a q → v.getLsbD 1 = false →
      (running → Takes (.keyLoadStart a v) s fun t => t.queue q = occPush (s.queue q) (occRecord 0x02 0 s.frameNo) ∧ t.sec = s.sec) ∧
      (¬ running → Takes (.keyLoadStart a v) s fun t => t.opState q 0x54 = 1 ∧ t.rd q Reg.SEC1_KEY_OP_STATUS_PROGRESS = 0 ∧ t.occ = s.occ ∧
        t.sec = { s.sec with keyOp := (s.rd q Reg.SEC1_KEY_INDEX % 256,
          s.rd q Reg.SEC1_KEY_SRC_LO + s.rd q Reg.SEC1_KEY_SRC_HI % 32 * 2 ^ 32, s.rd q Reg.SEC1_KEY_LEN % 512) })) ∧
    (∀ a v, Ready s a q → v.getLsbD 0 = false →
      (running → Takes (.keyLoadAbort a v) s fun t => t.opState q 0x54 = 3 ∧ t.sec = s.sec ∧ t.occ = s.occ) ∧
      (¬ running → Takes (.keyLoadAbort a v) s fun t =>
        t.queue q = occPush (s.queue q) (occRecord 0x01 0 s.frameNo) ∧ t.sec = s.sec)) ∧
    (∀ a v, Ready s a q → v.getLsbD 1 = true →
      exec (.keyLoadStart a v) s = exec (.keyLoadAbort a (v ||| 1)) s ∧
      (running → Takes (.keyLoadStart a v) s fun t => t.opState q 0x54 = 3 ∧ t.sec = s.sec ∧
        t.queue q = occPush (s.queue q) (occRecord 0x02 0 s.frameNo)) ∧
      (¬ running → Takes (.keyLoadStart a v) s fun t => t.opState q 0x54 = 3 ∧ t.rd q Reg.SEC1_KEY_OP_STATUS_PROGRESS = 0 ∧ t.occ = s.occ ∧
        t.sec.slots = s.sec.slots ∧ t.sec.keys = s.sec.keys)) ∧
    (∀ tag, s.pow.up = true → ¬ running → exec (.keyLoadDone tag) s = .next (settle s)) ∧
    (∀ tag, s.pow.up = true → running →
      let src := s.sec.keyOp.2.1
      let len := s.sec.keyOp.2.2
      let b := s.bytesAt src len
      let bad := tokNat b 0 2 ≠ 0x4B57 ∨ tokNat b 2 1 ≠ 1 ∨ tokNat b 5 3 ≠ 0 ∨
        ¬ ((tokNat b 3 1 = 1 ∧ len = 185) ∨ (tokNat b 3 1 = 2 ∧ len = 173) ∨ (tokNat b 3 1 = 3 ∧ len = 185))
      let wrong := tokNat b 8 8 ≠ s.serialNo ∨ tokNat b 4 1 ≠ s.sec.keyOp.1
      (∀ c, (c = 1 ∧ poolSize < src + len) ∨ (c = 2 ∧ src + len ≤ poolSize ∧ bad) ∨ (c = 3 ∧ src + len ≤ poolSize ∧ ¬ bad ∧ wrong) ∨
          (c = 4 ∧ src + len ≤ poolSize ∧ ¬ bad ∧ ¬ wrong ∧ tag = false) ∨
          (c = 5 ∧ src + len ≤ poolSize ∧ ¬ bad ∧ ¬ wrong ∧ tag = true ∧ s.slotUsed s.sec.keyOp.1 = true) →
        Takes (.keyLoadDone tag) s fun t => t.opState q 0x54 = 4 ∧ t.rd q Reg.SEC1_KEY_FAIL = c ∧ t.sec = s.sec ∧ t.occ = s.occ ∧
          t.rd q Reg.SEC1_LOAD_FAILS = (s.rd q Reg.SEC1_LOAD_FAILS + 1) % 2 ^ 32 ∧
          t.rd q Reg.SEC1_UNWRAP_FAILS = (s.rd q Reg.SEC1_UNWRAP_FAILS + b2n (c = 4)) % 2 ^ 32 ∧
          t.rd q Reg.SEC1_KEY_OP_STATUS_PROGRESS = if c = 1 then s.rd q Reg.SEC1_KEY_OP_STATUS_PROGRESS else len % 2 ^ 24) ∧
      (src + len ≤ poolSize → ¬ bad → ¬ wrong → tag = true → s.slotUsed s.sec.keyOp.1 = false →
        Takes (.keyLoadDone tag) s fun t => t.opState q 0x54 = 2 ∧ t.rd q Reg.SEC1_KEY_FAIL = 0 ∧ t.occ = s.occ ∧
          t.sec = { s.sec with slots := tins s.sec.keyOp.1 (tokNat b 3 1) s.sec.slots, keys := tins s.sec.keyOp.1 b s.sec.keys,
                               loads := tins s.sec.keyOp.1 ((tget 0 s.sec.loads s.sec.keyOp.1 + 1) % 65536) s.sec.loads } ∧
          t.rd q Reg.SEC1_LOADS_TOTAL = (s.rd q Reg.SEC1_LOADS_TOTAL + 1) % 2 ^ 32 ∧ t.rd q Reg.SEC1_LAST_LOAD_FRAME = s.frameNo % 2 ^ 32 ∧
          t.rd q Reg.SEC1_KEY_OP_STATUS_PROGRESS = len % 2 ^ 24 ∧ t.rd q Reg.SEC1_LAST_LOAD_SLOT = s.sec.keyOp.1 % 2 ^ 32)) ∧
    (∀ a v, Ready s a q → ∃ u, ActionStored q 0x60 s u ∧
      let k := s.rd q Reg.SEC1_KEY_INDEX % 256
      (u.slotUsed k = true → exec (.keyClear a v) s = .next (settle (u.occurF q 0x20 k))) ∧
      (u.slotUsed k = false → Takes (.keyClear a v) s fun t => t.sec = { s.sec with slots := tdel k s.sec.slots, keys := tdel k s.sec.keys } ∧ t.occ = s.occ ∧
        t.rd q Reg.SEC1_CLEARS_TOTAL = (s.rd q Reg.SEC1_CLEARS_TOTAL + 1) % 2 ^ 32))

/-- R469-R473: a challenge carries its tag, version, serial and number; responses are judged in the order of R472 and passwords by R470. A check runs to its
end within its start; an abort is late, and one with the start ends it before it judges. A session ends by CLOSE or at its expiry, and each PV bit then returns to its reset value.
JTAG: DBG_UNLOCK judges as the register does, DBG_READ reads in any session as the register and memory commands do, and DBG_WRITE writes in a
SERVICE session; outside a session, or in a DIAG session for DBG_WRITE and DBG_SCAN, nothing happens. A SERVICE session makes PCIe a SERVICE
role, and no other session does. -/
def Obligations.DebugSessions : Prop :=
  ∀ (s : State),
    let q := SEC 3
    (∀ a v, Ready s a q → v.getLsbD 1 = false → Takes (.dbgChallenge a v) s fun t => ∃ bytes,
      t.sec = { s.sec with challenges := s.sec.challenges + 1,
                           challenge := some { number := s.sec.challenges + 1, bytes := bytes, issued := s.tm.sys, valid := true } } ∧
      bytes.length = 48 ∧ bytes.take 12 = leBytes 2 0x4348 ++ leBytes 1 1 ++ leBytes 1 0 ++ leBytes 8 s.serialNo ∧
      bytes.drop 44 = leBytes 4 (s.sec.challenges + 1) ∧ t.occ = s.occ) ∧
    (∀ a v, Ready s a q → ∃ u, ActionStored q 0x44 s u ∧
      exec (.dbgChallenge a v) s = .next (settle (if v.getLsbD 1 then u.challenge.sessionEnd 0 else u.challenge)) ∧
      exec (.dbgClose a v) s = .next (settle ((if v.getLsbD 0 then u.challenge else u).sessionEnd 0))) ∧
    (∀ a v, Ready s a q → v.getLsbD 0 = false → Takes (.dbgClose a v) s fun t => t.sec = { s.sec with session := none } ∧
      t.roleOf ⟨.pcie, true⟩ = some .operator ∧
      (s.sec.session = none → t.occ = s.occ) ∧
      (s.sec.session ≠ none → t.queue q = occPush (s.queue q) (occRecord 0x21 0 s.frameNo))) ∧
    (Takes .sessionExpiry s fun t => t.sec = { s.sec with session := none } ∧
      (s.sec.session ≠ none → t.queue q = occPush (s.queue q) (occRecord 0x21 1 s.frameNo)) ∧
      (s.serviceOpen = true → s.cur.Pairwise (fun x y => x.1 < y.1) → ∀ (p : Page) (off : Nat) (d : RegDesc), p.inBar0 → off < 0x800 →
        off % 4 = 0 → regDesc p off = some d → ∀ i, i < 32 →
        (t.word p off).getLsbD i = if d.pv.testBit i then (resetOf (pageBase p + off)).getLsbD i else (s.word p off).getLsbD i)) ∧
    exec .challengeExpiry s =
      .next (settle { s with sec := { s.sec with challenge := s.sec.challenge.map fun c => { c with valid := false } } }) ∧
    exec .pwDelayExpiry s = .next (settle { s with sec := { s.sec with waitUntil := none } }) ∧
    (∀ a v k, Ready s a q → v.getLsbD 1 = false → s.opState q 0x84 ≠ 1 → Takes (.dbgResponseCheck a v k) s fun t =>
      Responded s (s.buffer Reg.SEC3_RESP_SRC_LO Reg.SEC3_RESP_SRC_HI 249) k.signed t ∧ t.opState q 0x84 = 2 ∧
        t.rd q Reg.SEC3_RESP_OP_STATUS_PROGRESS = 249) ∧
    (∀ a v, Ready s a q → v.getLsbD 1 = false → s.opState q 0x9C ≠ 1 →
      let n := s.rd q Reg.SEC3_PW_LEN
      Takes (.pwCheck a v) s fun t => t.opState q 0x9C = 2 ∧
        Passed s (if n ≤ 64 then s.buffer Reg.SEC3_PW_SRC_LO Reg.SEC3_PW_SRC_HI n else []) t) ∧
    (∀ a v k, Ready s a q → v.getLsbD 1 = true →
      (s.opState q 0x84 ≠ 1 → Takes (.dbgResponseCheck a v k) s fun t => t.opState q 0x84 = 3 ∧ t.sec = s.sec ∧ t.occ = s.occ) ∧
      (s.opState q 0x9C ≠ 1 → Takes (.pwCheck a v) s fun t => t.opState q 0x9C = 3 ∧ t.sec = s.sec ∧ t.occ = s.occ)) ∧
    (∀ a v k, Ready s a q → v.getLsbD 1 = false →
      (s.opState q 0x84 = 1 → Takes (.dbgResponseCheck a v k) s fun t =>
        t.queue q = occPush (s.queue q) (occRecord 0x02 0 s.frameNo) ∧ t.sec = s.sec) ∧
      (s.opState q 0x9C = 1 → Takes (.pwCheck a v) s fun t =>
        t.queue q = occPush (s.queue q) (occRecord 0x02 1 s.frameNo) ∧ t.sec = s.sec)) ∧
    (∀ a v, Ready s a q → v.getLsbD 0 = false →
      (s.opState q 0x84 = 1 → Takes (.dbgResponseAbort a v) s fun t => t.opState q 0x84 = 3 ∧ t.sec = s.sec ∧ t.occ = s.occ) ∧
      (s.opState q 0x9C = 1 → Takes (.pwCheckAbort a v) s fun t => t.opState q 0x9C = 3 ∧ t.sec = s.sec ∧ t.occ = s.occ) ∧
      (s.opState q 0x84 ≠ 1 → Takes (.dbgResponseAbort a v) s fun t =>
        t.queue q = occPush (s.queue q) (occRecord 0x01 0 s.frameNo) ∧ t.sec = s.sec) ∧
      (s.opState q 0x9C ≠ 1 → Takes (.pwCheckAbort a v) s fun t =>
        t.queue q = occPush (s.queue q) (occRecord 0x01 1 s.frameNo) ∧ t.sec = s.sec)) ∧
    (∀ r b sig, s.pow.up = false → exec (.jtagDbgUnlock r b sig) s = .next (settle s)) ∧
    (∀ b sig, s.pow.up = true → Takes (.jtagDbgUnlock true b sig) s (Responded s b sig) ∧ Takes (.jtagDbgUnlock false b sig) s (Passed s b)) ∧
    (∀ (b : List Byte) (sig : Bool),
      let bad := b.length ≠ 249 ∨ tokNat b 48 1 ≠ 1 ∨ tokNat b 49 3 ≠ 0
      let key := Config.sha384 ((b.drop 56).take 97)
      (bad → s.responseResult b sig = 6) ∧ (¬ bad → s.sec.policy = none → s.responseResult b sig = 1) ∧
      (¬ bad → (∀ p, s.sec.policy = some p → bit p.flags 3 = false) ∨ s.sec.debugDisabled = true → s.responseResult b sig = 1) ∧
      (∀ p, ¬ bad → s.sec.policy = some p → bit p.flags 3 = true → s.sec.debugDisabled = false →
        ((∀ c, s.sec.challenge = some c → c.valid = false ∨ c.bytes ≠ b.take 48) → s.responseResult b sig = 2) ∧
        (∀ c, s.sec.challenge = some c → c.valid = true → c.bytes = b.take 48 → s.responseResult b sig =
          if key = 0 ∨ key ∉ p.keyHashes then 3 else if tokNat b 52 4 = 0 ∨ p.sessionMax < tokNat b 52 4 then 4 else if sig then 0 else 5))) ∧
    (∀ b : List Byte,
      (b.length < 8 ∨ 64 < b.length → s.passwordResult b = 5) ∧
      (8 ≤ b.length → b.length ≤ 64 → s.sec.policy = none → s.passwordResult b = 1) ∧
      (∀ p, 8 ≤ b.length → b.length ≤ 64 → s.sec.policy = some p → s.passwordResult b =
        if bit p.flags 2 = false ∨ s.sec.debugDisabled = true then 1 else if 16 ≤ s.sec.failures then 3
        else if s.sec.waitUntil ≠ none then 2 else if Config.sha384 (leBytes 8 s.serialNo ++ b) = p.pwHash then 0 else 4)) ∧
    (∀ memory a n, s.sec.session = none → exec (.jtagDbgRead memory a n) s = .next (settle s)) ∧
    (∀ a n, s.sec.session ≠ none → exec (.jtagDbgRead false a n) s = exec (.faultedRead ⟨.jtag, true⟩ a) s) ∧
    (∀ a n, s.sec.session ≠ none → s.pow.up = true → ∃ (t : State) (bytes : List Byte),
      exec (.jtagDbgRead true a n) s = .next (settle (t.emit (.memData bytes))) ∧ bytes.length = n ∧ t.mem = s.mem ∧
      (∀ i, i < n → a + i < poolSize → bytes[i]? = some (if s.sealedSpan (a + i) 1 then 0 else s.byteAt (a + i))) ∧
      (a + n ≤ poolSize → (∀ i, i < n → s.sealedSpan (a + i) 1 = false) → t = s)) ∧
    (∀ memory a v bytes k, s.serviceOpen = false → exec (.jtagDbgWrite memory a v bytes k) s = .next (settle s)) ∧
    (∀ a v bytes k, s.serviceOpen = true → exec (.jtagDbgWrite false a v bytes k) s = exec (.registerWrite ⟨.jtag, true⟩ a v k) s) ∧
    (∀ a v bytes k, s.serviceOpen = true → s.pow.up = true → Takes (.jtagDbgWrite true a v bytes k) s fun t =>
      (∀ i b, bytes[i]? = some b → a + i < poolSize → s.guardedByte .pcie ((a + i) / 64 * 64) = false → t.byteAt (a + i) = b) ∧
      (∀ x, (x < a ∨ a + bytes.length ≤ x ∨ s.guardedByte .pcie (x / 64 * 64) = true) → t.byteAt x = s.byteAt x)) ∧
    (∀ n, s.serviceOpen = false → exec (.jtagDbgScan n) s = .next (settle s)) ∧
    (∀ n, s.serviceOpen = true → s.pow.up = true → ∃ bytes : List Byte, bytes.length = n ∧
      exec (.jtagDbgScan n) s = .next (settle ((s.emit (.memData bytes)).drawn))) ∧
    s.roleOf ⟨.pcie, true⟩ = some (if s.serviceOpen then .service else .operator)

/-! 21_power_reset_boot.md, 22_pins_electrical.md: slack, device states, resets, supplies, boot. -/

/-- R477, R478, R485, R486: a domain that the governor may not move (GOV_EN 0, DOMAIN_00, one in a slack state, leaving one or at work) stays;
another enters the deepest allowed state whose entry, exit and guard fit its known event, or stays in RUN; work ends the state, its residence is
counted, and an event with less notice than the exit records GOV_LATE. REQ_DIM in ACTIVE
yields the helm, stops channels and enters DIM when rasters and channels rest, domains in their DIM states; REQ_ACTIVE in DIM restores them; REQ_DORMANT
in ACTIVE or DIM removes power from all but DOMAIN_00 with the retention snapshot kept; a request that does not apply is ignored. -/
def Obligations.SlackAndDeviceStates : Prop :=
  ∀ (s : State),
    let st := s.rd PWR Reg.PWR_DEV_STATE
    let req (u : State) (n : Nat) := u.rd PWR Reg.PWR_DEV_STATE = n ∧ u.queue PWR = occPush (s.queue PWR) (occRecord 0x20 n s.frameNo) ∧
      u.rd PWR Reg.PWR_STATE_CHANGES = (s.rd PWR Reg.PWR_STATE_CHANGES + 1) % 2 ^ 32 ∧ u.mem = s.mem ∧ u.pnd = s.pnd ∧ u.role ≠ 1
    (∀ d t, s.pow.up = true →
      let n := s.advance t
      let x := n.slack d
      (n.rd PWR Reg.PWR_GOV_CFG_GOV_EN = 0 ∨ d = 0 ∨ 23 < d ∨ x.st ≠ 0 ∨ n.tm.sys < x.exitEnd ∨ n.domainBusy d = true →
        exec (.govSlackEntry d t) s = .next (settle n)) ∧
      (n.rd PWR Reg.PWR_GOV_CFG_GOV_EN ≠ 0 → 1 ≤ d → d ≤ 23 → x.st = 0 → x.exitEnd ≤ n.tm.sys → n.domainBusy d = false →
        Takes (.govSlackEntry d t) s fun u =>
          let y := u.slack d
          let fits (k : Nat) : Prop := ∀ e, n.nextKnown d = some e → slackEntry k + slackExit k + n.guardNs ≤ (e - n.tm.sys) / 65536
          y.st ≤ n.deepest d ∧ y.st ≤ 3 ∧ (y.st ≠ 0 → fits y.st ∧ y.since = n.tm.sys + ns (slackEntry y.st)) ∧
          (∀ k, y.st < k → k ≤ 3 → k ≤ n.deepest d → ¬ fits k) ∧ (∀ j, j ≠ d → u.slack j = s.slack j) ∧ u.cur = s.cur ∧ u.pnd = s.pnd)) ∧
    (∀ d t, s.pow.up = true →
      let n := s.advance t
      let x := n.slack d
      (x.st = 0 → exec (.govSlackExit d t) s = .next (settle n)) ∧
      (x.st ≠ 0 → Takes (.govSlackExit d t) s fun u => (u.slack d).st = 0 ∧ (u.slack d).leaving = x.st ∧
        (u.slack d).gate = x.gate + (if x.st = 1 then n.tm.sys - x.since else 0) ∧
        (u.slack d).nap = x.nap + (if x.st = 2 then n.tm.sys - x.since else 0) ∧
        (u.slack d).dark = x.dark + (if 3 ≤ x.st then n.tm.sys - x.since else 0) ∧
        (u.slack d).exitEnd = max n.tm.sys x.since + ns (slackExit x.st) ∧ (∀ j, j ≠ d → u.slack j = s.slack j) ∧
        (∀ e, n.nextKnown d = some e → e < n.tm.sys + ns (slackExit x.st) →
          u.queue PWR = occPush (s.queue PWR) (occRecord 0x21 d s.frameNo) ∧
          u.rd PWR Reg.PWR_GOV_LATE_COUNT = (s.rd PWR Reg.PWR_GOV_LATE_COUNT + 1) % 2 ^ 32) ∧
        ((∀ e, n.nextKnown d = some e → n.tm.sys + ns (slackExit x.st) ≤ e) → u.occ = s.occ ∧ u.cur = s.cur))) ∧
    (∀ a v, Ready s a PWR →
      let ctl (u : State) (d e f : Bool) : State :=
        let x := if d then u.reqDim else u
        let y := if e then x.reqActive else x
        if f then y.reqDormant else y
      ∃ u : State, ActionStored PWR 0x44 s u ∧ exec (.reqDim a v) s = .next (settle (ctl u true (v.getLsbD 1) (v.getLsbD 2))) ∧
        exec (.reqActive a v) s = .next (settle (ctl u (v.getLsbD 0) true (v.getLsbD 2))) ∧
        exec (.reqDormant a v) s = .next (settle (ctl u (v.getLsbD 0) (v.getLsbD 1) true))) ∧
    (∀ a v, Ready s a PWR → v.getLsbD 1 = false → v.getLsbD 2 = false →
      (st = 0 → ∃ u : State, exec (.reqDim a v) s = .next (settle (u.each (u.enc.channels.map (·.1)) State.encHalt)) ∧ req u 2) ∧
      (st ≠ 0 → ∃ u, ActionStored PWR 0x44 s u ∧ exec (.reqDim a v) s = .next (settle u))) ∧
    (∀ a v, Ready s a PWR → v.getLsbD 0 = false → v.getLsbD 2 = false →
      (st = 1 → Takes (.reqActive a v) s fun t => t.rd PWR Reg.PWR_DEV_STATE = 3 ∧
        t.queue PWR = occPush (s.queue PWR) (occRecord 0x20 3 s.frameNo) ∧ t.pow = s.pow) ∧
      (st = 2 → Takes (.reqActive a v) s fun t => t.pow = { s.pow with wantActive := true } ∧ t.rd PWR Reg.PWR_DEV_STATE = 2 ∧ t.occ = s.occ) ∧
      (st ≠ 1 → st ≠ 2 → ∃ u, ActionStored PWR 0x44 s u ∧ exec (.reqActive a v) s = .next (settle u))) ∧
    (∀ a v, Ready s a PWR → v.getLsbD 0 = false → v.getLsbD 1 = false →
      (st < 2 → ∃ u : State, exec (.reqDormant a v) s = .next (settle u) ∧ req u 4) ∧
      (2 ≤ st → ∃ u, ActionStored PWR 0x44 s u ∧ exec (.reqDormant a v) s = .next (settle u))) ∧
    (st ≠ 2 ∨ s.atRest = false → exec .dimEntryDone s = .next (settle s)) ∧
    (s.pow.up = true → st = 2 → s.atRest = true → Takes .dimEntryDone s fun t =>
      t.rd PWR Reg.PWR_DEV_STATE = (if s.pow.wantActive then 3 else 1) ∧ t.rd PWR Reg.PWR_DIM_ENTER_FRAME = s.frameNo % 2 ^ 32 ∧
      (t.pow.retention.map (·.frame)) = some s.frameNo ∧ t.mem = s.mem ∧ t.pnd = s.pnd ∧
      (∀ d, 3 ≤ d → d < 7 ∨ d = 14 ∨ d = 15 → d < 20 → (t.slack d).st = 2) ∧
      (∀ d, 7 ≤ d → d < 20 → d ≠ 14 → d ≠ 15 → (t.slack d).st = 3)) ∧
    (st ≠ 3 → exec .dimExitDone s = .next (settle s)) ∧
    (s.pow.up = true → st = 3 → ∃ u : State, u.rd PWR Reg.PWR_DEV_STATE = 0 ∧ u.rd PWR Reg.PWR_DIM_EXIT_FRAME = s.frameNo % 2 ^ 32 ∧
      u.queue PWR = occPush (s.queue PWR) (occRecord 0x20 0 s.frameNo) ∧ (∀ d, d < 24 → (u.slack d).st = 0 ∧ (u.slack d).exitEnd = 0) ∧
      let v := u.each ((List.range 32).filter fun r => u.enabled (SCAN r)) State.rasterStart
      let w := v.each ((List.range 64).filter fun i => v.enabled (ING i)) State.ringRestart
      exec .dimExitDone s = .next (settle (w.each ((w.dec.filter fun e => e.2.running).map (·.1)) State.decStart))) ∧
    (st ≠ 4 → exec .dormantEntryDone s = .next (settle s)) ∧
    (s.pow.up = true → st = 4 → Takes .dormantEntryDone s fun t => t.pow.dormant = true ∧ t.pow.up = false ∧ t.mem = [] ∧ t.leases = [] ∧
      (t.pow.retention.map (·.frame)) = some s.frameNo ∧ t.word PWR 0x64 = s.word PWR 0x64 ∧ t.word SYS 0x144 = s.word SYS 0x144 ∧
      (∀ e ∈ keptWords, t.word e.1 e.2 = s.word e.1 e.2) ∧ t.tm.sys = s.tm.sys)

/-- R27, R469, R486, R488, R489, R491, R492, R509, R510, R515, R522: RESET_N, the watchdog, the thermal trip and EXTEST, CLAMP or HIGHZ reset the device
at once, with their causes 2, 5, 6 and 7, and each reset but LINK resets both flashes. A JTAG instruction selects its register: IDCODE, the
boundary-scan chain, or one bit of 0, and what is shifted out is it and then what is shifted in. RESET_CTL takes effect 20 µs after its request; a cause that arrives in reset is neither reported nor counted. LINK_RESET clears
the MSI-X table and arming, ends the session and counts. A wake source that WAKE_CFG enables, and the return of VIN_MAIN, reset a sleeping device with
kind MAIN and its cause; a supply that leaves takes with it what it held; the first supply is a COLD reset. RESET_RELEASE selects the image, and
BOOT_COMPLETE shows what runs. -/
def Obligations.ResetsSuppliesAndBoot : Prop :=
  ∀ (s : State),
    let flashes (t : State) : Prop := Out.flashReset 0 10000 ∈ t.out ∧ Out.flashReset 1 10000 ∈ t.out
    (∀ c k, (c, k) ∈ [(Instr.resetNLow, 2), (.watchdogExpiry, 5), (.thermalTrip, 6)] →
      (s.pow.up = true → Takes c s fun t => ResetBy s t k [] ∧ flashes t ∧ t.tm.sys = s.tm.sys ∧ t.pow.trip = (s.pow.trip || k == 6)) ∧
      (s.pow.up = false → k < 6 → exec c s = .next (settle s))) ∧
    (s.pow.up = false → exec .thermalTrip s = .next (settle { s with pow := { s.pow with trip := true } })) ∧
    (∀ i tdi, s.pow.powered = false → exec (.jtagExtest i tdi) s = .next (settle s)) ∧
    (∀ (i : JtagInstruction) (tdi : List Bool), s.pow.powered = true → Takes (.jtagExtest i tdi) s fun t =>
      let resets := i = .extest ∨ i = .clamp ∨ i = .highz
      let chain := i = .extest ∨ i = .sample
      let reg := s.jtagCapture i
      Out.jtag ((reg ++ tdi).take tdi.length) ∈ t.out ∧ t.pow.jtag = i ∧ t.pending = s.pending ∧
      t.pow.boundary = (if chain then (reg ++ tdi).drop tdi.length else s.pow.boundary) ∧
      (i = .idcode → reg = (List.range 32).map (0x19640973).testBit) ∧
      (i = .bypass ∨ i = .clamp ∨ i = .highz → reg = [false]) ∧ (chain → reg.length = 87) ∧
      (resets → s.pow.up = true → ResetBy s t 7 [] ∧ flashes t ∧ t.tm.sys = s.tm.sys) ∧ (resets → t.pow.testZero = true) ∧
      (resets → s.pow.up = false → t.cur = s.cur ∧ t.mem = s.mem ∧ t.sec = s.sec) ∧
      (¬ resets → t.cur = s.cur ∧ t.pnd = s.pnd ∧ t.mem = s.mem ∧ t.sec = s.sec ∧ t.leases = s.leases ∧ t.occ = s.occ ∧
        t.pow = { s.pow with jtag := i, boundary := t.pow.boundary })) ∧
    exec .thermalTripRelease s = .next (settle { s with pow := { s.pow with trip := false } }) ∧
    (∀ a v, Ready s a SYS → ∃ u, ActionStored SYS 0x140 s u ∧
      (s.pow.due ≠ none → exec (.resetCtlDevice a v) s = .next (settle u)) ∧ (s.role = 1 → s.pow.due = none →
        Takes (.resetCtlDevice a v) s fun t => t.queue MATE = occPush (s.queue MATE) (occRecord 0x21 0 s.helmDetail)) ∧
      (s.pow.due = none → Takes (.resetCtlDevice a v) s fun t => t.pow = { s.pow with due := some (3, s.tm.sys + us 20) } ∧
        t.role ≠ 1 ∧ t.mem = s.mem ∧ (s.role ≠ 1 → t.occ = s.occ))) ∧
    (s.pow.due = none → exec .deviceResetEffect s = .next (settle s)) ∧
    (∀ k i, s.pow.due = some (k, i) → k = 3 ∨ k = 4 → s.pow.up = true → Takes .deviceResetEffect s fun t =>
      ResetBy s t k [] ∧ flashes t ∧ t.tm.sys = max s.tm.sys i) ∧
    (∀ k i, s.pow.due = some (k, i) → s.pow.up = false → Takes .deviceResetEffect s fun t => t.pow = s.pow ∧ t.cur = s.cur ∧ t.mem = s.mem) ∧
    (s.pow.up = false → exec .linkReset s = .next (settle s)) ∧
    (s.pow.up = true → s.serviceOpen = false ∨ s.cur.Pairwise (fun x y => x.1 < y.1) → ∃ u : State, exec .linkReset s = .next (settle u) ∧
      u.evt = { s.evt with disarmed := [], unmasked := [], msix := [] } ∧ u.sec = { s.sec with session := none } ∧
      u.rd SYS Reg.SYS_LINK_RESETS = (s.rd SYS Reg.SYS_LINK_RESETS + 1) % 2 ^ 32 ∧ u.mem = s.mem ∧ u.pnd = s.pnd ∧ u.leases = s.leases ∧
      (s.sec.session ≠ none → u.queue (SEC 3) = occPush (s.queue (SEC 3)) (occRecord 0x21 2 s.frameNo))) ∧
    (∀ c on k, (c, on, k) ∈ [(Instr.wakePin, s.rd PWR Reg.PWR_WAKE_CFG_WAKE_PIN, 1),
        (.smbusWake (0x58 + s.pow.strap % 4) true, s.rd PWR Reg.PWR_WAKE_CFG_SMBUS * b2n s.pow.powered, 2),
        (.wakeLaneSignal (s.rd PWR Reg.PWR_WAKE_CFG_WAKE_LANE), s.rd PWR Reg.PWR_WAKE_CFG_LANE_SIGNAL, 3)] →
      (s.pow.dormant = true → s.pow.main = true → on = 1 → Takes c s fun t => ResetBy s t 1 [(PWR, 0x68)] ∧ flashes t ∧
        t.rd PWR Reg.PWR_WAKE_CAUSE = k ∧ t.pow.dormant = false) ∧
      (s.pow.dormant = false ∨ s.pow.main = false ∨ on = 0 → exec c s = .next (settle s))) ∧
    (∀ n, n ≠ s.rd PWR Reg.PWR_WAKE_CFG_WAKE_LANE → exec (.wakeLaneSignal n) s = .next (settle s)) ∧
    (∀ n b, n ≠ 0x58 + s.pow.strap % 4 ∨ b = false → exec (.smbusWake n b) s = .next (settle s)) ∧
    (s.pow.main = false → exec .vinMainLoss s = .next (settle s)) ∧
    (s.pow.main = true → s.pow.aux = true → Takes .vinMainLoss s fun t => t.pow.main = false ∧ t.pow.aux = true ∧ t.pow.dormant = false ∧
      t.pow.powered = s.pow.powered ∧ t.pow.up = false ∧ t.mem = [] ∧ t.leases = [] ∧ t.pow.retention = s.pow.retention ∧
      t.word PWR 0x64 = s.word PWR 0x64 ∧ t.word SYS 0x144 = s.word SYS 0x144 ∧ ∀ e ∈ keptWords, t.word e.1 e.2 = s.word e.1 e.2) ∧
    (s.pow.main = true → s.pow.aux = false → Takes .vinMainLoss s AllLost) ∧
    (s.pow.powered = true → s.pow.main = false → Takes .vinMainReturn s fun t => ResetBy s t 1 [(PWR, 0x68)] ∧ flashes t ∧
      t.rd PWR Reg.PWR_WAKE_CAUSE = 4 ∧ t.pow.main = true) ∧
    (s.pow.powered = false ∨ s.pow.main = true → exec .vinMainReturn s = .next (settle s)) ∧
    (s.pow.main = true → exec .vinAuxLoss s = .next (settle { s with pow := { s.pow with aux := false } })) ∧
    (s.pow.main = false → s.pow.aux = true → Takes .vinAuxLoss s AllLost) ∧
    (s.pow.main = false → s.pow.aux = false → exec .vinAuxLoss s = .next (settle s)) ∧
    (∀ strap, s.pow.powered = true → exec (.powerOn true strap) s = .next (settle s) ∧
      exec (.powerOn false strap) s = .next (settle { s with pow := { s.pow with aux := true } })) ∧
    (∀ viaMain strap, s.pow.powered = false → Takes (.powerOn viaMain strap) s fun t => ResetBy s t 0 [] ∧ flashes t ∧ t.pow.powered = true ∧
      t.pow.strap = strap % 4 ∧ (if viaMain then t.pow.main else t.pow.aux) = true ∧ t.tm.sys = 0 ∧ t.tm.frame = 0 ∧ t.sec.ranges = []) ∧
    (s.pow.powered = true → s.pow.xo = false → exec .sysXoReady s = .next (settle { s with tm := {}, pow := { s.pow with xo := true } })) ∧
    (s.pow.powered = false ∨ s.pow.xo = true → exec .sysXoReady s = .next (settle s)) ∧
    (∀ passA passB home,
      let held := s.pow.up = true ∨ s.pow.powered = false ∨ s.pow.xo = false ∨ s.pow.main = false ∨ s.pow.trip = true ∨ s.pow.dormant = true
      let slot := s.bootSlot passA passB
      (held → exec (.resetRelease passA passB home) s = .next (settle s)) ∧
      (¬ held → Takes (.resetRelease passA passB home) s fun t => t.pow = { s.pow with up := true, due := none } ∧
        t.rd MATE Reg.MATE_HELM_STATE_HOME = b2n home ∧
        (∀ k fall, slot = some (k, fall) → t.rd MBX ⟨0xE4, 0, 0⟩ = k % 2 ∧ t.rd MBX Reg.MBX_BOOT_STATE_FALLBACK = b2n fall ∧
          (fall = true → t.queue MBX = occPush (s.queue MBX) (occRecord 0x21 k s.frameNo)) ∧ (fall = false → t.occ = s.occ)) ∧
        (slot = none → t.rd MBX Reg.MBX_BOOT_STATE_RECOVERY = 1 ∧ t.occ = s.occ)) ∧
      (s.newestRecord = none → slot = if passA then some (0, false) else if passB then some (1, false) else none) ∧
      (∀ r, s.newestRecord = some r → r.slot < 2 →
        let own := if r.slot = 0 then passA else passB
        let other := if r.slot = 0 then passB else passA
        let often := 3 ≤ (s.pow.watchdogs.filter fun t => s.tm.sys ≤ t + ms 60000).length
        (own = true → ¬ often → slot = some (r.slot, false)) ∧
        (own = false ∨ often → slot = if other then some (1 - r.slot, true) else none))) ∧
    (∀ version svn hash time, s.pow.up = false ∨ s.pow.booted = true ∨ s.rd MBX Reg.MBX_BOOT_STATE_RECOVERY = 1 →
      exec (.bootComplete version svn hash time) s = .next (settle s)) ∧
    (∀ version svn hash time, s.pow.up = true → s.pow.booted = false → s.rd MBX Reg.MBX_BOOT_STATE_RECOVERY = 0 →
      Takes (.bootComplete version svn hash time) s fun t => t.pow.booted = true ∧ t.pow.bootedAt = s.tm.sys ∧
        t.rd MBX Reg.MBX_FW_VERSION = version % 2 ^ 32 ∧ t.rd MBX Reg.MBX_FW_SVN = svn % 128 ∧ t.rd MBX Reg.MBX_BOOT_TIME_MS = time % 2 ^ 32 ∧
        t.mem = (if s.pow.testZero then [] else s.mem) ∧ t.pow.testZero = false ∧
        t.measure 1 = Config.sha384 (hashBytes 0 ++ Config.measured 1 [s.rd MBX ⟨0xE4, 0, 0⟩, svn, hash]) ∧
        t.pow.remaps = s.pow.remaps.filter (fun e => !e.2.2) ∧
        (∀ i, i < 32 → i ∉ s.pow.unlocked → t.rd CLK ⟨0x44, i, i⟩ = 1) ∧ t.pnd = s.pnd)

/-! 21_power_reset_boot.md: the mailbox, images, maintenance; 17_redundancy.md: self-test and scrub; pins and SMBus. -/

/-- R49, R487, R490, R491, R494-R499: START samples code and request words and runs, fails an unknown code, or meets a running command; ABORT ends a
running command ABORTED and is late otherwise, and START with ABORT ends a known command at once, without effect. A command row acts on the running command of its code alone, and COMMAND_DONE is the row of that
code. IMG_STAGE, IMG_WRITE, IMG_VERIFY and IMG_SWITCH follow one another with results 1 BAD_REQUEST, 2 NOT_STAGED, 3 SIGNATURE, 4 SVN_LOW,
5 WRONG_STEPPING, 6 NOT_VERIFIED, 7 VERIFY_MISMATCH, 8 FLASH_ERROR; only RECOVERY boots an image of the host pool; MCODE_RELOAD asks for spare capacity; HBM_REPAIR
remaps a bank once; RASTER_SELFTEST withdraws failing pipelines; RETENTION_READ copies the snapshot. -/
def Obligations.MailboxCommands : Prop :=
  ∀ (s : State), s.pow.up = true →
    let run := s.opState MBX mbxOp = 1
    let req := s.mbx.req
    let bad (k len : Nat) := poolSize < reqOffset req k + len
    let image (o : MbxOutcome) : Nat := if o.signed = false ∨ (s.policyFlag 4 = true ∧ o.cosigned = false) then 3
      else if o.version < s.rd (SEC 0) Reg.SEC0_SVN_MIN_SVN_MIN then 4 else if o.stepping = false then 5 else 0
    (∀ a v, Ready s a MBX → v.getLsbD 1 = false →
      let code := s.rd MBX ⟨0xC0, 15, 0⟩
      let known := code ∈ mbxCodes ∧ (s.rd MBX Reg.MBX_BOOT_STATE_RECOVERY = 0 ∨ code = 0x0114)
      (run → Takes (.mbxUnknownCommand a v) s fun t => t.queue MBX = occPush (s.queue MBX) (occRecord 0x02 0 s.frameNo) ∧ t.mbx = s.mbx) ∧
      (¬ run → Takes (.mbxUnknownCommand a v) s fun t =>
        t.mbx = { code := code, req := (List.range 16).map fun k => s.rd MBX (Reg.MBX_REQ k), by' := a.path } ∧
        t.rd MBX Reg.MBX_CMDS_TOTAL = (s.rd MBX Reg.MBX_CMDS_TOTAL + 1) % 2 ^ 32 ∧
        (known → t.opState MBX mbxOp = 1 ∧ t.occ = s.occ) ∧
        (¬ known → t.opState MBX mbxOp = 4 ∧ t.rd MBX Reg.MBX_CMD_RESULT_UNKNOWN = 1 ∧
          t.queue MBX = occPush (s.queue MBX) (occRecord 0x20 4 (2 ^ 32 * code + s.frameNo % 2 ^ 32))))) ∧
    (∀ a v, Ready s a MBX → v.getLsbD 1 = true → (∀ m n, a.path ≠ .token m n) →
      let code := s.rd MBX ⟨0xC0, 15, 0⟩
      let known := code ∈ mbxCodes ∧ (s.rd MBX Reg.MBX_BOOT_STATE_RECOVERY = 0 ∨ code = 0x0114)
      exec (.mbxCmdAbort a (v ||| 1)) s = exec (.mbxUnknownCommand a v) s ∧
      (run → ∃ u : State, u.mbx = s.mbx ∧ u.queue MBX = occPush (s.queue MBX) (occRecord 0x02 0 s.frameNo) ∧
        exec (.mbxUnknownCommand a v) s = .next (settle u.mbxAbort)) ∧
      (¬ run → known → Takes (.mbxUnknownCommand a v) s fun t => t.opState MBX mbxOp = 3 ∧ t.mem = s.mem ∧ t.pow = s.pow ∧ t.cmp = s.cmp ∧
        t.rd MBX Reg.MBX_CMDS_ABORTED = (s.rd MBX Reg.MBX_CMDS_ABORTED + 1) % 2 ^ 32 ∧
        t.queue MBX = occPush (s.queue MBX) (occRecord 0x20 3 (2 ^ 32 * code + s.frameNo % 2 ^ 32))) ∧
      (¬ run → ¬ known → Takes (.mbxUnknownCommand a v) s fun t => t.opState MBX mbxOp = 4 ∧
        t.queue MBX = occPush (occPush (s.queue MBX) (occRecord 0x20 4 (2 ^ 32 * code + s.frameNo % 2 ^ 32))) (occRecord 0x01 0 s.frameNo))) ∧
    (∀ v m n, run → s.pow.up = true → Ready s ⟨.token m n, true⟩ MBX → v.getLsbD 0 = false → Takes (.mbxCmdAbort ⟨.token m n, true⟩ v) s fun t =>
      t.queue MBX = occPush (s.queue MBX) (occRecord 0x01 0 s.frameNo) ∧ t.mbx = s.mbx ∧ t.opState MBX mbxOp = 1) ∧
    (∀ a v, Ready s a MBX → v.getLsbD 0 = false →
      (¬ run → Takes (.mbxCmdAbort a v) s fun t => t.queue MBX = occPush (s.queue MBX) (occRecord 0x01 0 s.frameNo) ∧ t.mbx = s.mbx) ∧
      (run → (∀ m n, a.path ≠ .token m n) → ∃ u : State, u.mbx = s.mbx ∧ u.pnd = s.pnd ∧ u.mem = s.mem ∧
        exec (.mbxCmdAbort a v) s = .next (settle ((u.mbxEnd 3 false).inc MBX Reg.MBX_CMDS_ABORTED)) ∧
        (s.mbx.code ∉ [0x0111, 0x0120, 0x0140] → ActionStored MBX 0xC4 s u) ∧
        (s.mbx.code = 0x0111 → s.pow.staged ≠ none → u.rd MBX Reg.MBX_IMG_STATE_WRITTEN = 0 ∧ u.rd MBX Reg.MBX_IMG_STATE_VERIFIED = 0) ∧
        (s.mbx.code = 0x0120 → ∀ e, e ∈ s.enc.withdrawn → e ∈ u.enc.withdrawn) ∧
        (s.mbx.code = 0x0120 → ∀ e, e ∈ u.enc.withdrawn → e ∈ s.enc.withdrawn ∨
          (e ∈ chipletEngines (req.getD 0 0 % 4) ∧ ∀ i ∈ chipletEngines (req.getD 0 0 % 4), s.engineBusy i = false)) ∧
        (∀ r n, s.mbx.code = 0x0140 → selftestOf req = some (r, n) → (u.ras r).selfTest = 0 ∧ (u.ras r).selfNext = false))) ∧
    (∀ o, ¬ run → exec (.mbxCommandDone o) s = .next (settle s)) ∧
    (∀ o code c, (code, c) ∈ [(0x0101, Instr.deviceReset), (0x0110, .imgStage o), (0x0111, .imgWrite o), (0x0112, .imgVerify o),
        (0x0113, .imgSwitch o), (0x0114, .recoveryBoot o), (0x0120, .mcodeReload o), (0x0130, .hbmRepair o), (0x0140, .rasterSelftest o),
        (0x0150, .retentionRead), (0x0201, .encAdmit), (0x0202, .ladderAdmit), (0x0203, .encRelease), (0x0204, .encQuery),
        (0x0301, .decAdmit), (0x0302, .decRelease), (0x0502, .deviceId), (0x0503, .attest), (0x0504, .measExtend)] →
      (s.mbxRunning code = true → ∃ u : State, exec (.mbxCommandDone o) s = .next (settle u) ∧ exec c s = .next (settle u)) ∧
      (s.mbxRunning code = false → exec c s = .next (settle s))) ∧
    (∀ o n c, (n, c) ∈ [(1, Instr.tokenRootProvision o), (2, .tokenPolicySet o), (3, .tokenCertInstall o), (4, .tokenSeal o),
        (5, .tokenUnseal o), (6, .tokenRegWrite o), (7, .tokenSvnAdvance o), (8, .tokenDebugPermaClose o), (9, .tokenPwReset o)] →
      s.mbxRunning 0x0501 = true → tokNat (s.token req) 3 1 = n →
      ∃ u : State, exec (.mbxCommandDone o) s = .next (settle u) ∧ exec c s = .next (settle u)) ∧
    (s.mbxRunning 0x0101 = true →
      (s.pow.due ≠ none → exec .deviceReset s = .next (settle (s.mbxReply [0]))) ∧
      (s.pow.due = none → ∃ u : State, exec .deviceReset s = .next (settle (u.mbxReply [0])) ∧
        u.pow = { s.pow with due := some (4, s.tm.sys + us 20) } ∧ u.role ≠ 1 ∧ u.mem = s.mem)) ∧
    (∀ o, s.mbxRunning 0x0110 = true →
      let len := req.getD 2 0
      let k := if len = 0 ∨ bad 0 len then 1 else image o
      (k ≠ 0 → exec (.imgStage o) s = .next (settle (s.mbxReply [k]))) ∧
      (k = 0 → ∃ u : State, exec (.imgStage o) s = .next (settle (u.mbxReply [0, o.version, s.targetSlot])) ∧
        u.pow = { s.pow with staged := some (o.version, o.hash, len) } ∧ u.rd MBX Reg.MBX_IMG_STATE_STAGED = 1 ∧
        u.rd MBX Reg.MBX_IMG_STATE_WRITTEN = 0 ∧ u.rd MBX Reg.MBX_IMG_STATE_VERIFIED = 0 ∧ u.mem = s.mem)) ∧
    (∀ o, s.mbxRunning 0x0111 = true →
      let fails := s.pow.railsOff.contains 1 = true ∨ o.flash = false
      (s.pow.staged = none → exec (.imgWrite o) s = .next (settle (s.mbxReply [2]))) ∧
      (∀ v h len, s.pow.staged = some (v, h, len) → ∃ u : State,
        exec (.imgWrite o) s = .next (settle (u.mbxReply [if u.rd MBX Reg.MBX_IMG_STATE_WRITTEN = 1 then 0 else 8])) ∧
        (u.rd MBX Reg.MBX_IMG_STATE_WRITTEN = 0 ↔ fails) ∧ u.rd MBX Reg.MBX_IMG_STATE_VERIFIED = 0 ∧ u.pow = s.pow)) ∧
    (∀ o, s.mbxRunning 0x0112 = true →
      let fails := s.pow.railsOff.contains 1 = true ∨ o.flash = false
      (s.pow.staged = none → exec (.imgVerify o) s = .next (settle (s.mbxReply [2]))) ∧
      (∀ v h len, s.pow.staged = some (v, h, len) →
        (fails → exec (.imgVerify o) s = .next (settle (s.mbxReply [8]))) ∧
        (¬ fails → ∃ u : State, exec (.imgVerify o) s =
            .next (settle (u.mbxReply ((if o.hash = h then 0 else 7) :: hashWords o.hash))) ∧ u.pow = s.pow ∧
          u.rd MBX Reg.MBX_IMG_STATE_VERIFIED = if o.hash = h then s.rd MBX Reg.MBX_IMG_STATE_WRITTEN else 0))) ∧
    (∀ o, s.mbxRunning 0x0113 = true →
      let fails := s.pow.railsOff.contains 1 = true ∨ o.flash = false
      (s.pow.staged = none ∨ s.rd MBX Reg.MBX_IMG_STATE_VERIFIED = 0 → exec (.imgSwitch o) s = .next (settle (s.mbxReply [6]))) ∧
      (∀ v h len, s.pow.staged = some (v, h, len) → s.rd MBX Reg.MBX_IMG_STATE_VERIFIED ≠ 0 →
        (fails → exec (.imgSwitch o) s = .next (settle (s.mbxReply [8]))) ∧
        (¬ fails → ∃ (u : State) (seq : Nat), exec (.imgSwitch o) s = .next (settle (u.mbxReply [0, seq])) ∧
          seq = ((s.newestRecord.map (·.seq)).getD 0 + 1) % 2 ^ 32 ∧ u.rd MBX Reg.MBX_SWITCH_SEQ = seq ∧
          tfind u.pow.records s.olderCopy = some { slot := s.targetSlot, seq := seq, svn := v, hash := h } ∧
          (∀ k, k ≠ s.olderCopy → tfind u.pow.records k = tfind s.pow.records k) ∧ u.mem = s.mem))) ∧
    (∀ o, s.mbxRunning 0x0114 = true →
      let len := req.getD 2 0
      let k := if s.rd MBX Reg.MBX_BOOT_STATE_RECOVERY = 0 then 0xB else if len = 0 ∨ bad 0 len then 1 else image o
      (k ≠ 0 → exec (.recoveryBoot o) s = .next (settle (s.mbxReply [k]))) ∧
      (k = 0 → ∃ u : State, exec (.recoveryBoot o) s = .next (settle (u.mbxReply [0])) ∧ u.rd MBX Reg.MBX_BOOT_STATE_RECOVERY = 0 ∧
        u.pow.booted = true ∧ u.rd MBX Reg.MBX_FW_VERSION = o.version % 2 ^ 32 ∧ u.mem = (if s.pow.testZero then [] else s.mem))) ∧
    (∀ o, s.mbxRunning 0x0120 = true →
      let us := chipletEngines (req.getD 0 0 % 4)
      let k := if req.getD 3 0 = 0 ∨ bad 1 (req.getD 3 0) then 1 else if o.signed = false then 3 else if o.stepping = false then 5
        else if 69000 < s.demandSum (·.d) ∨ 11000 < s.demandSum (·.e) then 9 else 0
      ((∃ e ∈ us, s.engineBusy e = true) → exec (.mcodeReload o) s = .next (settle s)) ∧
      ((∀ e ∈ us, s.engineBusy e = false) →
        (k ≠ 0 → exec (.mcodeReload o) s = .next (settle (s.mbxReply [k]))) ∧
        (k = 0 → ∃ (u : State) (n : Nat), exec (.mcodeReload o) s = .next (settle (u.mbxReply [0, o.version % 2 ^ 32, n])) ∧
          u.measure 2 = Config.sha384 (hashBytes (s.measure 2) ++ Config.measured 2 [o.version, o.hash]) ∧
          (∀ j, j < 24 → n.testBit j = decide (j ∈ o.failed)) ∧
          n.testBit 24 = (s.dec.any fun e => e.2.grant.isSome && e.2.pipes.any fun p => p / 2 = req.getD 0 0 % 4) ∧
          u.rd MBX Reg.MBX_CMD_OP_STATUS_PROGRESS = 28 ∧ u.rd MBX ⟨0xF4, req.getD 0 0 % 4, req.getD 0 0 % 4⟩ = 1 ∧
          ∀ e, e ∈ u.enc.withdrawn ↔ (e ∈ s.enc.withdrawn ∧ e ∉ us) ∨ (e ∈ us ∧ (if e < 128 then e % 24 else 24 + e % 4) ∈ o.failed)))) ∧
    (∀ o, s.mbxRunning 0x0130 = true →
      let bank := req.getD 0 0 % 4096
      let row := req.getD 1 0
      (∀ r h, tfind s.pow.remaps bank = some (r, h) → r ≠ row → exec (.hbmRepair o) s = .next (settle (s.mbxReply [0xA]))) ∧
      (∀ h, tfind s.pow.remaps bank = some (row, h) → bit (req.getD 0 0) 12 = false ∨ h = true →
        exec (.hbmRepair o) s = .next (settle (s.mbxReply [0, s.pow.remaps.length]))) ∧
      (tfind s.pow.remaps bank = some (row, false) → bit (req.getD 0 0) 12 = true → ∃ u : State,
        exec (.hbmRepair o) s = .next (settle (u.mbxReply [0, u.pow.remaps.length])) ∧ tfind u.pow.remaps bank = some (row, true)) ∧
      (tfind s.pow.remaps bank = none → o.spare = false ∨ 64 ≤ s.pow.remaps.length ∨ (∃ e ∈ s.pow.hard, e.1 = bank) →
        exec (.hbmRepair o) s = .next (settle (s.mbxReply [0xA]))) ∧
      (tfind s.pow.remaps bank = none → o.spare = true → s.pow.remaps.length < 64 → (∀ e ∈ s.pow.hard, e.1 ≠ bank) →
        ∃ u : State, exec (.hbmRepair o) s = .next (settle (u.mbxReply [0, s.pow.remaps.length + 1])) ∧
          tfind u.pow.remaps bank = some (row, bit (req.getD 0 0) 12) ∧ u.mem = s.mem ∧
          ∀ k, k ≠ bank → tfind u.pow.remaps k = tfind s.pow.remaps k)) ∧
    (∀ o, s.mbxRunning 0x0140 = true →
      (selftestOf req = none → exec (.rasterSelftest o) s = .next (settle (s.mbxReply [1]))) ∧
      (∀ r n, selftestOf req = some (r, n) →
        let k := s.rd (COMP r) Reg.CRASTER_COMP_STATE_CHIPLET
        ((s.ras r).scan ≠ none → (s.ras r).selfTest ≠ 0 → exec (.rasterSelftest o) s = .next (settle s)) ∧
        ((s.ras r).scan = none ∨ (s.ras r).selfTest = 0 → ∃ u : State,
          exec (.rasterSelftest o) s = .next (settle (u.mbxReply [0, (if 0 ∈ o.failed then 1 else 0) + (if 1 ∈ o.failed then 2 else 0)])) ∧
          u = { s with pow := { s.pow with compOut := u.pow.compOut } } ∧
          ∀ p, p ∈ u.pow.compOut ↔ p ∈ s.pow.compOut ∨ (p = 2 * k ∧ 0 ∈ o.failed) ∨ (p = 2 * k + 1 ∧ 1 ∈ o.failed)))) ∧
    (s.mbxRunning 0x0150 = true →
      (bad 0 39328 → exec .retentionRead s = .next (settle (s.mbxReply [1]))) ∧
      (¬ bad 0 39328 → s.pow.retention = none → exec .retentionRead s = .next (settle (s.mbxReply [0, 0]))) ∧
      (∀ x, ¬ bad 0 39328 → s.pow.retention = some x → ∃ bytes : List Byte, bytes.take x.header.length = x.header ∧
        exec .retentionRead s = .next (settle ((s.writeChecked .firmware (reqOffset req 0) bytes).mbxReply [0, 39328]))))

/-- R416, R482, R483, R511, R514: a PLL that loses lock is shown, counted and, in a compute island, recorded with its work lost; PEAK_CLEAR and
LOCK_EVENTS_CLEAR set their registers to 0. A corrected HBM error and an uncorrectable one are counted; a golden vector run counts and a failing
pixel or entropy engine without a job is withdrawn, as is a failing composition pipeline. A short output rail is off, and stays so only while the
short persists. SMBus takes a transfer to its own address with a right PEC: a register write as any other access, the offset of the next read,
and that read, which returns all ones in reset. -/
def Obligations.ClocksHealthRailsAndSmbus : Prop :=
  ∀ (s : State),
    (∀ i, s.pow.up = true → 41 ≤ i ∨ i ∈ s.pow.unlocked → exec (.islandPllLoss i) s = .next (settle s)) ∧
    (∀ i, s.pow.up = true → i < 41 → i ∉ s.pow.unlocked → ∃ u : State,
      exec (.islandPllLoss i) s = .next (settle (if i < 29 then u.islandWork i else u)) ∧ (∀ j, j ∈ u.pow.unlocked ↔ j = i ∨ j ∈ s.pow.unlocked) ∧
      u.rd CLK ⟨if i < 32 then 0x44 else 0x48, i % 32, i % 32⟩ = 0 ∧
      u.rd CLK Reg.CLK_LOCK_EVENTS = (s.rd CLK Reg.CLK_LOCK_EVENTS + 1) % 2 ^ 32 ∧
      (if i < 29 then u.queue CLK = occPush (s.queue CLK) (occRecord 0x20 i s.frameNo) else u.occ = s.occ) ∧ u.pnd = s.pnd ∧ u.mem = s.mem) ∧
    (∀ a v, Ready s a PWR → Takes (.pwrPeakClear a v) s fun t => t.rd PWR Reg.PWR_PEAK_MW = 0 ∧ t.occ = s.occ ∧ t.pnd = s.pnd ∧
      ∀ (q : Page) (o : Nat), q.inBar0 → o < 0x1000 → (q, o) ∉ [(PWR, 0xB0), (PWR, 0xBC)] → t.word q o = s.word q o) ∧
    (∀ a v, Ready s a CLK → Takes (.lockEventsClear a v) s fun t => t.rd CLK Reg.CLK_LOCK_EVENTS = 0 ∧ t.occ = s.occ ∧ t.pnd = s.pnd ∧
      ∀ (q : Page) (o : Nat), q.inBar0 → o < 0x1000 → (q, o) ∉ [(CLK, 0x4C), (CLK, 0xBC)] → t.word q o = s.word q o) ∧
    (s.pow.up = true → Takes .hbmScrubCorrect s fun t => s.tm.frame ∈ t.mate.health.corrected ∧
      (∀ f, f ∈ t.mate.health.corrected → s.tm.frame < f + 1024) ∧
      (∀ f, f ∈ s.mate.health.corrected → s.tm.frame < f + 1024 → f ∈ t.mate.health.corrected) ∧ t.mem = s.mem ∧ t.cur = s.cur ∧ t.occ = s.occ) ∧
    (s.pow.up = true → Takes .hbmScrubUncorrectable s fun t =>
      t.mate.health = { s.mate.health with uncorrectable := s.mate.health.uncorrectable + 1, lastUncorrectable := some s.tm.frame } ∧
      t.mem = s.mem ∧ t.cur = s.cur ∧ t.occ = s.occ) ∧
    (∀ u pass, s.pow.up = true → ∃ w : State, exec (.selftestVectorDone u pass) s = .next (settle w.encSettle) ∧
      w.mate.health.passed = s.mate.health.passed + b2n pass ∧ w.mate.health.failed = s.mate.health.failed + b2n (!pass) ∧ w.pnd = s.pnd ∧
      w.mem = s.mem ∧
      (pass = true → w.enc.withdrawn = s.enc.withdrawn ∧ w.occ = s.occ ∧ w.pow = s.pow) ∧
      (pass = false → u < 96 ∨ (128 ≤ u ∧ u < 144) → s.engineBusy u = false → u ∉ s.enc.withdrawn →
        u ∈ w.enc.withdrawn ∧ w.queue TSK = occPush (s.queue TSK) (occRecord 0x21 u s.frameNo)) ∧
      (∀ e, e ∈ w.enc.lent ↔ e ≠ u ∧ e ∈ s.enc.lent) ∧
      (pass = false → u < 96 ∨ (128 ≤ u ∧ u < 144) → s.engineBusy u = true ∨ u ∈ s.enc.withdrawn →
        w.enc.withdrawn = s.enc.withdrawn ∧ w.occ = s.occ) ∧
      (pass = false → 0xE0 ≤ u → u < 0xE8 → ∀ p, p ∈ w.mate.health.pipes ↔ p = u - 0xE0 ∨ p ∈ s.mate.health.pipes) ∧
      (pass = false → 0xC0 ≤ u → u < 0xC8 → ∀ p, p ∈ w.pow.compOut ↔ p = u - 0xC0 ∨ p ∈ s.pow.compOut)) ∧
    (∀ k, k < 2 → Takes (.voutShort k) s fun t => t.cur = s.cur ∧ t.occ = s.occ ∧
      ∀ j, j ∈ t.pow.railsOff ↔ j = k ∨ j ∈ s.pow.railsOff) ∧
    (∀ k, 2 ≤ k → exec (.voutShort k) s = .next (settle s)) ∧
    (∀ k, exec (.voutRetry k true) s = .next (settle s)) ∧
    (∀ k, Takes (.voutRetry k false) s fun t => t.cur = s.cur ∧ t.occ = s.occ ∧ ∀ j, j ∈ t.pow.railsOff ↔ j ≠ k ∧ j ∈ s.pow.railsOff) ∧
    (∀ n b off v k, s.pow.powered = true → n = 0x58 + s.pow.strap % 4 → b = true →
      (∃ u : State, exec (.smbusRegisterWrite n b off v k) s = .next (settle u) ∧ exec (.registerWrite ⟨.smbus, true⟩ off v k) s = .next (settle u)) ∧
      exec (.smbusReadOffset n b off) s = .next (settle { s with pow := { s.pow with smbusOffset := off % 2 ^ 26 } }) ∧
      (s.pow.up = true → ∃ u : State, exec (.smbusReadData n) s = .next (settle u) ∧
        exec (.faultedRead ⟨.smbus, true⟩ s.pow.smbusOffset) s = .next (settle u)) ∧
      (s.pow.up = false → exec (.smbusReadData n) s = .next (settle (s.emit (.readData 0xFFFFFFFF))))) ∧
    (∀ n b off v k, s.pow.powered = false ∨ n ≠ 0x58 + s.pow.strap % 4 ∨ b = false →
      exec (.smbusRegisterWrite n b off v k) s = .next (settle s) ∧ exec (.smbusReadOffset n b off) s = .next (settle s)) ∧
    (∀ n, s.pow.powered = false ∨ n ≠ 0x58 + s.pow.strap % 4 → exec (.smbusReadData n) s = .next (settle s))
end

