-- ==== Sys2Proof/Laws/State.lean ====
section
/-!
SUPPORT. What each shared update leaves of the state: one law per field and update.
-/

namespace Sys2Proof.Machine

/-! `State.setWord` changes `cur` alone. -/

@[simp] theorem State.setWord_pending (s : State) (p : Page) (off : Nat) (w : Word) : (s.setWord p off w).pending = s.pending := rfl
@[simp] theorem State.setWord_pnd (s : State) (p : Page) (off : Nat) (w : Word) : (s.setWord p off w).pnd = s.pnd := rfl
@[simp] theorem State.setWord_lat (s : State) (p : Page) (off : Nat) (w : Word) : (s.setWord p off w).lat = s.lat := rfl
@[simp] theorem State.setWord_dirty (s : State) (p : Page) (off : Nat) (w : Word) : (s.setWord p off w).dirty = s.dirty := rfl
@[simp] theorem State.setWord_occ (s : State) (p : Page) (off : Nat) (w : Word) : (s.setWord p off w).occ = s.occ := rfl
@[simp] theorem State.setWord_evt (s : State) (p : Page) (off : Nat) (w : Word) : (s.setWord p off w).evt = s.evt := rfl
@[simp] theorem State.setWord_tm (s : State) (p : Page) (off : Nat) (w : Word) : (s.setWord p off w).tm = s.tm := rfl
@[simp] theorem State.setWord_cm (s : State) (p : Page) (off : Nat) (w : Word) : (s.setWord p off w).cm = s.cm := rfl
@[simp] theorem State.setWord_sec (s : State) (p : Page) (off : Nat) (w : Word) : (s.setWord p off w).sec = s.sec := rfl
@[simp] theorem State.setWord_out (s : State) (p : Page) (off : Nat) (w : Word) : (s.setWord p off w).out = s.out := rfl
@[simp] theorem State.setWord_mem (s : State) (p : Page) (off : Nat) (w : Word) : (s.setWord p off w).mem = s.mem := rfl
@[simp] theorem State.setWord_freeCount (s : State) (p : Page) (off : Nat) (w : Word) : (s.setWord p off w).freeCount = s.freeCount := rfl
@[simp] theorem State.setWord_leases (s : State) (p : Page) (off : Nat) (w : Word) : (s.setWord p off w).leases = s.leases := rfl
@[simp] theorem State.setWord_ing (s : State) (p : Page) (off : Nat) (w : Word) : (s.setWord p off w).ing = s.ing := rfl
@[simp] theorem State.setWord_areas (s : State) (p : Page) (off : Nat) (w : Word) : (s.setWord p off w).areas = s.areas := rfl
@[simp] theorem State.setWord_net (s : State) (p : Page) (off : Nat) (w : Word) : (s.setWord p off w).net = s.net := rfl
@[simp] theorem State.setWord_sch (s : State) (p : Page) (off : Nat) (w : Word) : (s.setWord p off w).sch = s.sch := rfl
@[simp] theorem State.setWord_shadow (s : State) (p : Page) (off : Nat) (w : Word) : (s.setWord p off w).shadow = s.shadow := rfl
@[simp] theorem State.setWord_mate (s : State) (p : Page) (off : Nat) (w : Word) : (s.setWord p off w).mate = s.mate := rfl
@[simp] theorem State.setWord_ref (s : State) (p : Page) (off : Nat) (w : Word) : (s.setWord p off w).ref = s.ref := rfl
@[simp] theorem State.setWord_cmp (s : State) (p : Page) (off : Nat) (w : Word) : (s.setWord p off w).cmp = s.cmp := rfl
@[simp] theorem State.setWord_dec (s : State) (p : Page) (off : Nat) (w : Word) : (s.setWord p off w).dec = s.dec := rfl
@[simp] theorem State.setWord_scn (s : State) (p : Page) (off : Nat) (w : Word) : (s.setWord p off w).scn = s.scn := rfl
@[simp] theorem State.setWord_serial (s : State) (p : Page) (off : Nat) (w : Word) : (s.setWord p off w).serial = s.serial := rfl
@[simp] theorem State.setWord_enc (s : State) (p : Page) (off : Nat) (w : Word) : (s.setWord p off w).enc = s.enc := rfl
@[simp] theorem State.setWord_mbx (s : State) (p : Page) (off : Nat) (w : Word) : (s.setWord p off w).mbx = s.mbx := rfl
@[simp] theorem State.setWord_fab (s : State) (p : Page) (off : Nat) (w : Word) : (s.setWord p off w).fab = s.fab := rfl
@[simp] theorem State.setWord_aud (s : State) (p : Page) (off : Nat) (w : Word) : (s.setWord p off w).aud = s.aud := rfl
@[simp] theorem State.setWord_cvu (s : State) (p : Page) (off : Nat) (w : Word) : (s.setWord p off w).cvu = s.cvu := rfl
@[simp] theorem State.setWord_pow (s : State) (p : Page) (off : Nat) (w : Word) : (s.setWord p off w).pow = s.pow := rfl

/-! `State.setWordP` changes `pnd` alone. -/

@[simp] theorem State.setWordP_pending (s : State) (p : Page) (off : Nat) (w : Word) : (s.setWordP p off w).pending = s.pending := rfl
@[simp] theorem State.setWordP_cur (s : State) (p : Page) (off : Nat) (w : Word) : (s.setWordP p off w).cur = s.cur := rfl
@[simp] theorem State.setWordP_lat (s : State) (p : Page) (off : Nat) (w : Word) : (s.setWordP p off w).lat = s.lat := rfl
@[simp] theorem State.setWordP_dirty (s : State) (p : Page) (off : Nat) (w : Word) : (s.setWordP p off w).dirty = s.dirty := rfl
@[simp] theorem State.setWordP_occ (s : State) (p : Page) (off : Nat) (w : Word) : (s.setWordP p off w).occ = s.occ := rfl
@[simp] theorem State.setWordP_evt (s : State) (p : Page) (off : Nat) (w : Word) : (s.setWordP p off w).evt = s.evt := rfl
@[simp] theorem State.setWordP_tm (s : State) (p : Page) (off : Nat) (w : Word) : (s.setWordP p off w).tm = s.tm := rfl
@[simp] theorem State.setWordP_cm (s : State) (p : Page) (off : Nat) (w : Word) : (s.setWordP p off w).cm = s.cm := rfl
@[simp] theorem State.setWordP_sec (s : State) (p : Page) (off : Nat) (w : Word) : (s.setWordP p off w).sec = s.sec := rfl
@[simp] theorem State.setWordP_out (s : State) (p : Page) (off : Nat) (w : Word) : (s.setWordP p off w).out = s.out := rfl
@[simp] theorem State.setWordP_mem (s : State) (p : Page) (off : Nat) (w : Word) : (s.setWordP p off w).mem = s.mem := rfl
@[simp] theorem State.setWordP_freeCount (s : State) (p : Page) (off : Nat) (w : Word) : (s.setWordP p off w).freeCount = s.freeCount := rfl
@[simp] theorem State.setWordP_leases (s : State) (p : Page) (off : Nat) (w : Word) : (s.setWordP p off w).leases = s.leases := rfl
@[simp] theorem State.setWordP_ing (s : State) (p : Page) (off : Nat) (w : Word) : (s.setWordP p off w).ing = s.ing := rfl
@[simp] theorem State.setWordP_areas (s : State) (p : Page) (off : Nat) (w : Word) : (s.setWordP p off w).areas = s.areas := rfl
@[simp] theorem State.setWordP_net (s : State) (p : Page) (off : Nat) (w : Word) : (s.setWordP p off w).net = s.net := rfl
@[simp] theorem State.setWordP_sch (s : State) (p : Page) (off : Nat) (w : Word) : (s.setWordP p off w).sch = s.sch := rfl
@[simp] theorem State.setWordP_shadow (s : State) (p : Page) (off : Nat) (w : Word) : (s.setWordP p off w).shadow = s.shadow := rfl
@[simp] theorem State.setWordP_mate (s : State) (p : Page) (off : Nat) (w : Word) : (s.setWordP p off w).mate = s.mate := rfl
@[simp] theorem State.setWordP_ref (s : State) (p : Page) (off : Nat) (w : Word) : (s.setWordP p off w).ref = s.ref := rfl
@[simp] theorem State.setWordP_cmp (s : State) (p : Page) (off : Nat) (w : Word) : (s.setWordP p off w).cmp = s.cmp := rfl
@[simp] theorem State.setWordP_dec (s : State) (p : Page) (off : Nat) (w : Word) : (s.setWordP p off w).dec = s.dec := rfl
@[simp] theorem State.setWordP_scn (s : State) (p : Page) (off : Nat) (w : Word) : (s.setWordP p off w).scn = s.scn := rfl
@[simp] theorem State.setWordP_serial (s : State) (p : Page) (off : Nat) (w : Word) : (s.setWordP p off w).serial = s.serial := rfl
@[simp] theorem State.setWordP_enc (s : State) (p : Page) (off : Nat) (w : Word) : (s.setWordP p off w).enc = s.enc := rfl
@[simp] theorem State.setWordP_mbx (s : State) (p : Page) (off : Nat) (w : Word) : (s.setWordP p off w).mbx = s.mbx := rfl
@[simp] theorem State.setWordP_fab (s : State) (p : Page) (off : Nat) (w : Word) : (s.setWordP p off w).fab = s.fab := rfl
@[simp] theorem State.setWordP_aud (s : State) (p : Page) (off : Nat) (w : Word) : (s.setWordP p off w).aud = s.aud := rfl
@[simp] theorem State.setWordP_cvu (s : State) (p : Page) (off : Nat) (w : Word) : (s.setWordP p off w).cvu = s.cvu := rfl
@[simp] theorem State.setWordP_pow (s : State) (p : Page) (off : Nat) (w : Word) : (s.setWordP p off w).pow = s.pow := rfl

/-! `State.wr` changes `cur` alone. -/

@[simp] theorem State.wr_pending (s : State) (p : Page) (f : Field) (v : Nat) : (s.wr p f v).pending = s.pending := rfl
@[simp] theorem State.wr_pnd (s : State) (p : Page) (f : Field) (v : Nat) : (s.wr p f v).pnd = s.pnd := rfl
@[simp] theorem State.wr_lat (s : State) (p : Page) (f : Field) (v : Nat) : (s.wr p f v).lat = s.lat := rfl
@[simp] theorem State.wr_dirty (s : State) (p : Page) (f : Field) (v : Nat) : (s.wr p f v).dirty = s.dirty := rfl
@[simp] theorem State.wr_occ (s : State) (p : Page) (f : Field) (v : Nat) : (s.wr p f v).occ = s.occ := rfl
@[simp] theorem State.wr_evt (s : State) (p : Page) (f : Field) (v : Nat) : (s.wr p f v).evt = s.evt := rfl
@[simp] theorem State.wr_tm (s : State) (p : Page) (f : Field) (v : Nat) : (s.wr p f v).tm = s.tm := rfl
@[simp] theorem State.wr_cm (s : State) (p : Page) (f : Field) (v : Nat) : (s.wr p f v).cm = s.cm := rfl
@[simp] theorem State.wr_sec (s : State) (p : Page) (f : Field) (v : Nat) : (s.wr p f v).sec = s.sec := rfl
@[simp] theorem State.wr_out (s : State) (p : Page) (f : Field) (v : Nat) : (s.wr p f v).out = s.out := rfl
@[simp] theorem State.wr_mem (s : State) (p : Page) (f : Field) (v : Nat) : (s.wr p f v).mem = s.mem := rfl
@[simp] theorem State.wr_freeCount (s : State) (p : Page) (f : Field) (v : Nat) : (s.wr p f v).freeCount = s.freeCount := rfl
@[simp] theorem State.wr_leases (s : State) (p : Page) (f : Field) (v : Nat) : (s.wr p f v).leases = s.leases := rfl
@[simp] theorem State.wr_ing (s : State) (p : Page) (f : Field) (v : Nat) : (s.wr p f v).ing = s.ing := rfl
@[simp] theorem State.wr_areas (s : State) (p : Page) (f : Field) (v : Nat) : (s.wr p f v).areas = s.areas := rfl
@[simp] theorem State.wr_net (s : State) (p : Page) (f : Field) (v : Nat) : (s.wr p f v).net = s.net := rfl
@[simp] theorem State.wr_sch (s : State) (p : Page) (f : Field) (v : Nat) : (s.wr p f v).sch = s.sch := rfl
@[simp] theorem State.wr_shadow (s : State) (p : Page) (f : Field) (v : Nat) : (s.wr p f v).shadow = s.shadow := rfl
@[simp] theorem State.wr_mate (s : State) (p : Page) (f : Field) (v : Nat) : (s.wr p f v).mate = s.mate := rfl
@[simp] theorem State.wr_ref (s : State) (p : Page) (f : Field) (v : Nat) : (s.wr p f v).ref = s.ref := rfl
@[simp] theorem State.wr_cmp (s : State) (p : Page) (f : Field) (v : Nat) : (s.wr p f v).cmp = s.cmp := rfl
@[simp] theorem State.wr_dec (s : State) (p : Page) (f : Field) (v : Nat) : (s.wr p f v).dec = s.dec := rfl
@[simp] theorem State.wr_scn (s : State) (p : Page) (f : Field) (v : Nat) : (s.wr p f v).scn = s.scn := rfl
@[simp] theorem State.wr_serial (s : State) (p : Page) (f : Field) (v : Nat) : (s.wr p f v).serial = s.serial := rfl
@[simp] theorem State.wr_enc (s : State) (p : Page) (f : Field) (v : Nat) : (s.wr p f v).enc = s.enc := rfl
@[simp] theorem State.wr_mbx (s : State) (p : Page) (f : Field) (v : Nat) : (s.wr p f v).mbx = s.mbx := rfl
@[simp] theorem State.wr_fab (s : State) (p : Page) (f : Field) (v : Nat) : (s.wr p f v).fab = s.fab := rfl
@[simp] theorem State.wr_aud (s : State) (p : Page) (f : Field) (v : Nat) : (s.wr p f v).aud = s.aud := rfl
@[simp] theorem State.wr_cvu (s : State) (p : Page) (f : Field) (v : Nat) : (s.wr p f v).cvu = s.cvu := rfl
@[simp] theorem State.wr_pow (s : State) (p : Page) (f : Field) (v : Nat) : (s.wr p f v).pow = s.pow := rfl

/-! `State.addTo` changes `cur` alone. -/

@[simp] theorem State.addTo_pending (s : State) (p : Page) (f : Field) (n : Nat) : (s.addTo p f n).pending = s.pending := rfl
@[simp] theorem State.addTo_pnd (s : State) (p : Page) (f : Field) (n : Nat) : (s.addTo p f n).pnd = s.pnd := rfl
@[simp] theorem State.addTo_lat (s : State) (p : Page) (f : Field) (n : Nat) : (s.addTo p f n).lat = s.lat := rfl
@[simp] theorem State.addTo_dirty (s : State) (p : Page) (f : Field) (n : Nat) : (s.addTo p f n).dirty = s.dirty := rfl
@[simp] theorem State.addTo_occ (s : State) (p : Page) (f : Field) (n : Nat) : (s.addTo p f n).occ = s.occ := rfl
@[simp] theorem State.addTo_evt (s : State) (p : Page) (f : Field) (n : Nat) : (s.addTo p f n).evt = s.evt := rfl
@[simp] theorem State.addTo_tm (s : State) (p : Page) (f : Field) (n : Nat) : (s.addTo p f n).tm = s.tm := rfl
@[simp] theorem State.addTo_cm (s : State) (p : Page) (f : Field) (n : Nat) : (s.addTo p f n).cm = s.cm := rfl
@[simp] theorem State.addTo_sec (s : State) (p : Page) (f : Field) (n : Nat) : (s.addTo p f n).sec = s.sec := rfl
@[simp] theorem State.addTo_out (s : State) (p : Page) (f : Field) (n : Nat) : (s.addTo p f n).out = s.out := rfl
@[simp] theorem State.addTo_mem (s : State) (p : Page) (f : Field) (n : Nat) : (s.addTo p f n).mem = s.mem := rfl
@[simp] theorem State.addTo_freeCount (s : State) (p : Page) (f : Field) (n : Nat) : (s.addTo p f n).freeCount = s.freeCount := rfl
@[simp] theorem State.addTo_leases (s : State) (p : Page) (f : Field) (n : Nat) : (s.addTo p f n).leases = s.leases := rfl
@[simp] theorem State.addTo_ing (s : State) (p : Page) (f : Field) (n : Nat) : (s.addTo p f n).ing = s.ing := rfl
@[simp] theorem State.addTo_areas (s : State) (p : Page) (f : Field) (n : Nat) : (s.addTo p f n).areas = s.areas := rfl
@[simp] theorem State.addTo_net (s : State) (p : Page) (f : Field) (n : Nat) : (s.addTo p f n).net = s.net := rfl
@[simp] theorem State.addTo_sch (s : State) (p : Page) (f : Field) (n : Nat) : (s.addTo p f n).sch = s.sch := rfl
@[simp] theorem State.addTo_shadow (s : State) (p : Page) (f : Field) (n : Nat) : (s.addTo p f n).shadow = s.shadow := rfl
@[simp] theorem State.addTo_mate (s : State) (p : Page) (f : Field) (n : Nat) : (s.addTo p f n).mate = s.mate := rfl
@[simp] theorem State.addTo_ref (s : State) (p : Page) (f : Field) (n : Nat) : (s.addTo p f n).ref = s.ref := rfl
@[simp] theorem State.addTo_cmp (s : State) (p : Page) (f : Field) (n : Nat) : (s.addTo p f n).cmp = s.cmp := rfl
@[simp] theorem State.addTo_dec (s : State) (p : Page) (f : Field) (n : Nat) : (s.addTo p f n).dec = s.dec := rfl
@[simp] theorem State.addTo_scn (s : State) (p : Page) (f : Field) (n : Nat) : (s.addTo p f n).scn = s.scn := rfl
@[simp] theorem State.addTo_serial (s : State) (p : Page) (f : Field) (n : Nat) : (s.addTo p f n).serial = s.serial := rfl
@[simp] theorem State.addTo_enc (s : State) (p : Page) (f : Field) (n : Nat) : (s.addTo p f n).enc = s.enc := rfl
@[simp] theorem State.addTo_mbx (s : State) (p : Page) (f : Field) (n : Nat) : (s.addTo p f n).mbx = s.mbx := rfl
@[simp] theorem State.addTo_fab (s : State) (p : Page) (f : Field) (n : Nat) : (s.addTo p f n).fab = s.fab := rfl
@[simp] theorem State.addTo_aud (s : State) (p : Page) (f : Field) (n : Nat) : (s.addTo p f n).aud = s.aud := rfl
@[simp] theorem State.addTo_cvu (s : State) (p : Page) (f : Field) (n : Nat) : (s.addTo p f n).cvu = s.cvu := rfl
@[simp] theorem State.addTo_pow (s : State) (p : Page) (f : Field) (n : Nat) : (s.addTo p f n).pow = s.pow := rfl

/-! `State.inc` changes `cur` alone. -/

@[simp] theorem State.inc_pending (s : State) (p : Page) (f : Field) : (s.inc p f).pending = s.pending := rfl
@[simp] theorem State.inc_pnd (s : State) (p : Page) (f : Field) : (s.inc p f).pnd = s.pnd := rfl
@[simp] theorem State.inc_lat (s : State) (p : Page) (f : Field) : (s.inc p f).lat = s.lat := rfl
@[simp] theorem State.inc_dirty (s : State) (p : Page) (f : Field) : (s.inc p f).dirty = s.dirty := rfl
@[simp] theorem State.inc_occ (s : State) (p : Page) (f : Field) : (s.inc p f).occ = s.occ := rfl
@[simp] theorem State.inc_evt (s : State) (p : Page) (f : Field) : (s.inc p f).evt = s.evt := rfl
@[simp] theorem State.inc_tm (s : State) (p : Page) (f : Field) : (s.inc p f).tm = s.tm := rfl
@[simp] theorem State.inc_cm (s : State) (p : Page) (f : Field) : (s.inc p f).cm = s.cm := rfl
@[simp] theorem State.inc_sec (s : State) (p : Page) (f : Field) : (s.inc p f).sec = s.sec := rfl
@[simp] theorem State.inc_out (s : State) (p : Page) (f : Field) : (s.inc p f).out = s.out := rfl
@[simp] theorem State.inc_mem (s : State) (p : Page) (f : Field) : (s.inc p f).mem = s.mem := rfl
@[simp] theorem State.inc_freeCount (s : State) (p : Page) (f : Field) : (s.inc p f).freeCount = s.freeCount := rfl
@[simp] theorem State.inc_leases (s : State) (p : Page) (f : Field) : (s.inc p f).leases = s.leases := rfl
@[simp] theorem State.inc_ing (s : State) (p : Page) (f : Field) : (s.inc p f).ing = s.ing := rfl
@[simp] theorem State.inc_areas (s : State) (p : Page) (f : Field) : (s.inc p f).areas = s.areas := rfl
@[simp] theorem State.inc_net (s : State) (p : Page) (f : Field) : (s.inc p f).net = s.net := rfl
@[simp] theorem State.inc_sch (s : State) (p : Page) (f : Field) : (s.inc p f).sch = s.sch := rfl
@[simp] theorem State.inc_shadow (s : State) (p : Page) (f : Field) : (s.inc p f).shadow = s.shadow := rfl
@[simp] theorem State.inc_mate (s : State) (p : Page) (f : Field) : (s.inc p f).mate = s.mate := rfl
@[simp] theorem State.inc_ref (s : State) (p : Page) (f : Field) : (s.inc p f).ref = s.ref := rfl
@[simp] theorem State.inc_cmp (s : State) (p : Page) (f : Field) : (s.inc p f).cmp = s.cmp := rfl
@[simp] theorem State.inc_dec (s : State) (p : Page) (f : Field) : (s.inc p f).dec = s.dec := rfl
@[simp] theorem State.inc_scn (s : State) (p : Page) (f : Field) : (s.inc p f).scn = s.scn := rfl
@[simp] theorem State.inc_serial (s : State) (p : Page) (f : Field) : (s.inc p f).serial = s.serial := rfl
@[simp] theorem State.inc_enc (s : State) (p : Page) (f : Field) : (s.inc p f).enc = s.enc := rfl
@[simp] theorem State.inc_mbx (s : State) (p : Page) (f : Field) : (s.inc p f).mbx = s.mbx := rfl
@[simp] theorem State.inc_fab (s : State) (p : Page) (f : Field) : (s.inc p f).fab = s.fab := rfl
@[simp] theorem State.inc_aud (s : State) (p : Page) (f : Field) : (s.inc p f).aud = s.aud := rfl
@[simp] theorem State.inc_cvu (s : State) (p : Page) (f : Field) : (s.inc p f).cvu = s.cvu := rfl
@[simp] theorem State.inc_pow (s : State) (p : Page) (f : Field) : (s.inc p f).pow = s.pow := rfl

/-! `State.setOp` changes `cur` alone. -/

@[simp] theorem State.setOp_pending (s : State) (p : Page) (off st n : Nat) : (s.setOp p off st n).pending = s.pending := rfl
@[simp] theorem State.setOp_pnd (s : State) (p : Page) (off st n : Nat) : (s.setOp p off st n).pnd = s.pnd := rfl
@[simp] theorem State.setOp_lat (s : State) (p : Page) (off st n : Nat) : (s.setOp p off st n).lat = s.lat := rfl
@[simp] theorem State.setOp_dirty (s : State) (p : Page) (off st n : Nat) : (s.setOp p off st n).dirty = s.dirty := rfl
@[simp] theorem State.setOp_occ (s : State) (p : Page) (off st n : Nat) : (s.setOp p off st n).occ = s.occ := rfl
@[simp] theorem State.setOp_evt (s : State) (p : Page) (off st n : Nat) : (s.setOp p off st n).evt = s.evt := rfl
@[simp] theorem State.setOp_tm (s : State) (p : Page) (off st n : Nat) : (s.setOp p off st n).tm = s.tm := rfl
@[simp] theorem State.setOp_cm (s : State) (p : Page) (off st n : Nat) : (s.setOp p off st n).cm = s.cm := rfl
@[simp] theorem State.setOp_sec (s : State) (p : Page) (off st n : Nat) : (s.setOp p off st n).sec = s.sec := rfl
@[simp] theorem State.setOp_out (s : State) (p : Page) (off st n : Nat) : (s.setOp p off st n).out = s.out := rfl
@[simp] theorem State.setOp_mem (s : State) (p : Page) (off st n : Nat) : (s.setOp p off st n).mem = s.mem := rfl
@[simp] theorem State.setOp_freeCount (s : State) (p : Page) (off st n : Nat) : (s.setOp p off st n).freeCount = s.freeCount := rfl
@[simp] theorem State.setOp_leases (s : State) (p : Page) (off st n : Nat) : (s.setOp p off st n).leases = s.leases := rfl
@[simp] theorem State.setOp_ing (s : State) (p : Page) (off st n : Nat) : (s.setOp p off st n).ing = s.ing := rfl
@[simp] theorem State.setOp_areas (s : State) (p : Page) (off st n : Nat) : (s.setOp p off st n).areas = s.areas := rfl
@[simp] theorem State.setOp_net (s : State) (p : Page) (off st n : Nat) : (s.setOp p off st n).net = s.net := rfl
@[simp] theorem State.setOp_sch (s : State) (p : Page) (off st n : Nat) : (s.setOp p off st n).sch = s.sch := rfl
@[simp] theorem State.setOp_shadow (s : State) (p : Page) (off st n : Nat) : (s.setOp p off st n).shadow = s.shadow := rfl
@[simp] theorem State.setOp_mate (s : State) (p : Page) (off st n : Nat) : (s.setOp p off st n).mate = s.mate := rfl
@[simp] theorem State.setOp_ref (s : State) (p : Page) (off st n : Nat) : (s.setOp p off st n).ref = s.ref := rfl
@[simp] theorem State.setOp_cmp (s : State) (p : Page) (off st n : Nat) : (s.setOp p off st n).cmp = s.cmp := rfl
@[simp] theorem State.setOp_dec (s : State) (p : Page) (off st n : Nat) : (s.setOp p off st n).dec = s.dec := rfl
@[simp] theorem State.setOp_scn (s : State) (p : Page) (off st n : Nat) : (s.setOp p off st n).scn = s.scn := rfl
@[simp] theorem State.setOp_serial (s : State) (p : Page) (off st n : Nat) : (s.setOp p off st n).serial = s.serial := rfl
@[simp] theorem State.setOp_enc (s : State) (p : Page) (off st n : Nat) : (s.setOp p off st n).enc = s.enc := rfl
@[simp] theorem State.setOp_mbx (s : State) (p : Page) (off st n : Nat) : (s.setOp p off st n).mbx = s.mbx := rfl
@[simp] theorem State.setOp_fab (s : State) (p : Page) (off st n : Nat) : (s.setOp p off st n).fab = s.fab := rfl
@[simp] theorem State.setOp_aud (s : State) (p : Page) (off st n : Nat) : (s.setOp p off st n).aud = s.aud := rfl
@[simp] theorem State.setOp_cvu (s : State) (p : Page) (off st n : Nat) : (s.setOp p off st n).cvu = s.cvu := rfl
@[simp] theorem State.setOp_pow (s : State) (p : Page) (off st n : Nat) : (s.setOp p off st n).pow = s.pow := rfl

/-! `State.emit` changes `out` alone. -/

@[simp] theorem State.emit_pending (s : State) (o : Out) : (s.emit o).pending = s.pending := rfl
@[simp] theorem State.emit_cur (s : State) (o : Out) : (s.emit o).cur = s.cur := rfl
@[simp] theorem State.emit_pnd (s : State) (o : Out) : (s.emit o).pnd = s.pnd := rfl
@[simp] theorem State.emit_lat (s : State) (o : Out) : (s.emit o).lat = s.lat := rfl
@[simp] theorem State.emit_dirty (s : State) (o : Out) : (s.emit o).dirty = s.dirty := rfl
@[simp] theorem State.emit_occ (s : State) (o : Out) : (s.emit o).occ = s.occ := rfl
@[simp] theorem State.emit_evt (s : State) (o : Out) : (s.emit o).evt = s.evt := rfl
@[simp] theorem State.emit_tm (s : State) (o : Out) : (s.emit o).tm = s.tm := rfl
@[simp] theorem State.emit_cm (s : State) (o : Out) : (s.emit o).cm = s.cm := rfl
@[simp] theorem State.emit_sec (s : State) (o : Out) : (s.emit o).sec = s.sec := rfl
@[simp] theorem State.emit_mem (s : State) (o : Out) : (s.emit o).mem = s.mem := rfl
@[simp] theorem State.emit_freeCount (s : State) (o : Out) : (s.emit o).freeCount = s.freeCount := rfl
@[simp] theorem State.emit_leases (s : State) (o : Out) : (s.emit o).leases = s.leases := rfl
@[simp] theorem State.emit_ing (s : State) (o : Out) : (s.emit o).ing = s.ing := rfl
@[simp] theorem State.emit_areas (s : State) (o : Out) : (s.emit o).areas = s.areas := rfl
@[simp] theorem State.emit_net (s : State) (o : Out) : (s.emit o).net = s.net := rfl
@[simp] theorem State.emit_sch (s : State) (o : Out) : (s.emit o).sch = s.sch := rfl
@[simp] theorem State.emit_shadow (s : State) (o : Out) : (s.emit o).shadow = s.shadow := rfl
@[simp] theorem State.emit_mate (s : State) (o : Out) : (s.emit o).mate = s.mate := rfl
@[simp] theorem State.emit_ref (s : State) (o : Out) : (s.emit o).ref = s.ref := rfl
@[simp] theorem State.emit_cmp (s : State) (o : Out) : (s.emit o).cmp = s.cmp := rfl
@[simp] theorem State.emit_dec (s : State) (o : Out) : (s.emit o).dec = s.dec := rfl
@[simp] theorem State.emit_scn (s : State) (o : Out) : (s.emit o).scn = s.scn := rfl
@[simp] theorem State.emit_serial (s : State) (o : Out) : (s.emit o).serial = s.serial := rfl
@[simp] theorem State.emit_enc (s : State) (o : Out) : (s.emit o).enc = s.enc := rfl
@[simp] theorem State.emit_mbx (s : State) (o : Out) : (s.emit o).mbx = s.mbx := rfl
@[simp] theorem State.emit_fab (s : State) (o : Out) : (s.emit o).fab = s.fab := rfl
@[simp] theorem State.emit_aud (s : State) (o : Out) : (s.emit o).aud = s.aud := rfl
@[simp] theorem State.emit_cvu (s : State) (o : Out) : (s.emit o).cvu = s.cvu := rfl
@[simp] theorem State.emit_pow (s : State) (o : Out) : (s.emit o).pow = s.pow := rfl

/-! `State.emits` changes `out` alone. -/

@[simp] theorem State.emits_pending (s : State) (os : List Out) : (s.emits os).pending = s.pending := rfl
@[simp] theorem State.emits_cur (s : State) (os : List Out) : (s.emits os).cur = s.cur := rfl
@[simp] theorem State.emits_pnd (s : State) (os : List Out) : (s.emits os).pnd = s.pnd := rfl
@[simp] theorem State.emits_lat (s : State) (os : List Out) : (s.emits os).lat = s.lat := rfl
@[simp] theorem State.emits_dirty (s : State) (os : List Out) : (s.emits os).dirty = s.dirty := rfl
@[simp] theorem State.emits_occ (s : State) (os : List Out) : (s.emits os).occ = s.occ := rfl
@[simp] theorem State.emits_evt (s : State) (os : List Out) : (s.emits os).evt = s.evt := rfl
@[simp] theorem State.emits_tm (s : State) (os : List Out) : (s.emits os).tm = s.tm := rfl
@[simp] theorem State.emits_cm (s : State) (os : List Out) : (s.emits os).cm = s.cm := rfl
@[simp] theorem State.emits_sec (s : State) (os : List Out) : (s.emits os).sec = s.sec := rfl
@[simp] theorem State.emits_mem (s : State) (os : List Out) : (s.emits os).mem = s.mem := rfl
@[simp] theorem State.emits_freeCount (s : State) (os : List Out) : (s.emits os).freeCount = s.freeCount := rfl
@[simp] theorem State.emits_leases (s : State) (os : List Out) : (s.emits os).leases = s.leases := rfl
@[simp] theorem State.emits_ing (s : State) (os : List Out) : (s.emits os).ing = s.ing := rfl
@[simp] theorem State.emits_areas (s : State) (os : List Out) : (s.emits os).areas = s.areas := rfl
@[simp] theorem State.emits_net (s : State) (os : List Out) : (s.emits os).net = s.net := rfl
@[simp] theorem State.emits_sch (s : State) (os : List Out) : (s.emits os).sch = s.sch := rfl
@[simp] theorem State.emits_shadow (s : State) (os : List Out) : (s.emits os).shadow = s.shadow := rfl
@[simp] theorem State.emits_mate (s : State) (os : List Out) : (s.emits os).mate = s.mate := rfl
@[simp] theorem State.emits_ref (s : State) (os : List Out) : (s.emits os).ref = s.ref := rfl
@[simp] theorem State.emits_cmp (s : State) (os : List Out) : (s.emits os).cmp = s.cmp := rfl
@[simp] theorem State.emits_dec (s : State) (os : List Out) : (s.emits os).dec = s.dec := rfl
@[simp] theorem State.emits_scn (s : State) (os : List Out) : (s.emits os).scn = s.scn := rfl
@[simp] theorem State.emits_serial (s : State) (os : List Out) : (s.emits os).serial = s.serial := rfl
@[simp] theorem State.emits_enc (s : State) (os : List Out) : (s.emits os).enc = s.enc := rfl
@[simp] theorem State.emits_mbx (s : State) (os : List Out) : (s.emits os).mbx = s.mbx := rfl
@[simp] theorem State.emits_fab (s : State) (os : List Out) : (s.emits os).fab = s.fab := rfl
@[simp] theorem State.emits_aud (s : State) (os : List Out) : (s.emits os).aud = s.aud := rfl
@[simp] theorem State.emits_cvu (s : State) (os : List Out) : (s.emits os).cvu = s.cvu := rfl
@[simp] theorem State.emits_pow (s : State) (os : List Out) : (s.emits os).pow = s.pow := rfl

/-! `State.drawn` changes `freeCount` alone. -/

@[simp] theorem State.drawn_pending (s : State) : (s.drawn).pending = s.pending := rfl
@[simp] theorem State.drawn_cur (s : State) : (s.drawn).cur = s.cur := rfl
@[simp] theorem State.drawn_pnd (s : State) : (s.drawn).pnd = s.pnd := rfl
@[simp] theorem State.drawn_lat (s : State) : (s.drawn).lat = s.lat := rfl
@[simp] theorem State.drawn_dirty (s : State) : (s.drawn).dirty = s.dirty := rfl
@[simp] theorem State.drawn_occ (s : State) : (s.drawn).occ = s.occ := rfl
@[simp] theorem State.drawn_evt (s : State) : (s.drawn).evt = s.evt := rfl
@[simp] theorem State.drawn_tm (s : State) : (s.drawn).tm = s.tm := rfl
@[simp] theorem State.drawn_cm (s : State) : (s.drawn).cm = s.cm := rfl
@[simp] theorem State.drawn_sec (s : State) : (s.drawn).sec = s.sec := rfl
@[simp] theorem State.drawn_out (s : State) : (s.drawn).out = s.out := rfl
@[simp] theorem State.drawn_mem (s : State) : (s.drawn).mem = s.mem := rfl
@[simp] theorem State.drawn_leases (s : State) : (s.drawn).leases = s.leases := rfl
@[simp] theorem State.drawn_ing (s : State) : (s.drawn).ing = s.ing := rfl
@[simp] theorem State.drawn_areas (s : State) : (s.drawn).areas = s.areas := rfl
@[simp] theorem State.drawn_net (s : State) : (s.drawn).net = s.net := rfl
@[simp] theorem State.drawn_sch (s : State) : (s.drawn).sch = s.sch := rfl
@[simp] theorem State.drawn_shadow (s : State) : (s.drawn).shadow = s.shadow := rfl
@[simp] theorem State.drawn_mate (s : State) : (s.drawn).mate = s.mate := rfl
@[simp] theorem State.drawn_ref (s : State) : (s.drawn).ref = s.ref := rfl
@[simp] theorem State.drawn_cmp (s : State) : (s.drawn).cmp = s.cmp := rfl
@[simp] theorem State.drawn_dec (s : State) : (s.drawn).dec = s.dec := rfl
@[simp] theorem State.drawn_scn (s : State) : (s.drawn).scn = s.scn := rfl
@[simp] theorem State.drawn_serial (s : State) : (s.drawn).serial = s.serial := rfl
@[simp] theorem State.drawn_enc (s : State) : (s.drawn).enc = s.enc := rfl
@[simp] theorem State.drawn_mbx (s : State) : (s.drawn).mbx = s.mbx := rfl
@[simp] theorem State.drawn_fab (s : State) : (s.drawn).fab = s.fab := rfl
@[simp] theorem State.drawn_aud (s : State) : (s.drawn).aud = s.aud := rfl
@[simp] theorem State.drawn_cvu (s : State) : (s.drawn).cvu = s.cvu := rfl
@[simp] theorem State.drawn_pow (s : State) : (s.drawn).pow = s.pow := rfl

/-! `State.setQueue` changes `occ` alone. -/

@[simp] theorem State.setQueue_pending (s : State) (p : Page) (q : OccQueue) : (s.setQueue p q).pending = s.pending := rfl
@[simp] theorem State.setQueue_cur (s : State) (p : Page) (q : OccQueue) : (s.setQueue p q).cur = s.cur := rfl
@[simp] theorem State.setQueue_pnd (s : State) (p : Page) (q : OccQueue) : (s.setQueue p q).pnd = s.pnd := rfl
@[simp] theorem State.setQueue_lat (s : State) (p : Page) (q : OccQueue) : (s.setQueue p q).lat = s.lat := rfl
@[simp] theorem State.setQueue_dirty (s : State) (p : Page) (q : OccQueue) : (s.setQueue p q).dirty = s.dirty := rfl
@[simp] theorem State.setQueue_evt (s : State) (p : Page) (q : OccQueue) : (s.setQueue p q).evt = s.evt := rfl
@[simp] theorem State.setQueue_tm (s : State) (p : Page) (q : OccQueue) : (s.setQueue p q).tm = s.tm := rfl
@[simp] theorem State.setQueue_cm (s : State) (p : Page) (q : OccQueue) : (s.setQueue p q).cm = s.cm := rfl
@[simp] theorem State.setQueue_sec (s : State) (p : Page) (q : OccQueue) : (s.setQueue p q).sec = s.sec := rfl
@[simp] theorem State.setQueue_out (s : State) (p : Page) (q : OccQueue) : (s.setQueue p q).out = s.out := rfl
@[simp] theorem State.setQueue_mem (s : State) (p : Page) (q : OccQueue) : (s.setQueue p q).mem = s.mem := rfl
@[simp] theorem State.setQueue_freeCount (s : State) (p : Page) (q : OccQueue) : (s.setQueue p q).freeCount = s.freeCount := rfl
@[simp] theorem State.setQueue_leases (s : State) (p : Page) (q : OccQueue) : (s.setQueue p q).leases = s.leases := rfl
@[simp] theorem State.setQueue_ing (s : State) (p : Page) (q : OccQueue) : (s.setQueue p q).ing = s.ing := rfl
@[simp] theorem State.setQueue_areas (s : State) (p : Page) (q : OccQueue) : (s.setQueue p q).areas = s.areas := rfl
@[simp] theorem State.setQueue_net (s : State) (p : Page) (q : OccQueue) : (s.setQueue p q).net = s.net := rfl
@[simp] theorem State.setQueue_sch (s : State) (p : Page) (q : OccQueue) : (s.setQueue p q).sch = s.sch := rfl
@[simp] theorem State.setQueue_shadow (s : State) (p : Page) (q : OccQueue) : (s.setQueue p q).shadow = s.shadow := rfl
@[simp] theorem State.setQueue_mate (s : State) (p : Page) (q : OccQueue) : (s.setQueue p q).mate = s.mate := rfl
@[simp] theorem State.setQueue_ref (s : State) (p : Page) (q : OccQueue) : (s.setQueue p q).ref = s.ref := rfl
@[simp] theorem State.setQueue_cmp (s : State) (p : Page) (q : OccQueue) : (s.setQueue p q).cmp = s.cmp := rfl
@[simp] theorem State.setQueue_dec (s : State) (p : Page) (q : OccQueue) : (s.setQueue p q).dec = s.dec := rfl
@[simp] theorem State.setQueue_scn (s : State) (p : Page) (q : OccQueue) : (s.setQueue p q).scn = s.scn := rfl
@[simp] theorem State.setQueue_serial (s : State) (p : Page) (q : OccQueue) : (s.setQueue p q).serial = s.serial := rfl
@[simp] theorem State.setQueue_enc (s : State) (p : Page) (q : OccQueue) : (s.setQueue p q).enc = s.enc := rfl
@[simp] theorem State.setQueue_mbx (s : State) (p : Page) (q : OccQueue) : (s.setQueue p q).mbx = s.mbx := rfl
@[simp] theorem State.setQueue_fab (s : State) (p : Page) (q : OccQueue) : (s.setQueue p q).fab = s.fab := rfl
@[simp] theorem State.setQueue_aud (s : State) (p : Page) (q : OccQueue) : (s.setQueue p q).aud = s.aud := rfl
@[simp] theorem State.setQueue_cvu (s : State) (p : Page) (q : OccQueue) : (s.setQueue p q).cvu = s.cvu := rfl
@[simp] theorem State.setQueue_pow (s : State) (p : Page) (q : OccQueue) : (s.setQueue p q).pow = s.pow := rfl

/-! `State.occur` changes `occ` alone. -/

@[simp] theorem State.occur_pending (s : State) (p : Page) (c u d : Nat) : (s.occur p c u d).pending = s.pending := rfl
@[simp] theorem State.occur_cur (s : State) (p : Page) (c u d : Nat) : (s.occur p c u d).cur = s.cur := rfl
@[simp] theorem State.occur_pnd (s : State) (p : Page) (c u d : Nat) : (s.occur p c u d).pnd = s.pnd := rfl
@[simp] theorem State.occur_lat (s : State) (p : Page) (c u d : Nat) : (s.occur p c u d).lat = s.lat := rfl
@[simp] theorem State.occur_dirty (s : State) (p : Page) (c u d : Nat) : (s.occur p c u d).dirty = s.dirty := rfl
@[simp] theorem State.occur_evt (s : State) (p : Page) (c u d : Nat) : (s.occur p c u d).evt = s.evt := rfl
@[simp] theorem State.occur_tm (s : State) (p : Page) (c u d : Nat) : (s.occur p c u d).tm = s.tm := rfl
@[simp] theorem State.occur_cm (s : State) (p : Page) (c u d : Nat) : (s.occur p c u d).cm = s.cm := rfl
@[simp] theorem State.occur_sec (s : State) (p : Page) (c u d : Nat) : (s.occur p c u d).sec = s.sec := rfl
@[simp] theorem State.occur_out (s : State) (p : Page) (c u d : Nat) : (s.occur p c u d).out = s.out := rfl
@[simp] theorem State.occur_mem (s : State) (p : Page) (c u d : Nat) : (s.occur p c u d).mem = s.mem := rfl
@[simp] theorem State.occur_freeCount (s : State) (p : Page) (c u d : Nat) : (s.occur p c u d).freeCount = s.freeCount := rfl
@[simp] theorem State.occur_leases (s : State) (p : Page) (c u d : Nat) : (s.occur p c u d).leases = s.leases := rfl
@[simp] theorem State.occur_ing (s : State) (p : Page) (c u d : Nat) : (s.occur p c u d).ing = s.ing := rfl
@[simp] theorem State.occur_areas (s : State) (p : Page) (c u d : Nat) : (s.occur p c u d).areas = s.areas := rfl
@[simp] theorem State.occur_net (s : State) (p : Page) (c u d : Nat) : (s.occur p c u d).net = s.net := rfl
@[simp] theorem State.occur_sch (s : State) (p : Page) (c u d : Nat) : (s.occur p c u d).sch = s.sch := rfl
@[simp] theorem State.occur_shadow (s : State) (p : Page) (c u d : Nat) : (s.occur p c u d).shadow = s.shadow := rfl
@[simp] theorem State.occur_mate (s : State) (p : Page) (c u d : Nat) : (s.occur p c u d).mate = s.mate := rfl
@[simp] theorem State.occur_ref (s : State) (p : Page) (c u d : Nat) : (s.occur p c u d).ref = s.ref := rfl
@[simp] theorem State.occur_cmp (s : State) (p : Page) (c u d : Nat) : (s.occur p c u d).cmp = s.cmp := rfl
@[simp] theorem State.occur_dec (s : State) (p : Page) (c u d : Nat) : (s.occur p c u d).dec = s.dec := rfl
@[simp] theorem State.occur_scn (s : State) (p : Page) (c u d : Nat) : (s.occur p c u d).scn = s.scn := rfl
@[simp] theorem State.occur_serial (s : State) (p : Page) (c u d : Nat) : (s.occur p c u d).serial = s.serial := rfl
@[simp] theorem State.occur_enc (s : State) (p : Page) (c u d : Nat) : (s.occur p c u d).enc = s.enc := rfl
@[simp] theorem State.occur_mbx (s : State) (p : Page) (c u d : Nat) : (s.occur p c u d).mbx = s.mbx := rfl
@[simp] theorem State.occur_fab (s : State) (p : Page) (c u d : Nat) : (s.occur p c u d).fab = s.fab := rfl
@[simp] theorem State.occur_aud (s : State) (p : Page) (c u d : Nat) : (s.occur p c u d).aud = s.aud := rfl
@[simp] theorem State.occur_cvu (s : State) (p : Page) (c u d : Nat) : (s.occur p c u d).cvu = s.cvu := rfl
@[simp] theorem State.occur_pow (s : State) (p : Page) (c u d : Nat) : (s.occur p c u d).pow = s.pow := rfl

/-! `State.occurF` changes `occ` alone. -/

@[simp] theorem State.occurF_pending (s : State) (p : Page) (c u : Nat) : (s.occurF p c u).pending = s.pending := rfl
@[simp] theorem State.occurF_cur (s : State) (p : Page) (c u : Nat) : (s.occurF p c u).cur = s.cur := rfl
@[simp] theorem State.occurF_pnd (s : State) (p : Page) (c u : Nat) : (s.occurF p c u).pnd = s.pnd := rfl
@[simp] theorem State.occurF_lat (s : State) (p : Page) (c u : Nat) : (s.occurF p c u).lat = s.lat := rfl
@[simp] theorem State.occurF_dirty (s : State) (p : Page) (c u : Nat) : (s.occurF p c u).dirty = s.dirty := rfl
@[simp] theorem State.occurF_evt (s : State) (p : Page) (c u : Nat) : (s.occurF p c u).evt = s.evt := rfl
@[simp] theorem State.occurF_tm (s : State) (p : Page) (c u : Nat) : (s.occurF p c u).tm = s.tm := rfl
@[simp] theorem State.occurF_cm (s : State) (p : Page) (c u : Nat) : (s.occurF p c u).cm = s.cm := rfl
@[simp] theorem State.occurF_sec (s : State) (p : Page) (c u : Nat) : (s.occurF p c u).sec = s.sec := rfl
@[simp] theorem State.occurF_out (s : State) (p : Page) (c u : Nat) : (s.occurF p c u).out = s.out := rfl
@[simp] theorem State.occurF_mem (s : State) (p : Page) (c u : Nat) : (s.occurF p c u).mem = s.mem := rfl
@[simp] theorem State.occurF_freeCount (s : State) (p : Page) (c u : Nat) : (s.occurF p c u).freeCount = s.freeCount := rfl
@[simp] theorem State.occurF_leases (s : State) (p : Page) (c u : Nat) : (s.occurF p c u).leases = s.leases := rfl
@[simp] theorem State.occurF_ing (s : State) (p : Page) (c u : Nat) : (s.occurF p c u).ing = s.ing := rfl
@[simp] theorem State.occurF_areas (s : State) (p : Page) (c u : Nat) : (s.occurF p c u).areas = s.areas := rfl
@[simp] theorem State.occurF_net (s : State) (p : Page) (c u : Nat) : (s.occurF p c u).net = s.net := rfl
@[simp] theorem State.occurF_sch (s : State) (p : Page) (c u : Nat) : (s.occurF p c u).sch = s.sch := rfl
@[simp] theorem State.occurF_shadow (s : State) (p : Page) (c u : Nat) : (s.occurF p c u).shadow = s.shadow := rfl
@[simp] theorem State.occurF_mate (s : State) (p : Page) (c u : Nat) : (s.occurF p c u).mate = s.mate := rfl
@[simp] theorem State.occurF_ref (s : State) (p : Page) (c u : Nat) : (s.occurF p c u).ref = s.ref := rfl
@[simp] theorem State.occurF_cmp (s : State) (p : Page) (c u : Nat) : (s.occurF p c u).cmp = s.cmp := rfl
@[simp] theorem State.occurF_dec (s : State) (p : Page) (c u : Nat) : (s.occurF p c u).dec = s.dec := rfl
@[simp] theorem State.occurF_scn (s : State) (p : Page) (c u : Nat) : (s.occurF p c u).scn = s.scn := rfl
@[simp] theorem State.occurF_serial (s : State) (p : Page) (c u : Nat) : (s.occurF p c u).serial = s.serial := rfl
@[simp] theorem State.occurF_enc (s : State) (p : Page) (c u : Nat) : (s.occurF p c u).enc = s.enc := rfl
@[simp] theorem State.occurF_mbx (s : State) (p : Page) (c u : Nat) : (s.occurF p c u).mbx = s.mbx := rfl
@[simp] theorem State.occurF_fab (s : State) (p : Page) (c u : Nat) : (s.occurF p c u).fab = s.fab := rfl
@[simp] theorem State.occurF_aud (s : State) (p : Page) (c u : Nat) : (s.occurF p c u).aud = s.aud := rfl
@[simp] theorem State.occurF_cvu (s : State) (p : Page) (c u : Nat) : (s.occurF p c u).cvu = s.cvu := rfl
@[simp] theorem State.occurF_pow (s : State) (p : Page) (c u : Nat) : (s.occurF p c u).pow = s.pow := rfl

/-! `State.faulted` changes `occ` alone. -/

@[simp] theorem State.faulted_pending (s : State) (a : Access) (c : Nat) (w : Bool) (addr : Nat) : (s.faulted a c w addr).pending = s.pending := rfl
@[simp] theorem State.faulted_cur (s : State) (a : Access) (c : Nat) (w : Bool) (addr : Nat) : (s.faulted a c w addr).cur = s.cur := rfl
@[simp] theorem State.faulted_pnd (s : State) (a : Access) (c : Nat) (w : Bool) (addr : Nat) : (s.faulted a c w addr).pnd = s.pnd := rfl
@[simp] theorem State.faulted_lat (s : State) (a : Access) (c : Nat) (w : Bool) (addr : Nat) : (s.faulted a c w addr).lat = s.lat := rfl
@[simp] theorem State.faulted_dirty (s : State) (a : Access) (c : Nat) (w : Bool) (addr : Nat) : (s.faulted a c w addr).dirty = s.dirty := rfl
@[simp] theorem State.faulted_evt (s : State) (a : Access) (c : Nat) (w : Bool) (addr : Nat) : (s.faulted a c w addr).evt = s.evt := rfl
@[simp] theorem State.faulted_tm (s : State) (a : Access) (c : Nat) (w : Bool) (addr : Nat) : (s.faulted a c w addr).tm = s.tm := rfl
@[simp] theorem State.faulted_cm (s : State) (a : Access) (c : Nat) (w : Bool) (addr : Nat) : (s.faulted a c w addr).cm = s.cm := rfl
@[simp] theorem State.faulted_sec (s : State) (a : Access) (c : Nat) (w : Bool) (addr : Nat) : (s.faulted a c w addr).sec = s.sec := rfl
@[simp] theorem State.faulted_out (s : State) (a : Access) (c : Nat) (w : Bool) (addr : Nat) : (s.faulted a c w addr).out = s.out := rfl
@[simp] theorem State.faulted_mem (s : State) (a : Access) (c : Nat) (w : Bool) (addr : Nat) : (s.faulted a c w addr).mem = s.mem := rfl
@[simp] theorem State.faulted_freeCount (s : State) (a : Access) (c : Nat) (w : Bool) (addr : Nat) : (s.faulted a c w addr).freeCount = s.freeCount := rfl
@[simp] theorem State.faulted_leases (s : State) (a : Access) (c : Nat) (w : Bool) (addr : Nat) : (s.faulted a c w addr).leases = s.leases := rfl
@[simp] theorem State.faulted_ing (s : State) (a : Access) (c : Nat) (w : Bool) (addr : Nat) : (s.faulted a c w addr).ing = s.ing := rfl
@[simp] theorem State.faulted_areas (s : State) (a : Access) (c : Nat) (w : Bool) (addr : Nat) : (s.faulted a c w addr).areas = s.areas := rfl
@[simp] theorem State.faulted_net (s : State) (a : Access) (c : Nat) (w : Bool) (addr : Nat) : (s.faulted a c w addr).net = s.net := rfl
@[simp] theorem State.faulted_sch (s : State) (a : Access) (c : Nat) (w : Bool) (addr : Nat) : (s.faulted a c w addr).sch = s.sch := rfl
@[simp] theorem State.faulted_shadow (s : State) (a : Access) (c : Nat) (w : Bool) (addr : Nat) : (s.faulted a c w addr).shadow = s.shadow := rfl
@[simp] theorem State.faulted_mate (s : State) (a : Access) (c : Nat) (w : Bool) (addr : Nat) : (s.faulted a c w addr).mate = s.mate := rfl
@[simp] theorem State.faulted_ref (s : State) (a : Access) (c : Nat) (w : Bool) (addr : Nat) : (s.faulted a c w addr).ref = s.ref := rfl
@[simp] theorem State.faulted_cmp (s : State) (a : Access) (c : Nat) (w : Bool) (addr : Nat) : (s.faulted a c w addr).cmp = s.cmp := rfl
@[simp] theorem State.faulted_dec (s : State) (a : Access) (c : Nat) (w : Bool) (addr : Nat) : (s.faulted a c w addr).dec = s.dec := rfl
@[simp] theorem State.faulted_scn (s : State) (a : Access) (c : Nat) (w : Bool) (addr : Nat) : (s.faulted a c w addr).scn = s.scn := rfl
@[simp] theorem State.faulted_serial (s : State) (a : Access) (c : Nat) (w : Bool) (addr : Nat) : (s.faulted a c w addr).serial = s.serial := rfl
@[simp] theorem State.faulted_enc (s : State) (a : Access) (c : Nat) (w : Bool) (addr : Nat) : (s.faulted a c w addr).enc = s.enc := rfl
@[simp] theorem State.faulted_mbx (s : State) (a : Access) (c : Nat) (w : Bool) (addr : Nat) : (s.faulted a c w addr).mbx = s.mbx := rfl
@[simp] theorem State.faulted_fab (s : State) (a : Access) (c : Nat) (w : Bool) (addr : Nat) : (s.faulted a c w addr).fab = s.fab := rfl
@[simp] theorem State.faulted_aud (s : State) (a : Access) (c : Nat) (w : Bool) (addr : Nat) : (s.faulted a c w addr).aud = s.aud := rfl
@[simp] theorem State.faulted_cvu (s : State) (a : Access) (c : Nat) (w : Bool) (addr : Nat) : (s.faulted a c w addr).cvu = s.cvu := rfl
@[simp] theorem State.faulted_pow (s : State) (a : Access) (c : Nat) (w : Bool) (addr : Nat) : (s.faulted a c w addr).pow = s.pow := rfl

end Sys2Proof.Machine
end

