-- ==== Sys2Proof/Laws/Tables.lean ====
section
/-!
SUPPORT. The laws of the sparse tables, the bit fields, the sets and the host pool: a read after a write gives the value written,
every other key keeps its value, and the canonical form is kept.
-/

namespace Sys2Proof.Machine

/-! Sparse tables. -/

theorem tget_tdel_same {α : Type} (d : α) (t : List (Nat × α)) (k : Nat) : tget d (tdel k t) k = d := by
  induction t with
  | nil => rfl
  | cons e t ih =>
    obtain ⟨k', v'⟩ := e
    simp only [tdel]
    split
    · exact ih
    · simp only [tget]
      rw [if_neg (fun h => by simp_all), ih]

theorem tget_tdel_ne {α : Type} (d : α) (t : List (Nat × α)) {k j : Nat} (h : j ≠ k) :
    tget d (tdel k t) j = tget d t j := by
  induction t with
  | nil => rfl
  | cons e t ih =>
    obtain ⟨k', v'⟩ := e
    simp only [tdel]
    split
    · next hk => simp only [tget]; rw [if_neg (by omega), ih]
    · simp only [tget]; rw [ih]

theorem tget_tins_same {α : Type} (d : α) (t : List (Nat × α)) (k : Nat) (v : α) : tget d (tins k v t) k = v := by
  induction t with
  | nil => simp [tins, tget]
  | cons e t ih =>
    obtain ⟨k', v'⟩ := e
    simp only [tins]
    split
    · simp [tget]
    · split
      · simp [tget]
      · simp only [tget]
        rw [if_neg (by omega), ih]

theorem tget_tins_ne {α : Type} (d : α) (t : List (Nat × α)) {k j : Nat} (v : α) (h : j ≠ k) :
    tget d (tins k v t) j = tget d t j := by
  induction t with
  | nil => simp [tins, tget, Ne.symm h]
  | cons e t ih =>
    obtain ⟨k', v'⟩ := e
    simp only [tins]
    split
    · simp only [tget]; rw [if_neg (by omega)]
    · split
      · simp only [tget]; rw [if_neg (by omega), if_neg (by omega)]
      · simp only [tget]; rw [ih]

/-- A read after a write to the same key. -/
theorem tget_tput_same {α : Type} [DecidableEq α] (d : α) (t : List (Nat × α)) (k : Nat) (v : α) :
    tget d (tput d t k v) k = v := by
  unfold tput
  split
  · next h => rw [tget_tdel_same, h]
  · exact tget_tins_same d t k v

/-- A write leaves every other key alone, whatever its default. -/
theorem tget_tput_ne {α : Type} [DecidableEq α] (d d' : α) (t : List (Nat × α)) {k j : Nat} (v : α) (h : j ≠ k) :
    tget d' (tput d t k v) j = tget d' t j := by
  unfold tput
  split
  · exact tget_tdel_ne d' t h
  · exact tget_tins_ne d' t v h

theorem tfind_tins_same {α : Type} (t : List (Nat × α)) (k : Nat) (v : α) : tfind (tins k v t) k = some v := by
  induction t with
  | nil => simp [tins, tfind]
  | cons e t ih =>
    obtain ⟨k', v'⟩ := e
    simp only [tins]
    split
    · simp [tfind]
    · split
      · simp [tfind]
      · simp only [tfind]
        rw [if_neg (by omega), ih]

theorem tfind_tins_ne {α : Type} (t : List (Nat × α)) {k j : Nat} (v : α) (h : j ≠ k) : tfind (tins k v t) j = tfind t j := by
  induction t with
  | nil => simp [tins, tfind, Ne.symm h]
  | cons e t ih =>
    obtain ⟨k', v'⟩ := e
    simp only [tins]
    split
    · simp only [tfind]; rw [if_neg (by omega)]
    · split
      · simp only [tfind]; rw [if_neg (by omega), if_neg (by omega)]
      · simp only [tfind]; rw [ih]

theorem tfind_tdel_same {α : Type} (t : List (Nat × α)) (k : Nat) : tfind (tdel k t) k = none := by
  induction t with
  | nil => rfl
  | cons e t ih =>
    obtain ⟨k', v'⟩ := e
    simp only [tdel]
    split
    · exact ih
    · simp only [tfind]
      rw [if_neg (fun h => by simp_all), ih]

theorem tfind_tdel_ne {α : Type} (t : List (Nat × α)) {k j : Nat} (h : j ≠ k) : tfind (tdel k t) j = tfind t j := by
  induction t with
  | nil => rfl
  | cons e t ih =>
    obtain ⟨k', v'⟩ := e
    simp only [tdel]
    split
    · next hk => simp only [tfind]; rw [if_neg (by omega), ih]
    · simp only [tfind]; rw [ih]

/-! Sets of numbers. -/

theorem mem_sins (k j : Nat) (l : List Nat) : j ∈ sins k l ↔ j = k ∨ j ∈ l := by
  induction l with
  | nil => simp [sins]
  | cons x t ih =>
    simp only [sins]
    split
    · simp
    · split
      · next h => subst h; simp
      · simp only [List.mem_cons, ih]; tauto

theorem mem_sdel (k j : Nat) (l : List Nat) : j ∈ sdel k l ↔ j ∈ l ∧ j ≠ k := by simp [sdel]

theorem mem_sset (k j : Nat) (b : Bool) (l : List Nat) :
    j ∈ sset k b l ↔ (j = k ∧ b = true) ∨ (j ≠ k ∧ j ∈ l) := by
  cases b
  · simp only [sset, Bool.false_eq_true, if_false, mem_sdel]; tauto
  · simp only [sset, if_true, mem_sins]; by_cases h : j = k <;> simp [h]

/-! Bit fields. -/

/-- A field and the bits below it stay below the next bit. -/
theorem below_next_bit (x r lo n : Nat) (hx : x < 2 ^ n) (hr : r < 2 ^ lo) : x * 2 ^ lo + r < 2 ^ (lo + n) := by
  have h1 : (x + 1) * 2 ^ lo ≤ 2 ^ n * 2 ^ lo := Nat.mul_le_mul_right _ hx
  rw [Nat.add_mul, Nat.one_mul] at h1
  rw [Nat.pow_add, Nat.mul_comm (2 ^ lo)]
  omega

/-- A number by the three parts that a field cuts it into. -/
theorem split_at_field (w lo n : Nat) :
    w = w / 2 ^ (lo + n) * 2 ^ (lo + n) + (w / 2 ^ lo) % 2 ^ n * 2 ^ lo + w % 2 ^ lo := by
  have h1 := Nat.div_add_mod w (2 ^ lo)
  have h2 := Nat.div_add_mod (w / 2 ^ lo) (2 ^ n)
  rw [Nat.pow_add, ← Nat.div_div_eq_div_mul]
  generalize w / 2 ^ lo / 2 ^ n = a at *
  generalize (w / 2 ^ lo) % 2 ^ n = f at *
  generalize w / 2 ^ lo = q at *
  generalize w % 2 ^ lo = r at *
  rw [← h1, ← h2]
  ring

/-- The number that a field write leaves. -/
theorem fset_toNat (w : Word) (hi lo v : Nat) (h : lo ≤ hi) (h32 : hi < 32) :
    (fset w hi lo v).toNat =
      w.toNat / 2 ^ (hi + 1) * 2 ^ (hi + 1) + v % 2 ^ (hi + 1 - lo) * 2 ^ lo + w.toNat % 2 ^ lo := by
  obtain ⟨n, hn⟩ : ∃ n, hi + 1 = lo + n := ⟨hi + 1 - lo, by omega⟩
  have hs := split_at_field w.toNat lo n
  have hw := w.isLt
  unfold fset fget bits
  simp only [Nat.shiftRight_eq_div_pow, Nat.shiftLeft_eq, BitVec.toNat_ofNat, hn, Nat.add_sub_cancel_left]
  have hv : v % 2 ^ n < 2 ^ n := Nat.mod_lt _ (by positivity)
  have hr : w.toNat % 2 ^ lo < 2 ^ lo := Nat.mod_lt _ (by positivity)
  have hp : (2 : Nat) ^ 32 = 2 ^ (lo + n) * 2 ^ (32 - (lo + n)) := by rw [← Nat.pow_add]; congr 1; omega
  have ha : w.toNat / 2 ^ (lo + n) < 2 ^ (32 - (lo + n)) := by
    apply Nat.div_lt_of_lt_mul; rw [← hp]; exact hw
  have hl : v % 2 ^ n * 2 ^ lo + w.toNat % 2 ^ lo < 2 ^ (lo + n) :=
    below_next_bit _ _ _ _ hv hr
  generalize w.toNat / 2 ^ (lo + n) = a at *
  generalize w.toNat / 2 ^ lo % 2 ^ n * 2 ^ lo = f at *
  generalize w.toNat % 2 ^ lo = r at *
  generalize v % 2 ^ n * 2 ^ lo = x at *
  have hb : a * 2 ^ (lo + n) + 2 ^ (lo + n) ≤ 2 ^ 32 := by
    rw [hp]
    have h5 : (a + 1) * 2 ^ (lo + n) ≤ 2 ^ (32 - (lo + n)) * 2 ^ (lo + n) := Nat.mul_le_mul_right _ ha
    rw [Nat.add_mul, Nat.one_mul] at h5
    rw [Nat.mul_comm (2 ^ (lo + n))]
    exact h5
  rw [Nat.mod_eq_of_lt (by omega)]
  omega

/-- A field reads as the low bits of what was written to it. -/
theorem fget_fset_same (w : Word) (hi lo v : Nat) (h : lo ≤ hi) (h32 : hi < 32) :
    fget (fset w hi lo v) hi lo = v % 2 ^ (hi + 1 - lo) := by
  obtain ⟨n, hn⟩ : ∃ n, hi + 1 = lo + n := ⟨hi + 1 - lo, by omega⟩
  unfold fget bits
  rw [fset_toNat w hi lo v h h32, Nat.shiftRight_eq_div_pow, hn, Nat.add_sub_cancel_left]
  have hr : w.toNat % 2 ^ lo < 2 ^ lo := Nat.mod_lt _ (by positivity)
  have hv : v % 2 ^ n < 2 ^ n := Nat.mod_lt _ (by positivity)
  rw [show w.toNat / 2 ^ (lo + n) * 2 ^ (lo + n) + v % 2 ^ n * 2 ^ lo + w.toNat % 2 ^ lo =
      w.toNat % 2 ^ lo + (w.toNat / 2 ^ (lo + n) * 2 ^ n + v % 2 ^ n) * 2 ^ lo by rw [Nat.pow_add]; ring]
  rw [Nat.add_mul_div_right _ _ (by positivity), Nat.div_eq_of_lt hr, Nat.zero_add, Nat.add_comm,
    Nat.add_mul_mod_self_right, Nat.mod_mod]

/-- A field apart from the one written keeps its value. -/
theorem fget_fset_apart (w : Word) (hi lo v hi' lo' : Nat) (h : lo ≤ hi) (h32 : hi < 32) (ha : hi' < lo ∨ hi < lo')
    (h' : lo' ≤ hi') : fget (fset w hi lo v) hi' lo' = fget w hi' lo' := by
  unfold fget bits
  rw [fset_toNat w hi lo v h h32]
  simp only [Nat.shiftRight_eq_div_pow]
  have hr : w.toNat % 2 ^ lo < 2 ^ lo := Nat.mod_lt _ (by positivity)
  have hv : v % 2 ^ (hi + 1 - lo) < 2 ^ (hi + 1 - lo) := Nat.mod_lt _ (by positivity)
  rcases ha with ha | ha
  · obtain ⟨m, hm⟩ : ∃ m, lo = hi' + 1 + m := ⟨lo - (hi' + 1), by omega⟩
    have key : ∀ x : Nat, x / 2 ^ lo' % 2 ^ (hi' + 1 - lo') = x % 2 ^ lo / 2 ^ lo' % 2 ^ (hi' + 1 - lo') := by
      intro x
      have e1 : (2 : Nat) ^ lo = 2 ^ lo' * 2 ^ (hi' + 1 - lo') * 2 ^ m := by
        rw [← Nat.pow_add, ← Nat.pow_add]; congr 1; omega
      rw [e1, Nat.mul_assoc, Nat.mod_mul_right_div_self, Nat.mod_mul_right_mod]
    rw [key, key w.toNat]
    congr 2
    obtain ⟨n, hn⟩ : ∃ n, hi + 1 = lo + n := ⟨hi + 1 - lo, by omega⟩
    rw [hn, show w.toNat / 2 ^ (lo + n) * 2 ^ (lo + n) + v % 2 ^ (lo + n - lo) * 2 ^ lo + w.toNat % 2 ^ lo =
      w.toNat % 2 ^ lo + (w.toNat / 2 ^ (lo + n) * 2 ^ n + v % 2 ^ (lo + n - lo)) * 2 ^ lo by rw [Nat.pow_add]; ring]
    rw [Nat.add_mul_mod_self_right, Nat.mod_mod]
  · have key : ∀ x : Nat, x / 2 ^ lo' = x / 2 ^ (hi + 1) / 2 ^ (lo' - (hi + 1)) := by
      intro x
      rw [Nat.div_div_eq_div_mul, ← Nat.pow_add]; congr 2; omega
    rw [key, key w.toNat]
    congr 2
    obtain ⟨n, hn⟩ : ∃ n, hi + 1 = lo + n := ⟨hi + 1 - lo, by omega⟩
    have hl : v % 2 ^ (hi + 1 - lo) * 2 ^ lo + w.toNat % 2 ^ lo < 2 ^ (hi + 1) := by
      rw [hn] at hv ⊢
      rw [Nat.add_sub_cancel_left] at hv ⊢
      exact below_next_bit _ _ _ _ hv hr
    rw [Nat.add_assoc, Nat.add_comm, Nat.add_mul_div_right _ _ (by positivity), Nat.div_eq_of_lt hl, Nat.zero_add]

end Sys2Proof.Machine
end

