-- ==== Sys2Proof/Laws/Registers.lean ====
section
/-!
SUPPORT. The laws of the register stores (R36): a word or field reads as written, and a write leaves every other word and every
field apart from it alone.
-/

namespace Sys2Proof.Machine

theorem word_setWord_same (s : State) (p : Page) (off : Nat) (w : Word) : (s.setWord p off w).word p off = w := by
  simp only [State.word, State.setWord, tget_tput_same]

theorem word_setWord_ne (s : State) (p q : Page) (off o : Nat) (w : Word) (h : pageBase q + o ≠ pageBase p + off) :
    (s.setWord p off w).word q o = s.word q o := by
  simp only [State.word, State.setWord]
  exact tget_tput_ne _ _ _ _ h

theorem wordP_setWordP_same (s : State) (p : Page) (off : Nat) (w : Word) : (s.setWordP p off w).wordP p off = w := by
  simp only [State.wordP, State.setWordP, tget_tput_same]

theorem wordP_setWordP_ne (s : State) (p q : Page) (off o : Nat) (w : Word) (h : pageBase q + o ≠ pageBase p + off) :
    (s.setWordP p off w).wordP q o = s.wordP q o := by
  simp only [State.wordP, State.setWordP]
  exact tget_tput_ne _ _ _ _ h

/-- A field reads as the low bits of what was written to it. -/
theorem rd_wr_same (s : State) (p : Page) (f : Field) (v : Nat) (h : f.lo ≤ f.hi) (h32 : f.hi < 32) :
    (s.wr p f v).rd p f = v % 2 ^ (f.hi + 1 - f.lo) := by
  simp only [State.rd, State.wr, word_setWord_same]
  exact fget_fset_same _ _ _ _ h h32

/-- A field of another register keeps its value. -/
theorem rd_wr_ne (s : State) (p q : Page) (f g : Field) (v : Nat) (h : pageBase q + g.off ≠ pageBase p + f.off) :
    (s.wr p f v).rd q g = s.rd q g := by
  simp only [State.rd, State.wr]
  rw [word_setWord_ne _ _ _ _ _ _ h]

/-- A field of the same register apart from the one written keeps its value. -/
theorem rd_wr_apart (s : State) (p : Page) (f g : Field) (v : Nat) (h : f.lo ≤ f.hi) (h32 : f.hi < 32) (ho : g.off = f.off)
    (hg : g.lo ≤ g.hi) (ha : g.hi < f.lo ∨ f.hi < g.lo) : (s.wr p f v).rd p g = s.rd p g := by
  simp only [State.rd, State.wr, ho, word_setWord_same]
  exact fget_fset_apart _ _ _ _ _ _ h h32 ha hg

/-- The occurrence queue of the page that records. -/
theorem queue_setQueue_same (s : State) (p : Page) (q : OccQueue) : (s.setQueue p q).queue p = q := by
  simp only [State.queue, State.setQueue, tget_tput_same]

theorem queue_setQueue_ne (s : State) (p r : Page) (q : OccQueue) (h : pageBase r ≠ pageBase p) :
    (s.setQueue p q).queue r = s.queue r := by
  simp only [State.queue, State.setQueue]
  exact tget_tput_ne _ _ _ _ h

/-- An occurrence reaches its page's queue. -/
theorem queue_occur_same (s : State) (p : Page) (c u d : Nat) :
    (s.occur p c u d).queue p = occPush (s.queue p) (occRecord c u d) := queue_setQueue_same _ _ _

theorem queue_occur_ne (s : State) (p r : Page) (c u d : Nat) (h : pageBase r ≠ pageBase p) :
    (s.occur p c u d).queue r = s.queue r := queue_setQueue_ne _ _ _ _ h

end Sys2Proof.Machine
end

