-- ==== Sys2Proof/Laws/Settle.lean ====
section
/-!
SUPPORT. What event delivery does to a state, once: it changes `evt` and appends MSI-X messages to `out`, and leaves `Settled`.
-/

namespace Sys2Proof.Machine

/-- A fold that keeps a part of the state. -/
theorem each_keeps {α β : Type} (g : State → β) (f : State → α → State) (hf : ∀ s a, g (f s a) = g s) (s : State) (l : List α) :
    g (s.each l f) = g s := by
  induction l generalizing s with
  | nil => rfl
  | cons x l ih => rw [State.each, List.foldl_cons]; exact (ih _).trans (hf s x)

/-- A state with only event delivery and outputs replaced. -/
def State.events (s : State) (e : EvtState) (o : List Out) : State := { s with evt := e, out := o }

@[simp] theorem events_evt (s : State) (e : EvtState) (o : List Out) : (s.events e o).evt = e := rfl
@[simp] theorem events_out (s : State) (e : EvtState) (o : List Out) : (s.events e o).out = o := rfl
@[simp] theorem events_threshBad (s : State) (e : EvtState) (o : List Out) (r b n : Nat) :
    (s.events e o).threshBad r b n = s.threshBad r b n := by
  induction n with
  | zero => rfl
  | succ n ih =>
    cases n with
    | zero => rfl
    | succ n => simp only [State.threshBad, ih]; rfl
theorem events_derivedStatus (s : State) (e : EvtState) (o : List Out) (p : Page) :
    (s.events e o).derivedStatus p = s.derivedStatus p := by
  unfold State.derivedStatus
  cases p.ty <;> first | rfl | (simp only [events_threshBad]; rfl)
theorem events_pageStatus (s : State) (e : EvtState) (o : List Out) (p : Page) :
    (s.events e o).pageStatus p = s.pageStatus p := by
  unfold State.pageStatus
  rw [events_derivedStatus]
  rfl
@[simp] theorem events_sourcesUp (s : State) (e : EvtState) (o : List Out) : (s.events e o).sourcesUp = s.sourcesUp := by
  unfold State.sourcesUp
  simp only [events_pageStatus]
  rfl
@[simp] theorem events_vectorLevel (s : State) (e : EvtState) (o : List Out) (up : List Nat) (v : Nat) :
    (s.events e o).vectorLevel up v = s.vectorLevel up v := rfl
@[simp] theorem events_route (s : State) (e : EvtState) (o : List Out) (src : Nat) : (s.events e o).route src = s.route src := rfl
@[simp] theorem events_fabEnable (s : State) (e : EvtState) (o : List Out) : (s.events e o).fabEnable = s.fabEnable := rfl

/-- The messages of vectors: each is sent and its vector disarmed. -/
theorem sendEach (s : State) (l : List Nat) :
    ∃ d, (s.each l fun t v => { t.emit (.msix v) with evt := { t.evt with disarmed := sins v t.evt.disarmed } }) =
      s.events { s.evt with disarmed := d } (s.out ++ l.map .msix) ∧ ∀ v, v ∈ d ↔ v ∈ l ∨ v ∈ s.evt.disarmed := by
  induction l generalizing s with
  | nil => exact ⟨s.evt.disarmed, by simp [State.each, State.events], by simp⟩
  | cons x l ih =>
    obtain ⟨d, h1, h2⟩ := ih { s.emit (.msix x) with evt := { s.evt with disarmed := sins x s.evt.disarmed } }
    refine ⟨d, ?_, fun v => ?_⟩
    · rw [State.each, List.foldl_cons]
      simp only [State.each] at h1
      rw [h1]
      simp [State.events, State.emit]
    · rw [h2]
      simp only [mem_sins, List.mem_cons]
      tauto

theorem mem_foldl_sins (l : List Nat) (acc : List Nat) (v : Nat) :
    v ∈ l.foldl (fun l v => sins v l) acc ↔ v ∈ l ∨ v ∈ acc := by
  induction l generalizing acc with
  | nil => simp
  | cons x l ih => rw [List.foldl_cons, ih, mem_sins, List.mem_cons]; tauto

/-- Sending vectors: only `disarmed` and `out` change, and every armed, unmasked vector at level 1 is disarmed. -/
theorem sendVectors_eq (s : State) (up : List Nat) :
    ∃ d o, s.sendVectors up = s.events { s.evt with disarmed := d } o ∧
      ∀ v, v < 64 → s.vectorLevel up v = true → v ∈ s.evt.unmasked → v ∈ d := by
  obtain ⟨d, h1, h2⟩ := sendEach s (((((up.filter fun src => s.route src / 64 = 1).map fun src => s.route src % 64).foldl
    (fun l v => sins v l) []).filter fun v => !(s.evt.disarmed.contains v) && s.evt.unmasked.contains v))
  refine ⟨d, _, h1, fun v hv hl hu => (h2 v).2 ?_⟩
  simp only [State.vectorLevel, List.any_eq_true, decide_eq_true_eq] at hl
  obtain ⟨src, hs, hr⟩ := hl
  by_cases hd : v ∈ s.evt.disarmed
  · exact .inr hd
  · left
    simp only [List.mem_filter, mem_foldl_sins, List.mem_map, decide_eq_true_eq, List.not_mem_nil, or_false,
      Bool.and_eq_true, Bool.not_eq_true', List.contains_eq_mem, decide_eq_false_iff_not]
    exact ⟨⟨src, ⟨hs, by omega⟩, by omega⟩, hd, hu⟩

/-- The fabric channel's part changes nothing but the channel. -/
theorem fabLevels_eq (s : State) (up : List Nat) :
    ∃ e, s.fabLevels up = s.events e s.out ∧ e.disarmed = s.evt.disarmed ∧ e.unmasked = s.evt.unmasked ∧
      e.msix = s.evt.msix := by
  have hf : ∀ (l : List (Nat × Bool)) (e : EvtState),
      (l.foldl (fun e d => fabDueLevel e d.1 d.2) e).disarmed = e.disarmed ∧
      (l.foldl (fun e d => fabDueLevel e d.1 d.2) e).unmasked = e.unmasked ∧
      (l.foldl (fun e d => fabDueLevel e d.1 d.2) e).msix = e.msix := by
    intro l
    induction l with
    | nil => intro e; exact ⟨rfl, rfl, rfl⟩
    | cons x l ih => intro e; rw [List.foldl_cons]; exact ih _
  unfold State.fabLevels
  split
  · exact ⟨_, rfl, (hf _ _).1, (hf _ _).2.1, (hf _ _).2.2⟩
  · exact ⟨_, rfl, rfl, rfl, rfl⟩

/-- What the channel has seen of a source once its levels are evaluated. -/
theorem tfind_levels (l : List Nat) (up : List Nat) (src : Nat) :
    tfind (l.map fun x => (x, up.contains x)) src = if src ∈ l then some (up.contains src) else none := by
  induction l with
  | nil => rfl
  | cons x l ih =>
    simp only [List.map_cons, tfind, ih, List.mem_cons]
    by_cases h : x = src
    · simp [h]
    · simp [h, Ne.symm h]

theorem tget_default_of_no_key {α : Type} (d : α) (t : List (Nat × α)) (k : Nat) (h : ∀ e ∈ t, e.1 ≠ k) : tget d t k = d := by
  induction t with
  | nil => rfl
  | cons e t ih =>
    obtain ⟨k', v⟩ := e
    simp only [List.forall_mem_cons] at h
    simp only [tget]
    rw [if_neg h.1, ih h.2]

/-- The address and the reset value of ROUTE_m. -/
theorem route_reset : ∀ m, m < 128 → pageBase EVT + (0x80 + 4 * m) = 0x30080 + 4 * m ∧ resetOf (0x30080 + 4 * m) = 0 := by
  decide +kernel

/-- A source with a route is listed among the routed ones. -/
theorem mem_routed (s : State) (src : Nat) (h : src < 512) (hr : s.route src ≠ 0) : src ∈ s.routed := by
  have ha := route_reset (src / 4) (by omega)
  have hk : ∃ e ∈ s.cur, e.1 = 0x30080 + 4 * (src / 4) := by
    by_contra hn
    push Not at hn
    apply hr
    unfold State.route State.word
    rw [ha.1, tget_default_of_no_key _ _ _ hn, ha.2]
    rcases (by omega : src % 4 = 0 ∨ src % 4 = 1 ∨ src % 4 = 2 ∨ src % 4 = 3) with h | h | h | h <;> rw [h] <;> rfl
  obtain ⟨e, he, hk⟩ := hk
  unfold State.routed
  rw [List.mem_flatMap]
  refine ⟨e, he, ?_⟩
  rw [if_pos (by omega)]
  simp only [List.mem_filter, List.mem_map, List.mem_range, decide_eq_true_eq]
  exact ⟨⟨src % 4, by omega, by omega⟩, hr⟩

/-- The channel has seen every routed source's level once its levels are evaluated, or holds nothing due. -/
theorem fabLevels_seen (s : State) (up : List Nat) :
    (s.fabEnable = true → ∀ src, src < 512 → tfind (s.fabLevels up).evt.fabSeen src =
      if s.route src / 64 = 3 then some (up.contains src) else none) ∧
    (s.fabEnable = false → (s.fabLevels up).evt.fabDue = []) := by
  unfold State.fabLevels
  constructor
  · intro h src hs
    rw [if_pos h]
    simp only []
    rw [tfind_levels]
    by_cases hr : s.route src / 64 = 3
    · rw [if_pos, if_pos hr]
      simp only [List.mem_filter, decide_eq_true_eq]
      exact ⟨mem_routed s src hs (by omega), hr⟩
    · rw [if_neg, if_neg hr]
      simp only [List.mem_filter, decide_eq_true_eq]
      tauto
  · intro h
    rw [if_neg (by simp [h])]

/-- Event delivery changes `evt` and `out` alone, keeps the MSI-X table, and leaves the state settled. -/
theorem settle_eq (s : State) :
    ∃ e o, settle s = s.events e o ∧ e.unmasked = s.evt.unmasked ∧ e.msix = s.evt.msix ∧ Settled (settle s) := by
  obtain ⟨d, o, h1, h2⟩ := sendVectors_eq s s.sourcesUp
  obtain ⟨e, h3, h4, h5, h6⟩ := fabLevels_eq (s.sendVectors s.sourcesUp) s.sourcesUp
  obtain ⟨h7, h8⟩ := fabLevels_seen (s.sendVectors s.sourcesUp) s.sourcesUp
  have hs : settle s = s.events e o := by
    unfold settle
    simp only []
    rw [h3, h1]
    rfl
  have he : (settle s).evt = ((s.sendVectors s.sourcesUp).fabLevels s.sourcesUp).evt := rfl
  rw [h1] at h4 h5 h6
  refine ⟨e, o, hs, h5, h6, ?_, ?_, ?_⟩
  · intro v hv hl hu
    rw [hs] at hl hu ⊢
    simp only [events_evt] at hu ⊢
    rw [h4]
    simp only [events_sourcesUp, events_vectorLevel] at hl
    exact h2 v hv hl (by rw [h5] at hu; exact hu)
  · intro hf src hsrc
    rw [he, h7 (by rw [h1]; rw [hs] at hf; exact hf) src hsrc, hs, h1]
    simp only [events_sourcesUp, events_route]
    rfl
  · intro hf
    rw [he]
    exact h8 (by rw [h1]; rw [hs] at hf; exact hf)

theorem settle_settled (s : State) : Settled (settle s) := by
  obtain ⟨e, o, h, _, _, hs⟩ := settle_eq s
  exact hs

/-- Every command answers a state whose event delivery is up to date. -/
theorem done_eq (s : State) : done s = .next (settle s) := rfl

/-- A command of a released device answers the settled effect. -/
theorem live_up (s t : State) (h : s.pow.up = true) : live s t = .next (settle t) := by
  unfold live
  rw [if_pos h]
  rfl

/-- Released or not, a command answers a settled state. -/
theorem live_answers (s t : State) : ∃ u, live s t = .next (settle u) := by
  unfold live
  split <;> exact ⟨_, rfl⟩

/-- Event delivery changes `evt` and `out` alone. -/
theorem settle_frame (s : State) : SameButEvents s (settle s) := by
  obtain ⟨e, o, h, _⟩ := settle_eq s
  rw [h]
  rfl

/-! What event delivery keeps. -/

/-- Whatever does not look at event delivery or outputs is the same after it. -/
theorem settle_keeps {β : Type} (g : State → β) (h : ∀ s e o, g (s.events e o) = g s) (s : State) : g (settle s) = g s := by
  obtain ⟨e, o, hs, _⟩ := settle_eq s
  rw [hs, h]

@[simp] theorem settle_pending (s : State) : (settle s).pending = s.pending := settle_keeps State.pending (fun _ _ _ => rfl) s
@[simp] theorem settle_cur (s : State) : (settle s).cur = s.cur := settle_keeps State.cur (fun _ _ _ => rfl) s
@[simp] theorem settle_pnd (s : State) : (settle s).pnd = s.pnd := settle_keeps State.pnd (fun _ _ _ => rfl) s
@[simp] theorem settle_lat (s : State) : (settle s).lat = s.lat := settle_keeps State.lat (fun _ _ _ => rfl) s
@[simp] theorem settle_dirty (s : State) : (settle s).dirty = s.dirty := settle_keeps State.dirty (fun _ _ _ => rfl) s
@[simp] theorem settle_occ (s : State) : (settle s).occ = s.occ := settle_keeps State.occ (fun _ _ _ => rfl) s
@[simp] theorem settle_tm (s : State) : (settle s).tm = s.tm := settle_keeps State.tm (fun _ _ _ => rfl) s
@[simp] theorem settle_cm (s : State) : (settle s).cm = s.cm := settle_keeps State.cm (fun _ _ _ => rfl) s
@[simp] theorem settle_sec (s : State) : (settle s).sec = s.sec := settle_keeps State.sec (fun _ _ _ => rfl) s
@[simp] theorem settle_mem (s : State) : (settle s).mem = s.mem := settle_keeps State.mem (fun _ _ _ => rfl) s
@[simp] theorem settle_freeCount (s : State) : (settle s).freeCount = s.freeCount := settle_keeps State.freeCount (fun _ _ _ => rfl) s
@[simp] theorem settle_leases (s : State) : (settle s).leases = s.leases := settle_keeps State.leases (fun _ _ _ => rfl) s
@[simp] theorem settle_ing (s : State) : (settle s).ing = s.ing := settle_keeps State.ing (fun _ _ _ => rfl) s
@[simp] theorem settle_areas (s : State) : (settle s).areas = s.areas := settle_keeps State.areas (fun _ _ _ => rfl) s
@[simp] theorem settle_net (s : State) : (settle s).net = s.net := settle_keeps State.net (fun _ _ _ => rfl) s
@[simp] theorem settle_sch (s : State) : (settle s).sch = s.sch := settle_keeps State.sch (fun _ _ _ => rfl) s
@[simp] theorem settle_shadow (s : State) : (settle s).shadow = s.shadow := settle_keeps State.shadow (fun _ _ _ => rfl) s
@[simp] theorem settle_mate (s : State) : (settle s).mate = s.mate := settle_keeps State.mate (fun _ _ _ => rfl) s
@[simp] theorem settle_ref (s : State) : (settle s).ref = s.ref := settle_keeps State.ref (fun _ _ _ => rfl) s
@[simp] theorem settle_cmp (s : State) : (settle s).cmp = s.cmp := settle_keeps State.cmp (fun _ _ _ => rfl) s
@[simp] theorem settle_dec (s : State) : (settle s).dec = s.dec := settle_keeps State.dec (fun _ _ _ => rfl) s
@[simp] theorem settle_scn (s : State) : (settle s).scn = s.scn := settle_keeps State.scn (fun _ _ _ => rfl) s
@[simp] theorem settle_serial (s : State) : (settle s).serial = s.serial := settle_keeps State.serial (fun _ _ _ => rfl) s
@[simp] theorem settle_enc (s : State) : (settle s).enc = s.enc := settle_keeps State.enc (fun _ _ _ => rfl) s
@[simp] theorem settle_mbx (s : State) : (settle s).mbx = s.mbx := settle_keeps State.mbx (fun _ _ _ => rfl) s
@[simp] theorem settle_fab (s : State) : (settle s).fab = s.fab := settle_keeps State.fab (fun _ _ _ => rfl) s
@[simp] theorem settle_aud (s : State) : (settle s).aud = s.aud := settle_keeps State.aud (fun _ _ _ => rfl) s
@[simp] theorem settle_cvu (s : State) : (settle s).cvu = s.cvu := settle_keeps State.cvu (fun _ _ _ => rfl) s
@[simp] theorem settle_pow (s : State) : (settle s).pow = s.pow := settle_keeps State.pow (fun _ _ _ => rfl) s

@[simp] theorem settle_word (s : State) (p : Page) (off : Nat) : (settle s).word p off = s.word p off := by
  simp only [State.word, settle_cur]
@[simp] theorem settle_wordP (s : State) (p : Page) (off : Nat) : (settle s).wordP p off = s.wordP p off := by
  simp only [State.wordP, settle_pnd]
@[simp] theorem settle_wordL (s : State) (p : Page) (off : Nat) : (settle s).wordL p off = s.wordL p off := by
  simp only [State.wordL, settle_lat]
@[simp] theorem settle_rd (s : State) (p : Page) (f : Field) : (settle s).rd p f = s.rd p f := by
  simp only [State.rd, settle_word]
@[simp] theorem settle_rdP (s : State) (p : Page) (f : Field) : (settle s).rdP p f = s.rdP p f := by
  simp only [State.rdP, settle_wordP]
@[simp] theorem settle_rdL (s : State) (p : Page) (f : Field) : (settle s).rdL p f = s.rdL p f := by
  simp only [State.rdL, settle_wordL]
@[simp] theorem settle_queue (s : State) (p : Page) : (settle s).queue p = s.queue p := by
  simp only [State.queue, settle_occ]
@[simp] theorem settle_byteAt (s : State) (a : Nat) : (settle s).byteAt a = s.byteAt a := by
  simp only [State.byteAt, settle_mem]

end Sys2Proof.Machine
end

