-- ==== Sys2Proof/Laws/Access.lean ====
section
/-!
SUPPORT. Which page and register an address names, and what a register write and read come to once the access meets no fault.
-/

namespace Sys2Proof.Machine

/-- In a table of rows in ascending order, the row that covers an address is the one found. -/
theorem find_row (r : PageInfo) (l : List PageInfo) (a : Nat) (hr : r ∈ l)
    (hd : l.Pairwise fun x y => x.first + x.count * 0x1000 ≤ y.first) (h : r.first ≤ a ∧ a < r.first + r.count * 0x1000) :
    l.find? (fun r => r.first ≤ a ∧ a < r.first + r.count * 0x1000) = some r := by
  induction l with
  | nil => simp at hr
  | cons x l ih =>
    rw [List.pairwise_cons] at hd
    rcases List.mem_cons.1 hr with rfl | hm
    · rw [List.find?_cons_of_pos]; simpa using h
    · rw [List.find?_cons_of_neg, ih hm hd.2]
      have := hd.1 r hm
      simp; omega

/-- The rows of R34 do not overlap. -/
theorem pageTable_apart : pageTable.Pairwise fun x y => x.first + x.count * 0x1000 ≤ y.first := by decide +kernel

/-- Every page type but the rate-control entry has a row, page aligned and below the 64 MiB of BAR0. -/
theorem pageInfo_mem (t : PageType) (h : t ≠ .rcEntry) :
    pageInfo t ∈ pageTable ∧ (pageInfo t).ty = t ∧ (pageInfo t).first % 0x1000 = 0 ∧
      (pageInfo t).first + (pageInfo t).count * 0x1000 ≤ 2 ^ 26 := by
  revert h; cases t <;> decide +kernel

/-- An address inside a page names that page. -/
theorem pageAt_base (p : Page) (off : Nat) (h : p.inBar0) (ho : off < 0x1000) : pageAt (pageBase p + off) = some p := by
  obtain ⟨hm, ht, _⟩ := pageInfo_mem p.ty h.1
  have hc := h.2
  unfold pageAt
  rw [find_row _ _ _ hm pageTable_apart (by unfold pageBase; omega)]
  simp only [ht]
  have : (pageBase p + off - (pageInfo p.ty).first) / 0x1000 = p.inst := by unfold pageBase; omega
  rw [this]

theorem pageBase_mod (p : Page) (h : p.inBar0) : pageBase p % 0x1000 = 0 := by
  have := (pageInfo_mem p.ty h.1).2.2.1
  unfold pageBase
  omega

theorem pageBase_lt (p : Page) (h : p.inBar0) : pageBase p + 0x1000 ≤ 2 ^ 26 := by
  have := (pageInfo_mem p.ty h.1).2.2.2
  have := h.2
  unfold pageBase
  omega

/-- Different pages, or different offsets in one, have different addresses. -/
theorem base_inj (p q : Page) (off o : Nat) (hp : p.inBar0) (hq : q.inBar0) (h1 : off < 0x1000) (h2 : o < 0x1000)
    (h : pageBase p + off = pageBase q + o) : p = q ∧ off = o := by
  have h3 := pageAt_base p off hp h1
  rw [h, pageAt_base q o hq h2] at h3
  cases h3
  exact ⟨rfl, by omega⟩

/-- The register at an offset of a page. -/
theorem regAt_page (p : Page) (off : Nat) (d : RegDesc) (h : p.inBar0) (ho : off < 0x800) (hd : regDesc p off = some d) :
    regAt (pageBase p + off) = some (p, off, false) := by
  have hm := pageBase_mod p h
  unfold regAt
  rw [pageAt_base p off h (by omega)]
  have h1 : (pageBase p + off) % 0x800 = off := by omega
  have h2 : ¬ 0x800 ≤ (pageBase p + off) % 0x1000 := by omega
  simp only [h1, hd, h2, decide_false]

theorem alignedOf_page (p : Page) (off : Nat) (h : p.inBar0) (ho : off < 0x1000) (h4 : off % 4 = 0) :
    alignedOf (pageBase p + off) = pageBase p + off := by
  have := pageBase_mod p h
  have := pageBase_lt p h
  unfold alignedOf
  omega

/-- A ready access writes the register: bits by their codes, then the register's action (R36). -/
theorem busWrite_ready (s : State) (a : Access) (p : Page) (off : Nat) (d : RegDesc) (v : Word) (k : WriteFinds)
    (hr : Ready s a p) (h : p.inBar0) (ho : off < 0x800) (h4 : off % 4 = 0) (hd : regDesc p off = some d) (hw : d.takesWrite off) :
    s.busWrite a (pageBase p + off) v k = s.regWrite a p off v k fun t => t.rraStart k := by
  obtain ⟨h1, h2, h3, h5⟩ := hr
  have hreg := regAt_page p off d h ho hd
  have hf : s.faultOfWrite a (pageBase p + off) = none := by
    unfold State.faultOfWrite State.writeFault
    rw [hreg]
    simp only [h5, h3, h2, hd, hw, Bool.not_true, Bool.false_eq_true, if_false]
  unfold State.busWrite
  rw [if_pos h1, alignedOf_page p off h (by omega) h4]
  unfold State.writeWith
  rw [hf, hreg]

/-- A ready action is the write of its register with the action's bit set. -/
theorem action_ready (s : State) (a : Access) (p : Page) (off b : Nat) (d : RegDesc) (v : Word) (k : WriteFinds)
    (hr : Ready s a p) (h : p.inBar0) (ho : off < 0x800) (h4 : off % 4 = 0) (hd : regDesc p off = some d) (hw : d.takesWrite off) :
    s.action a p off b v k = s.regWrite a p off (v ||| BitVec.ofNat 32 (2 ^ b)) k fun t => t.rraStart k := by
  unfold State.action
  exact busWrite_ready s a p off d _ k hr h ho h4 hd hw

/-- A readable register answers what the requester sees, after the read's side effects. -/
theorem busRead_ready (s : State) (a : Access) (p : Page) (off : Nat) (d : RegDesc) (hr : Readable s a p) (h : p.inBar0)
    (ho : off < 0x800) (h4 : off % 4 = 0) (hd : regDesc p off = some d) :
    s.busRead a (pageBase p + off) =
      (s.regRead a p off false).1.emit (.readData (BitVec.ofNat 32 (s.regRead a p off false).2)) := by
  obtain ⟨h1, h2⟩ := hr
  have hreg := regAt_page p off d h ho hd
  have hf : s.readFault a (pageBase p + off) = none := by
    unfold State.readFault
    rw [hreg]
    simp only [h2, Bool.true_or, if_true]
  unfold State.busRead
  rw [if_pos h1, alignedOf_page p off h (by omega) h4]
  unfold State.readWith
  rw [hf, hreg]

/-- A faulted write leaves its record and nothing else (R43, R45). -/
theorem busWrite_fault (s : State) (a : Access) (addr c : Nat) (v : Word) (k : WriteFinds) (hu : s.pow.up = true)
    (h : s.faultOfWrite a (alignedOf addr) = some c) : s.busWrite a addr v k = s.faulted a c true (alignedOf addr) := by
  unfold State.busWrite
  rw [if_pos hu]
  unfold State.writeWith
  rw [h]

end Sys2Proof.Machine
end

