-- ==== Sys2Proof/Laws/Memory.lean ====
section
/-!
SUPPORT. The laws of the host pool: a read after a write, every other byte kept, and the canonical form of the sparse memory kept by
every operation that writes it.
-/

namespace Sys2Proof.Machine

/-- Every listed address of a table is above `a`. -/
abbrev Above (a : Nat) (m : List Host.Cell) : Prop := ∀ e ∈ m, a < e.1

theorem wf_cons (a : Nat) (v : BitVec 8) (m : List Host.Cell) :
    Memory.wf ((a, v) :: m) = true ↔ v ≠ 0 ∧ Above a m ∧ Memory.wf m = true := by
  induction m generalizing a v with
  | nil => simp [Memory.wf, Above]
  | cons e m ih =>
    obtain ⟨b, w⟩ := e
    simp only [Memory.wf, Bool.and_eq_true, decide_eq_true_eq, Above, List.forall_mem_cons]
    constructor
    · rintro ⟨⟨hv, hab⟩, hw⟩
      exact ⟨hv, ⟨hab, fun e he => lt_trans hab (((ih b w).1 hw).2.1 e he)⟩, hw⟩
    · rintro ⟨hv, ⟨hab, _⟩, hw⟩
      exact ⟨⟨hv, hab⟩, hw⟩

theorem above_tins {a k : Nat} {v : BitVec 8} {m : List Host.Cell} (h : Above a m) (hk : a < k) : Above a (tins k v m) := by
  induction m with
  | nil => intro e he; simp [tins] at he; subst he; exact hk
  | cons e m ih =>
    obtain ⟨b, w⟩ := e
    simp only [Above, List.forall_mem_cons] at h
    simp only [tins]
    split
    · intro e he
      simp only [List.mem_cons] at he
      rcases he with rfl | rfl | he
      · exact hk
      · exact h.1
      · exact h.2 e he
    · split
      · intro e he
        simp only [List.mem_cons] at he
        rcases he with rfl | he
        · exact hk
        · exact h.2 e he
      · intro e he
        simp only [List.mem_cons] at he
        rcases he with rfl | he
        · exact h.1
        · exact ih h.2 e he

theorem above_tdel {a k : Nat} {m : List Host.Cell} (h : Above a m) : Above a (tdel k m) := by
  induction m with
  | nil => exact h
  | cons e m ih =>
    simp only [Above, List.forall_mem_cons] at h
    simp only [tdel]
    split
    · exact ih h.2
    · intro e he
      simp only [List.mem_cons] at he
      rcases he with rfl | he
      · exact h.1
      · exact ih h.2 e he

theorem wf_tdel {k : Nat} {m : List Host.Cell} (h : Memory.wf m = true) : Memory.wf (tdel k m) = true := by
  induction m with
  | nil => exact h
  | cons e m ih =>
    obtain ⟨b, w⟩ := e
    obtain ⟨hv, hab, hm⟩ := (wf_cons b w m).1 h
    simp only [tdel]
    split
    · exact ih hm
    · exact (wf_cons _ _ _).2 ⟨hv, above_tdel hab, ih hm⟩

theorem wf_tins {k : Nat} {v : BitVec 8} {m : List Host.Cell} (hv : v ≠ 0) (h : Memory.wf m = true) :
    Memory.wf (tins k v m) = true := by
  induction m with
  | nil => simpa [tins, Memory.wf] using hv
  | cons e m ih =>
    obtain ⟨b, w⟩ := e
    obtain ⟨hw, hab, hm⟩ := (wf_cons b w m).1 h
    simp only [tins]
    split
    · next hk =>
      refine (wf_cons _ _ _).2 ⟨hv, ?_, h⟩
      intro e he
      simp only [List.mem_cons] at he
      rcases he with rfl | he
      · exact hk
      · exact lt_trans hk (hab e he)
    · split
      · next hk => exact (wf_cons _ _ _).2 ⟨hv, hk ▸ hab, hm⟩
      · exact (wf_cons _ _ _).2 ⟨hw, above_tins hab (by omega), ih hm⟩

/-- One write keeps the canonical form. -/
theorem wf_tput {k : Nat} {v : BitVec 8} {m : List Host.Cell} (h : Memory.wf m = true) : Memory.wf (tput 0 m k v) = true := by
  unfold tput
  split
  · exact wf_tdel h
  · next hv => exact wf_tins hv h

theorem wf_filter {p : Host.Cell → Bool} {m : List Host.Cell} (h : Memory.wf m = true) : Memory.wf (m.filter p) = true := by
  induction m with
  | nil => exact h
  | cons e m ih =>
    obtain ⟨b, w⟩ := e
    obtain ⟨hv, hab, hm⟩ := (wf_cons b w m).1 h
    simp only [List.filter_cons]
    split
    · exact (wf_cons _ _ _).2 ⟨hv, fun e he => hab e (List.mem_of_mem_filter he), ih hm⟩
    · exact ih hm

/-- A byte stored in the host pool keeps the canonical form. -/
theorem putByte_wf (s : State) (a : Nat) (b : Byte) (h : Memory.wf s.mem = true) : Memory.wf (s.putByte a b).mem = true := by
  unfold State.putByte
  split
  · exact wf_tput h
  · exact h

/-- Bytes stored in the host pool keep the canonical form. -/
theorem putBytes_wf (s : State) (a : Nat) (l : List Byte) (h : Memory.wf s.mem = true) :
    Memory.wf (s.putBytes a l).mem = true := by
  induction l generalizing s a with
  | nil => exact h
  | cons b t ih => exact ih _ _ (putByte_wf s a b h)

/-- The memory after reset is in canonical form. -/
theorem reset_wf : Memory.wf State.reset.mem = true := rfl

/-- A byte of the pool reads as what was stored. -/
theorem byteAt_putByte_same (s : State) (a : Nat) (b : Byte) (h : a < poolSize) : (s.putByte a b).byteAt a = b := by
  simp only [State.putByte, h, if_true, State.byteAt, tget_tput_same]

/-- A stored byte leaves every other byte alone. -/
theorem byteAt_putByte_ne (s : State) {a c : Nat} (b : Byte) (h : c ≠ a) : (s.putByte a b).byteAt c = s.byteAt c := by
  unfold State.putByte
  split
  · exact tget_tput_ne 0 0 s.mem b h
  · rfl

/-- Storing bytes leaves every byte outside them alone. -/
theorem byteAt_putBytes_outside (s : State) (a c : Nat) (l : List Byte) (h : c < a ∨ a + l.length ≤ c) :
    (s.putBytes a l).byteAt c = s.byteAt c := by
  induction l generalizing s a with
  | nil => rfl
  | cons b t ih =>
    simp only [List.length_cons] at h
    rw [State.putBytes, ih _ _ (by omega), byteAt_putByte_ne _ _ (by omega)]

/-- Bytes stored within the pool read as they were stored. -/
theorem byteAt_putBytes_inside (s : State) (a i : Nat) (l : List Byte) (h : i < l.length) (hp : a + l.length ≤ poolSize) :
    (s.putBytes a l).byteAt (a + i) = l[i] := by
  induction l generalizing s a i with
  | nil => simp at h
  | cons b t ih =>
    simp only [List.length_cons] at h hp
    cases i with
    | zero =>
      rw [State.putBytes, byteAt_putBytes_outside _ _ _ _ (by omega), Nat.add_zero, byteAt_putByte_same _ _ _ (by omega)]
      rfl
    | succ i =>
      rw [State.putBytes, show a + (i + 1) = a + 1 + i by omega, ih _ _ _ (by omega) (by omega)]
      rfl

end Sys2Proof.Machine
end

