-- ==== Sys2Proof/Laws/Units.lean ====
section
/-!
SUPPORT. What each unit's own update leaves of the state, one law per field and update; and what a unit reads as after it.
-/

namespace Sys2Proof.Machine

/-! `State.setAud` changes `aud` alone. -/

@[simp] theorem State.setAud_pending (s : State) (p : Nat) (x : AudPort) : (s.setAud p x).pending = s.pending := rfl
@[simp] theorem State.setAud_cur (s : State) (p : Nat) (x : AudPort) : (s.setAud p x).cur = s.cur := rfl
@[simp] theorem State.setAud_pnd (s : State) (p : Nat) (x : AudPort) : (s.setAud p x).pnd = s.pnd := rfl
@[simp] theorem State.setAud_lat (s : State) (p : Nat) (x : AudPort) : (s.setAud p x).lat = s.lat := rfl
@[simp] theorem State.setAud_dirty (s : State) (p : Nat) (x : AudPort) : (s.setAud p x).dirty = s.dirty := rfl
@[simp] theorem State.setAud_occ (s : State) (p : Nat) (x : AudPort) : (s.setAud p x).occ = s.occ := rfl
@[simp] theorem State.setAud_evt (s : State) (p : Nat) (x : AudPort) : (s.setAud p x).evt = s.evt := rfl
@[simp] theorem State.setAud_tm (s : State) (p : Nat) (x : AudPort) : (s.setAud p x).tm = s.tm := rfl
@[simp] theorem State.setAud_cm (s : State) (p : Nat) (x : AudPort) : (s.setAud p x).cm = s.cm := rfl
@[simp] theorem State.setAud_sec (s : State) (p : Nat) (x : AudPort) : (s.setAud p x).sec = s.sec := rfl
@[simp] theorem State.setAud_out (s : State) (p : Nat) (x : AudPort) : (s.setAud p x).out = s.out := rfl
@[simp] theorem State.setAud_mem (s : State) (p : Nat) (x : AudPort) : (s.setAud p x).mem = s.mem := rfl
@[simp] theorem State.setAud_freeCount (s : State) (p : Nat) (x : AudPort) : (s.setAud p x).freeCount = s.freeCount := rfl
@[simp] theorem State.setAud_leases (s : State) (p : Nat) (x : AudPort) : (s.setAud p x).leases = s.leases := rfl
@[simp] theorem State.setAud_ing (s : State) (p : Nat) (x : AudPort) : (s.setAud p x).ing = s.ing := rfl
@[simp] theorem State.setAud_areas (s : State) (p : Nat) (x : AudPort) : (s.setAud p x).areas = s.areas := rfl
@[simp] theorem State.setAud_net (s : State) (p : Nat) (x : AudPort) : (s.setAud p x).net = s.net := rfl
@[simp] theorem State.setAud_sch (s : State) (p : Nat) (x : AudPort) : (s.setAud p x).sch = s.sch := rfl
@[simp] theorem State.setAud_shadow (s : State) (p : Nat) (x : AudPort) : (s.setAud p x).shadow = s.shadow := rfl
@[simp] theorem State.setAud_mate (s : State) (p : Nat) (x : AudPort) : (s.setAud p x).mate = s.mate := rfl
@[simp] theorem State.setAud_ref (s : State) (p : Nat) (x : AudPort) : (s.setAud p x).ref = s.ref := rfl
@[simp] theorem State.setAud_cmp (s : State) (p : Nat) (x : AudPort) : (s.setAud p x).cmp = s.cmp := rfl
@[simp] theorem State.setAud_dec (s : State) (p : Nat) (x : AudPort) : (s.setAud p x).dec = s.dec := rfl
@[simp] theorem State.setAud_scn (s : State) (p : Nat) (x : AudPort) : (s.setAud p x).scn = s.scn := rfl
@[simp] theorem State.setAud_serial (s : State) (p : Nat) (x : AudPort) : (s.setAud p x).serial = s.serial := rfl
@[simp] theorem State.setAud_enc (s : State) (p : Nat) (x : AudPort) : (s.setAud p x).enc = s.enc := rfl
@[simp] theorem State.setAud_mbx (s : State) (p : Nat) (x : AudPort) : (s.setAud p x).mbx = s.mbx := rfl
@[simp] theorem State.setAud_fab (s : State) (p : Nat) (x : AudPort) : (s.setAud p x).fab = s.fab := rfl
@[simp] theorem State.setAud_cvu (s : State) (p : Nat) (x : AudPort) : (s.setAud p x).cvu = s.cvu := rfl
@[simp] theorem State.setAud_pow (s : State) (p : Nat) (x : AudPort) : (s.setAud p x).pow = s.pow := rfl

/-! `State.setRas` changes `cmp` alone. -/

@[simp] theorem State.setRas_pending (s : State) (r : Nat) (x : RasterState) : (s.setRas r x).pending = s.pending := rfl
@[simp] theorem State.setRas_cur (s : State) (r : Nat) (x : RasterState) : (s.setRas r x).cur = s.cur := rfl
@[simp] theorem State.setRas_pnd (s : State) (r : Nat) (x : RasterState) : (s.setRas r x).pnd = s.pnd := rfl
@[simp] theorem State.setRas_lat (s : State) (r : Nat) (x : RasterState) : (s.setRas r x).lat = s.lat := rfl
@[simp] theorem State.setRas_dirty (s : State) (r : Nat) (x : RasterState) : (s.setRas r x).dirty = s.dirty := rfl
@[simp] theorem State.setRas_occ (s : State) (r : Nat) (x : RasterState) : (s.setRas r x).occ = s.occ := rfl
@[simp] theorem State.setRas_evt (s : State) (r : Nat) (x : RasterState) : (s.setRas r x).evt = s.evt := rfl
@[simp] theorem State.setRas_tm (s : State) (r : Nat) (x : RasterState) : (s.setRas r x).tm = s.tm := rfl
@[simp] theorem State.setRas_cm (s : State) (r : Nat) (x : RasterState) : (s.setRas r x).cm = s.cm := rfl
@[simp] theorem State.setRas_sec (s : State) (r : Nat) (x : RasterState) : (s.setRas r x).sec = s.sec := rfl
@[simp] theorem State.setRas_out (s : State) (r : Nat) (x : RasterState) : (s.setRas r x).out = s.out := rfl
@[simp] theorem State.setRas_mem (s : State) (r : Nat) (x : RasterState) : (s.setRas r x).mem = s.mem := rfl
@[simp] theorem State.setRas_freeCount (s : State) (r : Nat) (x : RasterState) : (s.setRas r x).freeCount = s.freeCount := rfl
@[simp] theorem State.setRas_leases (s : State) (r : Nat) (x : RasterState) : (s.setRas r x).leases = s.leases := rfl
@[simp] theorem State.setRas_ing (s : State) (r : Nat) (x : RasterState) : (s.setRas r x).ing = s.ing := rfl
@[simp] theorem State.setRas_areas (s : State) (r : Nat) (x : RasterState) : (s.setRas r x).areas = s.areas := rfl
@[simp] theorem State.setRas_net (s : State) (r : Nat) (x : RasterState) : (s.setRas r x).net = s.net := rfl
@[simp] theorem State.setRas_sch (s : State) (r : Nat) (x : RasterState) : (s.setRas r x).sch = s.sch := rfl
@[simp] theorem State.setRas_shadow (s : State) (r : Nat) (x : RasterState) : (s.setRas r x).shadow = s.shadow := rfl
@[simp] theorem State.setRas_mate (s : State) (r : Nat) (x : RasterState) : (s.setRas r x).mate = s.mate := rfl
@[simp] theorem State.setRas_ref (s : State) (r : Nat) (x : RasterState) : (s.setRas r x).ref = s.ref := rfl
@[simp] theorem State.setRas_dec (s : State) (r : Nat) (x : RasterState) : (s.setRas r x).dec = s.dec := rfl
@[simp] theorem State.setRas_scn (s : State) (r : Nat) (x : RasterState) : (s.setRas r x).scn = s.scn := rfl
@[simp] theorem State.setRas_serial (s : State) (r : Nat) (x : RasterState) : (s.setRas r x).serial = s.serial := rfl
@[simp] theorem State.setRas_enc (s : State) (r : Nat) (x : RasterState) : (s.setRas r x).enc = s.enc := rfl
@[simp] theorem State.setRas_mbx (s : State) (r : Nat) (x : RasterState) : (s.setRas r x).mbx = s.mbx := rfl
@[simp] theorem State.setRas_fab (s : State) (r : Nat) (x : RasterState) : (s.setRas r x).fab = s.fab := rfl
@[simp] theorem State.setRas_aud (s : State) (r : Nat) (x : RasterState) : (s.setRas r x).aud = s.aud := rfl
@[simp] theorem State.setRas_cvu (s : State) (r : Nat) (x : RasterState) : (s.setRas r x).cvu = s.cvu := rfl
@[simp] theorem State.setRas_pow (s : State) (r : Nat) (x : RasterState) : (s.setRas r x).pow = s.pow := rfl
@[simp] theorem State.setRas_ras_same (s : State) (r : Nat) (x : RasterState) : (s.setRas r x).ras r = x :=
  tget_tput_same _ _ _ _
theorem State.setRas_ras_ne (s : State) (r : Nat) (x : RasterState) (j : Nat) (h : j ≠ r) : (s.setRas r x).ras j = s.ras j :=
  tget_tput_ne _ _ _ _ h

/-! `State.setDec` changes `dec` alone. -/

@[simp] theorem State.setDec_pending (s : State) (d : Nat) (x : DecStream) : (s.setDec d x).pending = s.pending := rfl
@[simp] theorem State.setDec_cur (s : State) (d : Nat) (x : DecStream) : (s.setDec d x).cur = s.cur := rfl
@[simp] theorem State.setDec_pnd (s : State) (d : Nat) (x : DecStream) : (s.setDec d x).pnd = s.pnd := rfl
@[simp] theorem State.setDec_lat (s : State) (d : Nat) (x : DecStream) : (s.setDec d x).lat = s.lat := rfl
@[simp] theorem State.setDec_dirty (s : State) (d : Nat) (x : DecStream) : (s.setDec d x).dirty = s.dirty := rfl
@[simp] theorem State.setDec_occ (s : State) (d : Nat) (x : DecStream) : (s.setDec d x).occ = s.occ := rfl
@[simp] theorem State.setDec_evt (s : State) (d : Nat) (x : DecStream) : (s.setDec d x).evt = s.evt := rfl
@[simp] theorem State.setDec_tm (s : State) (d : Nat) (x : DecStream) : (s.setDec d x).tm = s.tm := rfl
@[simp] theorem State.setDec_cm (s : State) (d : Nat) (x : DecStream) : (s.setDec d x).cm = s.cm := rfl
@[simp] theorem State.setDec_sec (s : State) (d : Nat) (x : DecStream) : (s.setDec d x).sec = s.sec := rfl
@[simp] theorem State.setDec_out (s : State) (d : Nat) (x : DecStream) : (s.setDec d x).out = s.out := rfl
@[simp] theorem State.setDec_mem (s : State) (d : Nat) (x : DecStream) : (s.setDec d x).mem = s.mem := rfl
@[simp] theorem State.setDec_freeCount (s : State) (d : Nat) (x : DecStream) : (s.setDec d x).freeCount = s.freeCount := rfl
@[simp] theorem State.setDec_leases (s : State) (d : Nat) (x : DecStream) : (s.setDec d x).leases = s.leases := rfl
@[simp] theorem State.setDec_ing (s : State) (d : Nat) (x : DecStream) : (s.setDec d x).ing = s.ing := rfl
@[simp] theorem State.setDec_areas (s : State) (d : Nat) (x : DecStream) : (s.setDec d x).areas = s.areas := rfl
@[simp] theorem State.setDec_net (s : State) (d : Nat) (x : DecStream) : (s.setDec d x).net = s.net := rfl
@[simp] theorem State.setDec_sch (s : State) (d : Nat) (x : DecStream) : (s.setDec d x).sch = s.sch := rfl
@[simp] theorem State.setDec_shadow (s : State) (d : Nat) (x : DecStream) : (s.setDec d x).shadow = s.shadow := rfl
@[simp] theorem State.setDec_mate (s : State) (d : Nat) (x : DecStream) : (s.setDec d x).mate = s.mate := rfl
@[simp] theorem State.setDec_ref (s : State) (d : Nat) (x : DecStream) : (s.setDec d x).ref = s.ref := rfl
@[simp] theorem State.setDec_cmp (s : State) (d : Nat) (x : DecStream) : (s.setDec d x).cmp = s.cmp := rfl
@[simp] theorem State.setDec_scn (s : State) (d : Nat) (x : DecStream) : (s.setDec d x).scn = s.scn := rfl
@[simp] theorem State.setDec_serial (s : State) (d : Nat) (x : DecStream) : (s.setDec d x).serial = s.serial := rfl
@[simp] theorem State.setDec_enc (s : State) (d : Nat) (x : DecStream) : (s.setDec d x).enc = s.enc := rfl
@[simp] theorem State.setDec_mbx (s : State) (d : Nat) (x : DecStream) : (s.setDec d x).mbx = s.mbx := rfl
@[simp] theorem State.setDec_fab (s : State) (d : Nat) (x : DecStream) : (s.setDec d x).fab = s.fab := rfl
@[simp] theorem State.setDec_aud (s : State) (d : Nat) (x : DecStream) : (s.setDec d x).aud = s.aud := rfl
@[simp] theorem State.setDec_cvu (s : State) (d : Nat) (x : DecStream) : (s.setDec d x).cvu = s.cvu := rfl
@[simp] theorem State.setDec_pow (s : State) (d : Nat) (x : DecStream) : (s.setDec d x).pow = s.pow := rfl
@[simp] theorem State.setDec_decStream_same (s : State) (d : Nat) (x : DecStream) : (s.setDec d x).decStream d = x :=
  tget_tput_same _ _ _ _
theorem State.setDec_decStream_ne (s : State) (d : Nat) (x : DecStream) (j : Nat) (h : j ≠ d) : (s.setDec d x).decStream j = s.decStream j :=
  tget_tput_ne _ _ _ _ h

/-! `State.setUnit` changes `cvu` alone. -/

@[simp] theorem State.setUnit_pending (s : State) (n : Nat) (x : CvuUnit) : (s.setUnit n x).pending = s.pending := rfl
@[simp] theorem State.setUnit_cur (s : State) (n : Nat) (x : CvuUnit) : (s.setUnit n x).cur = s.cur := rfl
@[simp] theorem State.setUnit_pnd (s : State) (n : Nat) (x : CvuUnit) : (s.setUnit n x).pnd = s.pnd := rfl
@[simp] theorem State.setUnit_lat (s : State) (n : Nat) (x : CvuUnit) : (s.setUnit n x).lat = s.lat := rfl
@[simp] theorem State.setUnit_dirty (s : State) (n : Nat) (x : CvuUnit) : (s.setUnit n x).dirty = s.dirty := rfl
@[simp] theorem State.setUnit_occ (s : State) (n : Nat) (x : CvuUnit) : (s.setUnit n x).occ = s.occ := rfl
@[simp] theorem State.setUnit_evt (s : State) (n : Nat) (x : CvuUnit) : (s.setUnit n x).evt = s.evt := rfl
@[simp] theorem State.setUnit_tm (s : State) (n : Nat) (x : CvuUnit) : (s.setUnit n x).tm = s.tm := rfl
@[simp] theorem State.setUnit_cm (s : State) (n : Nat) (x : CvuUnit) : (s.setUnit n x).cm = s.cm := rfl
@[simp] theorem State.setUnit_sec (s : State) (n : Nat) (x : CvuUnit) : (s.setUnit n x).sec = s.sec := rfl
@[simp] theorem State.setUnit_out (s : State) (n : Nat) (x : CvuUnit) : (s.setUnit n x).out = s.out := rfl
@[simp] theorem State.setUnit_mem (s : State) (n : Nat) (x : CvuUnit) : (s.setUnit n x).mem = s.mem := rfl
@[simp] theorem State.setUnit_freeCount (s : State) (n : Nat) (x : CvuUnit) : (s.setUnit n x).freeCount = s.freeCount := rfl
@[simp] theorem State.setUnit_leases (s : State) (n : Nat) (x : CvuUnit) : (s.setUnit n x).leases = s.leases := rfl
@[simp] theorem State.setUnit_ing (s : State) (n : Nat) (x : CvuUnit) : (s.setUnit n x).ing = s.ing := rfl
@[simp] theorem State.setUnit_areas (s : State) (n : Nat) (x : CvuUnit) : (s.setUnit n x).areas = s.areas := rfl
@[simp] theorem State.setUnit_net (s : State) (n : Nat) (x : CvuUnit) : (s.setUnit n x).net = s.net := rfl
@[simp] theorem State.setUnit_sch (s : State) (n : Nat) (x : CvuUnit) : (s.setUnit n x).sch = s.sch := rfl
@[simp] theorem State.setUnit_shadow (s : State) (n : Nat) (x : CvuUnit) : (s.setUnit n x).shadow = s.shadow := rfl
@[simp] theorem State.setUnit_mate (s : State) (n : Nat) (x : CvuUnit) : (s.setUnit n x).mate = s.mate := rfl
@[simp] theorem State.setUnit_ref (s : State) (n : Nat) (x : CvuUnit) : (s.setUnit n x).ref = s.ref := rfl
@[simp] theorem State.setUnit_cmp (s : State) (n : Nat) (x : CvuUnit) : (s.setUnit n x).cmp = s.cmp := rfl
@[simp] theorem State.setUnit_dec (s : State) (n : Nat) (x : CvuUnit) : (s.setUnit n x).dec = s.dec := rfl
@[simp] theorem State.setUnit_scn (s : State) (n : Nat) (x : CvuUnit) : (s.setUnit n x).scn = s.scn := rfl
@[simp] theorem State.setUnit_serial (s : State) (n : Nat) (x : CvuUnit) : (s.setUnit n x).serial = s.serial := rfl
@[simp] theorem State.setUnit_enc (s : State) (n : Nat) (x : CvuUnit) : (s.setUnit n x).enc = s.enc := rfl
@[simp] theorem State.setUnit_mbx (s : State) (n : Nat) (x : CvuUnit) : (s.setUnit n x).mbx = s.mbx := rfl
@[simp] theorem State.setUnit_fab (s : State) (n : Nat) (x : CvuUnit) : (s.setUnit n x).fab = s.fab := rfl
@[simp] theorem State.setUnit_aud (s : State) (n : Nat) (x : CvuUnit) : (s.setUnit n x).aud = s.aud := rfl
@[simp] theorem State.setUnit_pow (s : State) (n : Nat) (x : CvuUnit) : (s.setUnit n x).pow = s.pow := rfl
@[simp] theorem State.setUnit_unit_same (s : State) (n : Nat) (x : CvuUnit) : (s.setUnit n x).unit n = x :=
  tget_tput_same _ _ _ _
theorem State.setUnit_unit_ne (s : State) (n : Nat) (x : CvuUnit) (j : Nat) (h : j ≠ n) : (s.setUnit n x).unit j = s.unit j :=
  tget_tput_ne _ _ _ _ h

/-! `State.setChan` changes `enc` alone. -/

@[simp] theorem State.setChan_pending (s : State) (c : Nat) (x : EncChannel) : (s.setChan c x).pending = s.pending := rfl
@[simp] theorem State.setChan_cur (s : State) (c : Nat) (x : EncChannel) : (s.setChan c x).cur = s.cur := rfl
@[simp] theorem State.setChan_pnd (s : State) (c : Nat) (x : EncChannel) : (s.setChan c x).pnd = s.pnd := rfl
@[simp] theorem State.setChan_lat (s : State) (c : Nat) (x : EncChannel) : (s.setChan c x).lat = s.lat := rfl
@[simp] theorem State.setChan_dirty (s : State) (c : Nat) (x : EncChannel) : (s.setChan c x).dirty = s.dirty := rfl
@[simp] theorem State.setChan_occ (s : State) (c : Nat) (x : EncChannel) : (s.setChan c x).occ = s.occ := rfl
@[simp] theorem State.setChan_evt (s : State) (c : Nat) (x : EncChannel) : (s.setChan c x).evt = s.evt := rfl
@[simp] theorem State.setChan_tm (s : State) (c : Nat) (x : EncChannel) : (s.setChan c x).tm = s.tm := rfl
@[simp] theorem State.setChan_cm (s : State) (c : Nat) (x : EncChannel) : (s.setChan c x).cm = s.cm := rfl
@[simp] theorem State.setChan_sec (s : State) (c : Nat) (x : EncChannel) : (s.setChan c x).sec = s.sec := rfl
@[simp] theorem State.setChan_out (s : State) (c : Nat) (x : EncChannel) : (s.setChan c x).out = s.out := rfl
@[simp] theorem State.setChan_mem (s : State) (c : Nat) (x : EncChannel) : (s.setChan c x).mem = s.mem := rfl
@[simp] theorem State.setChan_freeCount (s : State) (c : Nat) (x : EncChannel) : (s.setChan c x).freeCount = s.freeCount := rfl
@[simp] theorem State.setChan_leases (s : State) (c : Nat) (x : EncChannel) : (s.setChan c x).leases = s.leases := rfl
@[simp] theorem State.setChan_ing (s : State) (c : Nat) (x : EncChannel) : (s.setChan c x).ing = s.ing := rfl
@[simp] theorem State.setChan_areas (s : State) (c : Nat) (x : EncChannel) : (s.setChan c x).areas = s.areas := rfl
@[simp] theorem State.setChan_net (s : State) (c : Nat) (x : EncChannel) : (s.setChan c x).net = s.net := rfl
@[simp] theorem State.setChan_sch (s : State) (c : Nat) (x : EncChannel) : (s.setChan c x).sch = s.sch := rfl
@[simp] theorem State.setChan_shadow (s : State) (c : Nat) (x : EncChannel) : (s.setChan c x).shadow = s.shadow := rfl
@[simp] theorem State.setChan_mate (s : State) (c : Nat) (x : EncChannel) : (s.setChan c x).mate = s.mate := rfl
@[simp] theorem State.setChan_ref (s : State) (c : Nat) (x : EncChannel) : (s.setChan c x).ref = s.ref := rfl
@[simp] theorem State.setChan_cmp (s : State) (c : Nat) (x : EncChannel) : (s.setChan c x).cmp = s.cmp := rfl
@[simp] theorem State.setChan_dec (s : State) (c : Nat) (x : EncChannel) : (s.setChan c x).dec = s.dec := rfl
@[simp] theorem State.setChan_scn (s : State) (c : Nat) (x : EncChannel) : (s.setChan c x).scn = s.scn := rfl
@[simp] theorem State.setChan_serial (s : State) (c : Nat) (x : EncChannel) : (s.setChan c x).serial = s.serial := rfl
@[simp] theorem State.setChan_mbx (s : State) (c : Nat) (x : EncChannel) : (s.setChan c x).mbx = s.mbx := rfl
@[simp] theorem State.setChan_fab (s : State) (c : Nat) (x : EncChannel) : (s.setChan c x).fab = s.fab := rfl
@[simp] theorem State.setChan_aud (s : State) (c : Nat) (x : EncChannel) : (s.setChan c x).aud = s.aud := rfl
@[simp] theorem State.setChan_cvu (s : State) (c : Nat) (x : EncChannel) : (s.setChan c x).cvu = s.cvu := rfl
@[simp] theorem State.setChan_pow (s : State) (c : Nat) (x : EncChannel) : (s.setChan c x).pow = s.pow := rfl
@[simp] theorem State.setChan_chan_same (s : State) (c : Nat) (x : EncChannel) : (s.setChan c x).chan c = x :=
  tget_tput_same _ _ _ _
theorem State.setChan_chan_ne (s : State) (c : Nat) (x : EncChannel) (j : Nat) (h : j ≠ c) : (s.setChan c x).chan j = s.chan j :=
  tget_tput_ne _ _ _ _ h

/-! `State.setObs` changes `enc` alone. -/

@[simp] theorem State.setObs_pending (s : State) (kind i w v : Nat) : (s.setObs kind i w v).pending = s.pending := rfl
@[simp] theorem State.setObs_cur (s : State) (kind i w v : Nat) : (s.setObs kind i w v).cur = s.cur := rfl
@[simp] theorem State.setObs_pnd (s : State) (kind i w v : Nat) : (s.setObs kind i w v).pnd = s.pnd := rfl
@[simp] theorem State.setObs_lat (s : State) (kind i w v : Nat) : (s.setObs kind i w v).lat = s.lat := rfl
@[simp] theorem State.setObs_dirty (s : State) (kind i w v : Nat) : (s.setObs kind i w v).dirty = s.dirty := rfl
@[simp] theorem State.setObs_occ (s : State) (kind i w v : Nat) : (s.setObs kind i w v).occ = s.occ := rfl
@[simp] theorem State.setObs_evt (s : State) (kind i w v : Nat) : (s.setObs kind i w v).evt = s.evt := rfl
@[simp] theorem State.setObs_tm (s : State) (kind i w v : Nat) : (s.setObs kind i w v).tm = s.tm := rfl
@[simp] theorem State.setObs_cm (s : State) (kind i w v : Nat) : (s.setObs kind i w v).cm = s.cm := rfl
@[simp] theorem State.setObs_sec (s : State) (kind i w v : Nat) : (s.setObs kind i w v).sec = s.sec := rfl
@[simp] theorem State.setObs_out (s : State) (kind i w v : Nat) : (s.setObs kind i w v).out = s.out := rfl
@[simp] theorem State.setObs_mem (s : State) (kind i w v : Nat) : (s.setObs kind i w v).mem = s.mem := rfl
@[simp] theorem State.setObs_freeCount (s : State) (kind i w v : Nat) : (s.setObs kind i w v).freeCount = s.freeCount := rfl
@[simp] theorem State.setObs_leases (s : State) (kind i w v : Nat) : (s.setObs kind i w v).leases = s.leases := rfl
@[simp] theorem State.setObs_ing (s : State) (kind i w v : Nat) : (s.setObs kind i w v).ing = s.ing := rfl
@[simp] theorem State.setObs_areas (s : State) (kind i w v : Nat) : (s.setObs kind i w v).areas = s.areas := rfl
@[simp] theorem State.setObs_net (s : State) (kind i w v : Nat) : (s.setObs kind i w v).net = s.net := rfl
@[simp] theorem State.setObs_sch (s : State) (kind i w v : Nat) : (s.setObs kind i w v).sch = s.sch := rfl
@[simp] theorem State.setObs_shadow (s : State) (kind i w v : Nat) : (s.setObs kind i w v).shadow = s.shadow := rfl
@[simp] theorem State.setObs_mate (s : State) (kind i w v : Nat) : (s.setObs kind i w v).mate = s.mate := rfl
@[simp] theorem State.setObs_ref (s : State) (kind i w v : Nat) : (s.setObs kind i w v).ref = s.ref := rfl
@[simp] theorem State.setObs_cmp (s : State) (kind i w v : Nat) : (s.setObs kind i w v).cmp = s.cmp := rfl
@[simp] theorem State.setObs_dec (s : State) (kind i w v : Nat) : (s.setObs kind i w v).dec = s.dec := rfl
@[simp] theorem State.setObs_scn (s : State) (kind i w v : Nat) : (s.setObs kind i w v).scn = s.scn := rfl
@[simp] theorem State.setObs_serial (s : State) (kind i w v : Nat) : (s.setObs kind i w v).serial = s.serial := rfl
@[simp] theorem State.setObs_mbx (s : State) (kind i w v : Nat) : (s.setObs kind i w v).mbx = s.mbx := rfl
@[simp] theorem State.setObs_fab (s : State) (kind i w v : Nat) : (s.setObs kind i w v).fab = s.fab := rfl
@[simp] theorem State.setObs_aud (s : State) (kind i w v : Nat) : (s.setObs kind i w v).aud = s.aud := rfl
@[simp] theorem State.setObs_cvu (s : State) (kind i w v : Nat) : (s.setObs kind i w v).cvu = s.cvu := rfl
@[simp] theorem State.setObs_pow (s : State) (kind i w v : Nat) : (s.setObs kind i w v).pow = s.pow := rfl

/-! `State.setFport` changes `fab` alone. -/

@[simp] theorem State.setFport_pending (s : State) (p : Nat) (x : FabPort) : (s.setFport p x).pending = s.pending := rfl
@[simp] theorem State.setFport_cur (s : State) (p : Nat) (x : FabPort) : (s.setFport p x).cur = s.cur := rfl
@[simp] theorem State.setFport_pnd (s : State) (p : Nat) (x : FabPort) : (s.setFport p x).pnd = s.pnd := rfl
@[simp] theorem State.setFport_lat (s : State) (p : Nat) (x : FabPort) : (s.setFport p x).lat = s.lat := rfl
@[simp] theorem State.setFport_dirty (s : State) (p : Nat) (x : FabPort) : (s.setFport p x).dirty = s.dirty := rfl
@[simp] theorem State.setFport_occ (s : State) (p : Nat) (x : FabPort) : (s.setFport p x).occ = s.occ := rfl
@[simp] theorem State.setFport_evt (s : State) (p : Nat) (x : FabPort) : (s.setFport p x).evt = s.evt := rfl
@[simp] theorem State.setFport_tm (s : State) (p : Nat) (x : FabPort) : (s.setFport p x).tm = s.tm := rfl
@[simp] theorem State.setFport_cm (s : State) (p : Nat) (x : FabPort) : (s.setFport p x).cm = s.cm := rfl
@[simp] theorem State.setFport_sec (s : State) (p : Nat) (x : FabPort) : (s.setFport p x).sec = s.sec := rfl
@[simp] theorem State.setFport_out (s : State) (p : Nat) (x : FabPort) : (s.setFport p x).out = s.out := rfl
@[simp] theorem State.setFport_mem (s : State) (p : Nat) (x : FabPort) : (s.setFport p x).mem = s.mem := rfl
@[simp] theorem State.setFport_freeCount (s : State) (p : Nat) (x : FabPort) : (s.setFport p x).freeCount = s.freeCount := rfl
@[simp] theorem State.setFport_leases (s : State) (p : Nat) (x : FabPort) : (s.setFport p x).leases = s.leases := rfl
@[simp] theorem State.setFport_ing (s : State) (p : Nat) (x : FabPort) : (s.setFport p x).ing = s.ing := rfl
@[simp] theorem State.setFport_areas (s : State) (p : Nat) (x : FabPort) : (s.setFport p x).areas = s.areas := rfl
@[simp] theorem State.setFport_net (s : State) (p : Nat) (x : FabPort) : (s.setFport p x).net = s.net := rfl
@[simp] theorem State.setFport_sch (s : State) (p : Nat) (x : FabPort) : (s.setFport p x).sch = s.sch := rfl
@[simp] theorem State.setFport_shadow (s : State) (p : Nat) (x : FabPort) : (s.setFport p x).shadow = s.shadow := rfl
@[simp] theorem State.setFport_mate (s : State) (p : Nat) (x : FabPort) : (s.setFport p x).mate = s.mate := rfl
@[simp] theorem State.setFport_ref (s : State) (p : Nat) (x : FabPort) : (s.setFport p x).ref = s.ref := rfl
@[simp] theorem State.setFport_cmp (s : State) (p : Nat) (x : FabPort) : (s.setFport p x).cmp = s.cmp := rfl
@[simp] theorem State.setFport_dec (s : State) (p : Nat) (x : FabPort) : (s.setFport p x).dec = s.dec := rfl
@[simp] theorem State.setFport_scn (s : State) (p : Nat) (x : FabPort) : (s.setFport p x).scn = s.scn := rfl
@[simp] theorem State.setFport_serial (s : State) (p : Nat) (x : FabPort) : (s.setFport p x).serial = s.serial := rfl
@[simp] theorem State.setFport_enc (s : State) (p : Nat) (x : FabPort) : (s.setFport p x).enc = s.enc := rfl
@[simp] theorem State.setFport_mbx (s : State) (p : Nat) (x : FabPort) : (s.setFport p x).mbx = s.mbx := rfl
@[simp] theorem State.setFport_aud (s : State) (p : Nat) (x : FabPort) : (s.setFport p x).aud = s.aud := rfl
@[simp] theorem State.setFport_cvu (s : State) (p : Nat) (x : FabPort) : (s.setFport p x).cvu = s.cvu := rfl
@[simp] theorem State.setFport_pow (s : State) (p : Nat) (x : FabPort) : (s.setFport p x).pow = s.pow := rfl
@[simp] theorem State.setFport_fport_same (s : State) (p : Nat) (x : FabPort) : (s.setFport p x).fport p = x :=
  tget_tput_same _ _ _ _
theorem State.setFport_fport_ne (s : State) (p : Nat) (x : FabPort) (j : Nat) (h : j ≠ p) : (s.setFport p x).fport j = s.fport j :=
  tget_tput_ne _ _ _ _ h

/-! `State.setStream` changes `ing` alone. -/

@[simp] theorem State.setStream_pending (s : State) (i : Nat) (x : IngestStream) : (s.setStream i x).pending = s.pending := rfl
@[simp] theorem State.setStream_cur (s : State) (i : Nat) (x : IngestStream) : (s.setStream i x).cur = s.cur := rfl
@[simp] theorem State.setStream_pnd (s : State) (i : Nat) (x : IngestStream) : (s.setStream i x).pnd = s.pnd := rfl
@[simp] theorem State.setStream_lat (s : State) (i : Nat) (x : IngestStream) : (s.setStream i x).lat = s.lat := rfl
@[simp] theorem State.setStream_dirty (s : State) (i : Nat) (x : IngestStream) : (s.setStream i x).dirty = s.dirty := rfl
@[simp] theorem State.setStream_occ (s : State) (i : Nat) (x : IngestStream) : (s.setStream i x).occ = s.occ := rfl
@[simp] theorem State.setStream_evt (s : State) (i : Nat) (x : IngestStream) : (s.setStream i x).evt = s.evt := rfl
@[simp] theorem State.setStream_tm (s : State) (i : Nat) (x : IngestStream) : (s.setStream i x).tm = s.tm := rfl
@[simp] theorem State.setStream_cm (s : State) (i : Nat) (x : IngestStream) : (s.setStream i x).cm = s.cm := rfl
@[simp] theorem State.setStream_sec (s : State) (i : Nat) (x : IngestStream) : (s.setStream i x).sec = s.sec := rfl
@[simp] theorem State.setStream_out (s : State) (i : Nat) (x : IngestStream) : (s.setStream i x).out = s.out := rfl
@[simp] theorem State.setStream_mem (s : State) (i : Nat) (x : IngestStream) : (s.setStream i x).mem = s.mem := rfl
@[simp] theorem State.setStream_freeCount (s : State) (i : Nat) (x : IngestStream) : (s.setStream i x).freeCount = s.freeCount := rfl
@[simp] theorem State.setStream_leases (s : State) (i : Nat) (x : IngestStream) : (s.setStream i x).leases = s.leases := rfl
@[simp] theorem State.setStream_areas (s : State) (i : Nat) (x : IngestStream) : (s.setStream i x).areas = s.areas := rfl
@[simp] theorem State.setStream_net (s : State) (i : Nat) (x : IngestStream) : (s.setStream i x).net = s.net := rfl
@[simp] theorem State.setStream_sch (s : State) (i : Nat) (x : IngestStream) : (s.setStream i x).sch = s.sch := rfl
@[simp] theorem State.setStream_shadow (s : State) (i : Nat) (x : IngestStream) : (s.setStream i x).shadow = s.shadow := rfl
@[simp] theorem State.setStream_mate (s : State) (i : Nat) (x : IngestStream) : (s.setStream i x).mate = s.mate := rfl
@[simp] theorem State.setStream_ref (s : State) (i : Nat) (x : IngestStream) : (s.setStream i x).ref = s.ref := rfl
@[simp] theorem State.setStream_cmp (s : State) (i : Nat) (x : IngestStream) : (s.setStream i x).cmp = s.cmp := rfl
@[simp] theorem State.setStream_dec (s : State) (i : Nat) (x : IngestStream) : (s.setStream i x).dec = s.dec := rfl
@[simp] theorem State.setStream_scn (s : State) (i : Nat) (x : IngestStream) : (s.setStream i x).scn = s.scn := rfl
@[simp] theorem State.setStream_serial (s : State) (i : Nat) (x : IngestStream) : (s.setStream i x).serial = s.serial := rfl
@[simp] theorem State.setStream_enc (s : State) (i : Nat) (x : IngestStream) : (s.setStream i x).enc = s.enc := rfl
@[simp] theorem State.setStream_mbx (s : State) (i : Nat) (x : IngestStream) : (s.setStream i x).mbx = s.mbx := rfl
@[simp] theorem State.setStream_fab (s : State) (i : Nat) (x : IngestStream) : (s.setStream i x).fab = s.fab := rfl
@[simp] theorem State.setStream_aud (s : State) (i : Nat) (x : IngestStream) : (s.setStream i x).aud = s.aud := rfl
@[simp] theorem State.setStream_cvu (s : State) (i : Nat) (x : IngestStream) : (s.setStream i x).cvu = s.cvu := rfl
@[simp] theorem State.setStream_pow (s : State) (i : Nat) (x : IngestStream) : (s.setStream i x).pow = s.pow := rfl
@[simp] theorem State.setStream_stream_same (s : State) (i : Nat) (x : IngestStream) : (s.setStream i x).stream i = x :=
  tget_tput_same _ _ _ _
theorem State.setStream_stream_ne (s : State) (i : Nat) (x : IngestStream) (j : Nat) (h : j ≠ i) : (s.setStream i x).stream j = s.stream j :=
  tget_tput_ne _ _ _ _ h

/-! `State.setLay` changes `cmp` alone. -/

@[simp] theorem State.setLay_pending (s : State) (l : Nat) (x : LayerState) : (s.setLay l x).pending = s.pending := rfl
@[simp] theorem State.setLay_cur (s : State) (l : Nat) (x : LayerState) : (s.setLay l x).cur = s.cur := rfl
@[simp] theorem State.setLay_pnd (s : State) (l : Nat) (x : LayerState) : (s.setLay l x).pnd = s.pnd := rfl
@[simp] theorem State.setLay_lat (s : State) (l : Nat) (x : LayerState) : (s.setLay l x).lat = s.lat := rfl
@[simp] theorem State.setLay_dirty (s : State) (l : Nat) (x : LayerState) : (s.setLay l x).dirty = s.dirty := rfl
@[simp] theorem State.setLay_occ (s : State) (l : Nat) (x : LayerState) : (s.setLay l x).occ = s.occ := rfl
@[simp] theorem State.setLay_evt (s : State) (l : Nat) (x : LayerState) : (s.setLay l x).evt = s.evt := rfl
@[simp] theorem State.setLay_tm (s : State) (l : Nat) (x : LayerState) : (s.setLay l x).tm = s.tm := rfl
@[simp] theorem State.setLay_cm (s : State) (l : Nat) (x : LayerState) : (s.setLay l x).cm = s.cm := rfl
@[simp] theorem State.setLay_sec (s : State) (l : Nat) (x : LayerState) : (s.setLay l x).sec = s.sec := rfl
@[simp] theorem State.setLay_out (s : State) (l : Nat) (x : LayerState) : (s.setLay l x).out = s.out := rfl
@[simp] theorem State.setLay_mem (s : State) (l : Nat) (x : LayerState) : (s.setLay l x).mem = s.mem := rfl
@[simp] theorem State.setLay_freeCount (s : State) (l : Nat) (x : LayerState) : (s.setLay l x).freeCount = s.freeCount := rfl
@[simp] theorem State.setLay_leases (s : State) (l : Nat) (x : LayerState) : (s.setLay l x).leases = s.leases := rfl
@[simp] theorem State.setLay_ing (s : State) (l : Nat) (x : LayerState) : (s.setLay l x).ing = s.ing := rfl
@[simp] theorem State.setLay_areas (s : State) (l : Nat) (x : LayerState) : (s.setLay l x).areas = s.areas := rfl
@[simp] theorem State.setLay_net (s : State) (l : Nat) (x : LayerState) : (s.setLay l x).net = s.net := rfl
@[simp] theorem State.setLay_sch (s : State) (l : Nat) (x : LayerState) : (s.setLay l x).sch = s.sch := rfl
@[simp] theorem State.setLay_shadow (s : State) (l : Nat) (x : LayerState) : (s.setLay l x).shadow = s.shadow := rfl
@[simp] theorem State.setLay_mate (s : State) (l : Nat) (x : LayerState) : (s.setLay l x).mate = s.mate := rfl
@[simp] theorem State.setLay_ref (s : State) (l : Nat) (x : LayerState) : (s.setLay l x).ref = s.ref := rfl
@[simp] theorem State.setLay_dec (s : State) (l : Nat) (x : LayerState) : (s.setLay l x).dec = s.dec := rfl
@[simp] theorem State.setLay_scn (s : State) (l : Nat) (x : LayerState) : (s.setLay l x).scn = s.scn := rfl
@[simp] theorem State.setLay_serial (s : State) (l : Nat) (x : LayerState) : (s.setLay l x).serial = s.serial := rfl
@[simp] theorem State.setLay_enc (s : State) (l : Nat) (x : LayerState) : (s.setLay l x).enc = s.enc := rfl
@[simp] theorem State.setLay_mbx (s : State) (l : Nat) (x : LayerState) : (s.setLay l x).mbx = s.mbx := rfl
@[simp] theorem State.setLay_fab (s : State) (l : Nat) (x : LayerState) : (s.setLay l x).fab = s.fab := rfl
@[simp] theorem State.setLay_aud (s : State) (l : Nat) (x : LayerState) : (s.setLay l x).aud = s.aud := rfl
@[simp] theorem State.setLay_cvu (s : State) (l : Nat) (x : LayerState) : (s.setLay l x).cvu = s.cvu := rfl
@[simp] theorem State.setLay_pow (s : State) (l : Nat) (x : LayerState) : (s.setLay l x).pow = s.pow := rfl
@[simp] theorem State.setLay_lay_same (s : State) (l : Nat) (x : LayerState) : (s.setLay l x).lay l = x :=
  tget_tput_same _ _ _ _
theorem State.setLay_lay_ne (s : State) (l : Nat) (x : LayerState) (j : Nat) (h : j ≠ l) : (s.setLay l x).lay j = s.lay j :=
  tget_tput_ne _ _ _ _ h

/-! `State.setPtp` changes `net` alone. -/

@[simp] theorem State.setPtp_pending (s : State) (k : Nat) (x : PtpState) : (s.setPtp k x).pending = s.pending := rfl
@[simp] theorem State.setPtp_cur (s : State) (k : Nat) (x : PtpState) : (s.setPtp k x).cur = s.cur := rfl
@[simp] theorem State.setPtp_pnd (s : State) (k : Nat) (x : PtpState) : (s.setPtp k x).pnd = s.pnd := rfl
@[simp] theorem State.setPtp_lat (s : State) (k : Nat) (x : PtpState) : (s.setPtp k x).lat = s.lat := rfl
@[simp] theorem State.setPtp_dirty (s : State) (k : Nat) (x : PtpState) : (s.setPtp k x).dirty = s.dirty := rfl
@[simp] theorem State.setPtp_occ (s : State) (k : Nat) (x : PtpState) : (s.setPtp k x).occ = s.occ := rfl
@[simp] theorem State.setPtp_evt (s : State) (k : Nat) (x : PtpState) : (s.setPtp k x).evt = s.evt := rfl
@[simp] theorem State.setPtp_tm (s : State) (k : Nat) (x : PtpState) : (s.setPtp k x).tm = s.tm := rfl
@[simp] theorem State.setPtp_cm (s : State) (k : Nat) (x : PtpState) : (s.setPtp k x).cm = s.cm := rfl
@[simp] theorem State.setPtp_sec (s : State) (k : Nat) (x : PtpState) : (s.setPtp k x).sec = s.sec := rfl
@[simp] theorem State.setPtp_out (s : State) (k : Nat) (x : PtpState) : (s.setPtp k x).out = s.out := rfl
@[simp] theorem State.setPtp_mem (s : State) (k : Nat) (x : PtpState) : (s.setPtp k x).mem = s.mem := rfl
@[simp] theorem State.setPtp_freeCount (s : State) (k : Nat) (x : PtpState) : (s.setPtp k x).freeCount = s.freeCount := rfl
@[simp] theorem State.setPtp_leases (s : State) (k : Nat) (x : PtpState) : (s.setPtp k x).leases = s.leases := rfl
@[simp] theorem State.setPtp_ing (s : State) (k : Nat) (x : PtpState) : (s.setPtp k x).ing = s.ing := rfl
@[simp] theorem State.setPtp_areas (s : State) (k : Nat) (x : PtpState) : (s.setPtp k x).areas = s.areas := rfl
@[simp] theorem State.setPtp_sch (s : State) (k : Nat) (x : PtpState) : (s.setPtp k x).sch = s.sch := rfl
@[simp] theorem State.setPtp_shadow (s : State) (k : Nat) (x : PtpState) : (s.setPtp k x).shadow = s.shadow := rfl
@[simp] theorem State.setPtp_mate (s : State) (k : Nat) (x : PtpState) : (s.setPtp k x).mate = s.mate := rfl
@[simp] theorem State.setPtp_ref (s : State) (k : Nat) (x : PtpState) : (s.setPtp k x).ref = s.ref := rfl
@[simp] theorem State.setPtp_cmp (s : State) (k : Nat) (x : PtpState) : (s.setPtp k x).cmp = s.cmp := rfl
@[simp] theorem State.setPtp_dec (s : State) (k : Nat) (x : PtpState) : (s.setPtp k x).dec = s.dec := rfl
@[simp] theorem State.setPtp_scn (s : State) (k : Nat) (x : PtpState) : (s.setPtp k x).scn = s.scn := rfl
@[simp] theorem State.setPtp_serial (s : State) (k : Nat) (x : PtpState) : (s.setPtp k x).serial = s.serial := rfl
@[simp] theorem State.setPtp_enc (s : State) (k : Nat) (x : PtpState) : (s.setPtp k x).enc = s.enc := rfl
@[simp] theorem State.setPtp_mbx (s : State) (k : Nat) (x : PtpState) : (s.setPtp k x).mbx = s.mbx := rfl
@[simp] theorem State.setPtp_fab (s : State) (k : Nat) (x : PtpState) : (s.setPtp k x).fab = s.fab := rfl
@[simp] theorem State.setPtp_aud (s : State) (k : Nat) (x : PtpState) : (s.setPtp k x).aud = s.aud := rfl
@[simp] theorem State.setPtp_cvu (s : State) (k : Nat) (x : PtpState) : (s.setPtp k x).cvu = s.cvu := rfl
@[simp] theorem State.setPtp_pow (s : State) (k : Nat) (x : PtpState) : (s.setPtp k x).pow = s.pow := rfl

/-! `State.setSlack` changes `pow` alone. -/

@[simp] theorem State.setSlack_pending (s : State) (d : Nat) (x : DomSlack) : (s.setSlack d x).pending = s.pending := rfl
@[simp] theorem State.setSlack_cur (s : State) (d : Nat) (x : DomSlack) : (s.setSlack d x).cur = s.cur := rfl
@[simp] theorem State.setSlack_pnd (s : State) (d : Nat) (x : DomSlack) : (s.setSlack d x).pnd = s.pnd := rfl
@[simp] theorem State.setSlack_lat (s : State) (d : Nat) (x : DomSlack) : (s.setSlack d x).lat = s.lat := rfl
@[simp] theorem State.setSlack_dirty (s : State) (d : Nat) (x : DomSlack) : (s.setSlack d x).dirty = s.dirty := rfl
@[simp] theorem State.setSlack_occ (s : State) (d : Nat) (x : DomSlack) : (s.setSlack d x).occ = s.occ := rfl
@[simp] theorem State.setSlack_evt (s : State) (d : Nat) (x : DomSlack) : (s.setSlack d x).evt = s.evt := rfl
@[simp] theorem State.setSlack_tm (s : State) (d : Nat) (x : DomSlack) : (s.setSlack d x).tm = s.tm := rfl
@[simp] theorem State.setSlack_cm (s : State) (d : Nat) (x : DomSlack) : (s.setSlack d x).cm = s.cm := rfl
@[simp] theorem State.setSlack_sec (s : State) (d : Nat) (x : DomSlack) : (s.setSlack d x).sec = s.sec := rfl
@[simp] theorem State.setSlack_out (s : State) (d : Nat) (x : DomSlack) : (s.setSlack d x).out = s.out := rfl
@[simp] theorem State.setSlack_mem (s : State) (d : Nat) (x : DomSlack) : (s.setSlack d x).mem = s.mem := rfl
@[simp] theorem State.setSlack_freeCount (s : State) (d : Nat) (x : DomSlack) : (s.setSlack d x).freeCount = s.freeCount := rfl
@[simp] theorem State.setSlack_leases (s : State) (d : Nat) (x : DomSlack) : (s.setSlack d x).leases = s.leases := rfl
@[simp] theorem State.setSlack_ing (s : State) (d : Nat) (x : DomSlack) : (s.setSlack d x).ing = s.ing := rfl
@[simp] theorem State.setSlack_areas (s : State) (d : Nat) (x : DomSlack) : (s.setSlack d x).areas = s.areas := rfl
@[simp] theorem State.setSlack_net (s : State) (d : Nat) (x : DomSlack) : (s.setSlack d x).net = s.net := rfl
@[simp] theorem State.setSlack_sch (s : State) (d : Nat) (x : DomSlack) : (s.setSlack d x).sch = s.sch := rfl
@[simp] theorem State.setSlack_shadow (s : State) (d : Nat) (x : DomSlack) : (s.setSlack d x).shadow = s.shadow := rfl
@[simp] theorem State.setSlack_mate (s : State) (d : Nat) (x : DomSlack) : (s.setSlack d x).mate = s.mate := rfl
@[simp] theorem State.setSlack_ref (s : State) (d : Nat) (x : DomSlack) : (s.setSlack d x).ref = s.ref := rfl
@[simp] theorem State.setSlack_cmp (s : State) (d : Nat) (x : DomSlack) : (s.setSlack d x).cmp = s.cmp := rfl
@[simp] theorem State.setSlack_dec (s : State) (d : Nat) (x : DomSlack) : (s.setSlack d x).dec = s.dec := rfl
@[simp] theorem State.setSlack_scn (s : State) (d : Nat) (x : DomSlack) : (s.setSlack d x).scn = s.scn := rfl
@[simp] theorem State.setSlack_serial (s : State) (d : Nat) (x : DomSlack) : (s.setSlack d x).serial = s.serial := rfl
@[simp] theorem State.setSlack_enc (s : State) (d : Nat) (x : DomSlack) : (s.setSlack d x).enc = s.enc := rfl
@[simp] theorem State.setSlack_mbx (s : State) (d : Nat) (x : DomSlack) : (s.setSlack d x).mbx = s.mbx := rfl
@[simp] theorem State.setSlack_fab (s : State) (d : Nat) (x : DomSlack) : (s.setSlack d x).fab = s.fab := rfl
@[simp] theorem State.setSlack_aud (s : State) (d : Nat) (x : DomSlack) : (s.setSlack d x).aud = s.aud := rfl
@[simp] theorem State.setSlack_cvu (s : State) (d : Nat) (x : DomSlack) : (s.setSlack d x).cvu = s.cvu := rfl
@[simp] theorem State.setSlack_slack_same (s : State) (d : Nat) (x : DomSlack) : (s.setSlack d x).slack d = x :=
  tget_tput_same _ _ _ _
theorem State.setSlack_slack_ne (s : State) (d : Nat) (x : DomSlack) (j : Nat) (h : j ≠ d) : (s.setSlack d x).slack j = s.slack j :=
  tget_tput_ne _ _ _ _ h

/-! `State.setTlane` changes `scn` alone. -/

@[simp] theorem State.setTlane_pending (s : State) (n : Nat) (x : TileLane) : (s.setTlane n x).pending = s.pending := rfl
@[simp] theorem State.setTlane_cur (s : State) (n : Nat) (x : TileLane) : (s.setTlane n x).cur = s.cur := rfl
@[simp] theorem State.setTlane_pnd (s : State) (n : Nat) (x : TileLane) : (s.setTlane n x).pnd = s.pnd := rfl
@[simp] theorem State.setTlane_lat (s : State) (n : Nat) (x : TileLane) : (s.setTlane n x).lat = s.lat := rfl
@[simp] theorem State.setTlane_dirty (s : State) (n : Nat) (x : TileLane) : (s.setTlane n x).dirty = s.dirty := rfl
@[simp] theorem State.setTlane_occ (s : State) (n : Nat) (x : TileLane) : (s.setTlane n x).occ = s.occ := rfl
@[simp] theorem State.setTlane_evt (s : State) (n : Nat) (x : TileLane) : (s.setTlane n x).evt = s.evt := rfl
@[simp] theorem State.setTlane_tm (s : State) (n : Nat) (x : TileLane) : (s.setTlane n x).tm = s.tm := rfl
@[simp] theorem State.setTlane_cm (s : State) (n : Nat) (x : TileLane) : (s.setTlane n x).cm = s.cm := rfl
@[simp] theorem State.setTlane_sec (s : State) (n : Nat) (x : TileLane) : (s.setTlane n x).sec = s.sec := rfl
@[simp] theorem State.setTlane_out (s : State) (n : Nat) (x : TileLane) : (s.setTlane n x).out = s.out := rfl
@[simp] theorem State.setTlane_mem (s : State) (n : Nat) (x : TileLane) : (s.setTlane n x).mem = s.mem := rfl
@[simp] theorem State.setTlane_freeCount (s : State) (n : Nat) (x : TileLane) : (s.setTlane n x).freeCount = s.freeCount := rfl
@[simp] theorem State.setTlane_leases (s : State) (n : Nat) (x : TileLane) : (s.setTlane n x).leases = s.leases := rfl
@[simp] theorem State.setTlane_ing (s : State) (n : Nat) (x : TileLane) : (s.setTlane n x).ing = s.ing := rfl
@[simp] theorem State.setTlane_areas (s : State) (n : Nat) (x : TileLane) : (s.setTlane n x).areas = s.areas := rfl
@[simp] theorem State.setTlane_net (s : State) (n : Nat) (x : TileLane) : (s.setTlane n x).net = s.net := rfl
@[simp] theorem State.setTlane_sch (s : State) (n : Nat) (x : TileLane) : (s.setTlane n x).sch = s.sch := rfl
@[simp] theorem State.setTlane_shadow (s : State) (n : Nat) (x : TileLane) : (s.setTlane n x).shadow = s.shadow := rfl
@[simp] theorem State.setTlane_mate (s : State) (n : Nat) (x : TileLane) : (s.setTlane n x).mate = s.mate := rfl
@[simp] theorem State.setTlane_ref (s : State) (n : Nat) (x : TileLane) : (s.setTlane n x).ref = s.ref := rfl
@[simp] theorem State.setTlane_cmp (s : State) (n : Nat) (x : TileLane) : (s.setTlane n x).cmp = s.cmp := rfl
@[simp] theorem State.setTlane_dec (s : State) (n : Nat) (x : TileLane) : (s.setTlane n x).dec = s.dec := rfl
@[simp] theorem State.setTlane_serial (s : State) (n : Nat) (x : TileLane) : (s.setTlane n x).serial = s.serial := rfl
@[simp] theorem State.setTlane_enc (s : State) (n : Nat) (x : TileLane) : (s.setTlane n x).enc = s.enc := rfl
@[simp] theorem State.setTlane_mbx (s : State) (n : Nat) (x : TileLane) : (s.setTlane n x).mbx = s.mbx := rfl
@[simp] theorem State.setTlane_fab (s : State) (n : Nat) (x : TileLane) : (s.setTlane n x).fab = s.fab := rfl
@[simp] theorem State.setTlane_aud (s : State) (n : Nat) (x : TileLane) : (s.setTlane n x).aud = s.aud := rfl
@[simp] theorem State.setTlane_cvu (s : State) (n : Nat) (x : TileLane) : (s.setTlane n x).cvu = s.cvu := rfl
@[simp] theorem State.setTlane_pow (s : State) (n : Nat) (x : TileLane) : (s.setTlane n x).pow = s.pow := rfl
@[simp] theorem State.setTlane_tlane_same (s : State) (n : Nat) (x : TileLane) : (s.setTlane n x).tlane n = x :=
  tget_tput_same _ _ _ _
theorem State.setTlane_tlane_ne (s : State) (n : Nat) (x : TileLane) (j : Nat) (h : j ≠ n) : (s.setTlane n x).tlane j = s.tlane j :=
  tget_tput_ne _ _ _ _ h

/-! `State.setSerial` changes `serial` alone. -/

@[simp] theorem State.setSerial_pending (s : State) (wide : Bool) (n : Nat) (x : LaneState) : (s.setSerial wide n x).pending = s.pending := rfl
@[simp] theorem State.setSerial_cur (s : State) (wide : Bool) (n : Nat) (x : LaneState) : (s.setSerial wide n x).cur = s.cur := rfl
@[simp] theorem State.setSerial_pnd (s : State) (wide : Bool) (n : Nat) (x : LaneState) : (s.setSerial wide n x).pnd = s.pnd := rfl
@[simp] theorem State.setSerial_lat (s : State) (wide : Bool) (n : Nat) (x : LaneState) : (s.setSerial wide n x).lat = s.lat := rfl
@[simp] theorem State.setSerial_dirty (s : State) (wide : Bool) (n : Nat) (x : LaneState) : (s.setSerial wide n x).dirty = s.dirty := rfl
@[simp] theorem State.setSerial_occ (s : State) (wide : Bool) (n : Nat) (x : LaneState) : (s.setSerial wide n x).occ = s.occ := rfl
@[simp] theorem State.setSerial_evt (s : State) (wide : Bool) (n : Nat) (x : LaneState) : (s.setSerial wide n x).evt = s.evt := rfl
@[simp] theorem State.setSerial_tm (s : State) (wide : Bool) (n : Nat) (x : LaneState) : (s.setSerial wide n x).tm = s.tm := rfl
@[simp] theorem State.setSerial_cm (s : State) (wide : Bool) (n : Nat) (x : LaneState) : (s.setSerial wide n x).cm = s.cm := rfl
@[simp] theorem State.setSerial_sec (s : State) (wide : Bool) (n : Nat) (x : LaneState) : (s.setSerial wide n x).sec = s.sec := rfl
@[simp] theorem State.setSerial_out (s : State) (wide : Bool) (n : Nat) (x : LaneState) : (s.setSerial wide n x).out = s.out := rfl
@[simp] theorem State.setSerial_mem (s : State) (wide : Bool) (n : Nat) (x : LaneState) : (s.setSerial wide n x).mem = s.mem := rfl
@[simp] theorem State.setSerial_freeCount (s : State) (wide : Bool) (n : Nat) (x : LaneState) : (s.setSerial wide n x).freeCount = s.freeCount := rfl
@[simp] theorem State.setSerial_leases (s : State) (wide : Bool) (n : Nat) (x : LaneState) : (s.setSerial wide n x).leases = s.leases := rfl
@[simp] theorem State.setSerial_ing (s : State) (wide : Bool) (n : Nat) (x : LaneState) : (s.setSerial wide n x).ing = s.ing := rfl
@[simp] theorem State.setSerial_areas (s : State) (wide : Bool) (n : Nat) (x : LaneState) : (s.setSerial wide n x).areas = s.areas := rfl
@[simp] theorem State.setSerial_net (s : State) (wide : Bool) (n : Nat) (x : LaneState) : (s.setSerial wide n x).net = s.net := rfl
@[simp] theorem State.setSerial_sch (s : State) (wide : Bool) (n : Nat) (x : LaneState) : (s.setSerial wide n x).sch = s.sch := rfl
@[simp] theorem State.setSerial_shadow (s : State) (wide : Bool) (n : Nat) (x : LaneState) : (s.setSerial wide n x).shadow = s.shadow := rfl
@[simp] theorem State.setSerial_mate (s : State) (wide : Bool) (n : Nat) (x : LaneState) : (s.setSerial wide n x).mate = s.mate := rfl
@[simp] theorem State.setSerial_ref (s : State) (wide : Bool) (n : Nat) (x : LaneState) : (s.setSerial wide n x).ref = s.ref := rfl
@[simp] theorem State.setSerial_cmp (s : State) (wide : Bool) (n : Nat) (x : LaneState) : (s.setSerial wide n x).cmp = s.cmp := rfl
@[simp] theorem State.setSerial_dec (s : State) (wide : Bool) (n : Nat) (x : LaneState) : (s.setSerial wide n x).dec = s.dec := rfl
@[simp] theorem State.setSerial_scn (s : State) (wide : Bool) (n : Nat) (x : LaneState) : (s.setSerial wide n x).scn = s.scn := rfl
@[simp] theorem State.setSerial_enc (s : State) (wide : Bool) (n : Nat) (x : LaneState) : (s.setSerial wide n x).enc = s.enc := rfl
@[simp] theorem State.setSerial_mbx (s : State) (wide : Bool) (n : Nat) (x : LaneState) : (s.setSerial wide n x).mbx = s.mbx := rfl
@[simp] theorem State.setSerial_fab (s : State) (wide : Bool) (n : Nat) (x : LaneState) : (s.setSerial wide n x).fab = s.fab := rfl
@[simp] theorem State.setSerial_aud (s : State) (wide : Bool) (n : Nat) (x : LaneState) : (s.setSerial wide n x).aud = s.aud := rfl
@[simp] theorem State.setSerial_cvu (s : State) (wide : Bool) (n : Nat) (x : LaneState) : (s.setSerial wide n x).cvu = s.cvu := rfl
@[simp] theorem State.setSerial_pow (s : State) (wide : Bool) (n : Nat) (x : LaneState) : (s.setSerial wide n x).pow = s.pow := rfl

/-! `State.setQueueState` changes `sch` alone. -/

@[simp] theorem State.setQueueState_pending (s : State) (k : Nat) (x : QueueState) : (s.setQueueState k x).pending = s.pending := rfl
@[simp] theorem State.setQueueState_cur (s : State) (k : Nat) (x : QueueState) : (s.setQueueState k x).cur = s.cur := rfl
@[simp] theorem State.setQueueState_pnd (s : State) (k : Nat) (x : QueueState) : (s.setQueueState k x).pnd = s.pnd := rfl
@[simp] theorem State.setQueueState_lat (s : State) (k : Nat) (x : QueueState) : (s.setQueueState k x).lat = s.lat := rfl
@[simp] theorem State.setQueueState_dirty (s : State) (k : Nat) (x : QueueState) : (s.setQueueState k x).dirty = s.dirty := rfl
@[simp] theorem State.setQueueState_occ (s : State) (k : Nat) (x : QueueState) : (s.setQueueState k x).occ = s.occ := rfl
@[simp] theorem State.setQueueState_evt (s : State) (k : Nat) (x : QueueState) : (s.setQueueState k x).evt = s.evt := rfl
@[simp] theorem State.setQueueState_tm (s : State) (k : Nat) (x : QueueState) : (s.setQueueState k x).tm = s.tm := rfl
@[simp] theorem State.setQueueState_cm (s : State) (k : Nat) (x : QueueState) : (s.setQueueState k x).cm = s.cm := rfl
@[simp] theorem State.setQueueState_sec (s : State) (k : Nat) (x : QueueState) : (s.setQueueState k x).sec = s.sec := rfl
@[simp] theorem State.setQueueState_out (s : State) (k : Nat) (x : QueueState) : (s.setQueueState k x).out = s.out := rfl
@[simp] theorem State.setQueueState_mem (s : State) (k : Nat) (x : QueueState) : (s.setQueueState k x).mem = s.mem := rfl
@[simp] theorem State.setQueueState_freeCount (s : State) (k : Nat) (x : QueueState) : (s.setQueueState k x).freeCount = s.freeCount := rfl
@[simp] theorem State.setQueueState_leases (s : State) (k : Nat) (x : QueueState) : (s.setQueueState k x).leases = s.leases := rfl
@[simp] theorem State.setQueueState_ing (s : State) (k : Nat) (x : QueueState) : (s.setQueueState k x).ing = s.ing := rfl
@[simp] theorem State.setQueueState_areas (s : State) (k : Nat) (x : QueueState) : (s.setQueueState k x).areas = s.areas := rfl
@[simp] theorem State.setQueueState_net (s : State) (k : Nat) (x : QueueState) : (s.setQueueState k x).net = s.net := rfl
@[simp] theorem State.setQueueState_shadow (s : State) (k : Nat) (x : QueueState) : (s.setQueueState k x).shadow = s.shadow := rfl
@[simp] theorem State.setQueueState_mate (s : State) (k : Nat) (x : QueueState) : (s.setQueueState k x).mate = s.mate := rfl
@[simp] theorem State.setQueueState_ref (s : State) (k : Nat) (x : QueueState) : (s.setQueueState k x).ref = s.ref := rfl
@[simp] theorem State.setQueueState_cmp (s : State) (k : Nat) (x : QueueState) : (s.setQueueState k x).cmp = s.cmp := rfl
@[simp] theorem State.setQueueState_dec (s : State) (k : Nat) (x : QueueState) : (s.setQueueState k x).dec = s.dec := rfl
@[simp] theorem State.setQueueState_scn (s : State) (k : Nat) (x : QueueState) : (s.setQueueState k x).scn = s.scn := rfl
@[simp] theorem State.setQueueState_serial (s : State) (k : Nat) (x : QueueState) : (s.setQueueState k x).serial = s.serial := rfl
@[simp] theorem State.setQueueState_enc (s : State) (k : Nat) (x : QueueState) : (s.setQueueState k x).enc = s.enc := rfl
@[simp] theorem State.setQueueState_mbx (s : State) (k : Nat) (x : QueueState) : (s.setQueueState k x).mbx = s.mbx := rfl
@[simp] theorem State.setQueueState_fab (s : State) (k : Nat) (x : QueueState) : (s.setQueueState k x).fab = s.fab := rfl
@[simp] theorem State.setQueueState_aud (s : State) (k : Nat) (x : QueueState) : (s.setQueueState k x).aud = s.aud := rfl
@[simp] theorem State.setQueueState_cvu (s : State) (k : Nat) (x : QueueState) : (s.setQueueState k x).cvu = s.cvu := rfl
@[simp] theorem State.setQueueState_pow (s : State) (k : Nat) (x : QueueState) : (s.setQueueState k x).pow = s.pow := rfl
@[simp] theorem State.setQueueState_queueState_same (s : State) (k : Nat) (x : QueueState) : (s.setQueueState k x).queueState k = x :=
  tget_tput_same _ _ _ _
theorem State.setQueueState_queueState_ne (s : State) (k : Nat) (x : QueueState) (j : Nat) (h : j ≠ k) : (s.setQueueState k x).queueState j = s.queueState j :=
  tget_tput_ne _ _ _ _ h

/-! `State.setNode` changes `sch` alone. -/

@[simp] theorem State.setNode_pending (s : State) (n : Nat) (x : NodeState) : (s.setNode n x).pending = s.pending := rfl
@[simp] theorem State.setNode_cur (s : State) (n : Nat) (x : NodeState) : (s.setNode n x).cur = s.cur := rfl
@[simp] theorem State.setNode_pnd (s : State) (n : Nat) (x : NodeState) : (s.setNode n x).pnd = s.pnd := rfl
@[simp] theorem State.setNode_lat (s : State) (n : Nat) (x : NodeState) : (s.setNode n x).lat = s.lat := rfl
@[simp] theorem State.setNode_dirty (s : State) (n : Nat) (x : NodeState) : (s.setNode n x).dirty = s.dirty := rfl
@[simp] theorem State.setNode_occ (s : State) (n : Nat) (x : NodeState) : (s.setNode n x).occ = s.occ := rfl
@[simp] theorem State.setNode_evt (s : State) (n : Nat) (x : NodeState) : (s.setNode n x).evt = s.evt := rfl
@[simp] theorem State.setNode_tm (s : State) (n : Nat) (x : NodeState) : (s.setNode n x).tm = s.tm := rfl
@[simp] theorem State.setNode_cm (s : State) (n : Nat) (x : NodeState) : (s.setNode n x).cm = s.cm := rfl
@[simp] theorem State.setNode_sec (s : State) (n : Nat) (x : NodeState) : (s.setNode n x).sec = s.sec := rfl
@[simp] theorem State.setNode_out (s : State) (n : Nat) (x : NodeState) : (s.setNode n x).out = s.out := rfl
@[simp] theorem State.setNode_mem (s : State) (n : Nat) (x : NodeState) : (s.setNode n x).mem = s.mem := rfl
@[simp] theorem State.setNode_freeCount (s : State) (n : Nat) (x : NodeState) : (s.setNode n x).freeCount = s.freeCount := rfl
@[simp] theorem State.setNode_leases (s : State) (n : Nat) (x : NodeState) : (s.setNode n x).leases = s.leases := rfl
@[simp] theorem State.setNode_ing (s : State) (n : Nat) (x : NodeState) : (s.setNode n x).ing = s.ing := rfl
@[simp] theorem State.setNode_areas (s : State) (n : Nat) (x : NodeState) : (s.setNode n x).areas = s.areas := rfl
@[simp] theorem State.setNode_net (s : State) (n : Nat) (x : NodeState) : (s.setNode n x).net = s.net := rfl
@[simp] theorem State.setNode_shadow (s : State) (n : Nat) (x : NodeState) : (s.setNode n x).shadow = s.shadow := rfl
@[simp] theorem State.setNode_mate (s : State) (n : Nat) (x : NodeState) : (s.setNode n x).mate = s.mate := rfl
@[simp] theorem State.setNode_ref (s : State) (n : Nat) (x : NodeState) : (s.setNode n x).ref = s.ref := rfl
@[simp] theorem State.setNode_cmp (s : State) (n : Nat) (x : NodeState) : (s.setNode n x).cmp = s.cmp := rfl
@[simp] theorem State.setNode_dec (s : State) (n : Nat) (x : NodeState) : (s.setNode n x).dec = s.dec := rfl
@[simp] theorem State.setNode_scn (s : State) (n : Nat) (x : NodeState) : (s.setNode n x).scn = s.scn := rfl
@[simp] theorem State.setNode_serial (s : State) (n : Nat) (x : NodeState) : (s.setNode n x).serial = s.serial := rfl
@[simp] theorem State.setNode_enc (s : State) (n : Nat) (x : NodeState) : (s.setNode n x).enc = s.enc := rfl
@[simp] theorem State.setNode_mbx (s : State) (n : Nat) (x : NodeState) : (s.setNode n x).mbx = s.mbx := rfl
@[simp] theorem State.setNode_fab (s : State) (n : Nat) (x : NodeState) : (s.setNode n x).fab = s.fab := rfl
@[simp] theorem State.setNode_aud (s : State) (n : Nat) (x : NodeState) : (s.setNode n x).aud = s.aud := rfl
@[simp] theorem State.setNode_cvu (s : State) (n : Nat) (x : NodeState) : (s.setNode n x).cvu = s.cvu := rfl
@[simp] theorem State.setNode_pow (s : State) (n : Nat) (x : NodeState) : (s.setNode n x).pow = s.pow := rfl

/-! `State.setPort` changes `sch` alone. -/

@[simp] theorem State.setPort_pending (s : State) (p : Nat) (x : PortSched) : (s.setPort p x).pending = s.pending := rfl
@[simp] theorem State.setPort_cur (s : State) (p : Nat) (x : PortSched) : (s.setPort p x).cur = s.cur := rfl
@[simp] theorem State.setPort_pnd (s : State) (p : Nat) (x : PortSched) : (s.setPort p x).pnd = s.pnd := rfl
@[simp] theorem State.setPort_lat (s : State) (p : Nat) (x : PortSched) : (s.setPort p x).lat = s.lat := rfl
@[simp] theorem State.setPort_dirty (s : State) (p : Nat) (x : PortSched) : (s.setPort p x).dirty = s.dirty := rfl
@[simp] theorem State.setPort_occ (s : State) (p : Nat) (x : PortSched) : (s.setPort p x).occ = s.occ := rfl
@[simp] theorem State.setPort_evt (s : State) (p : Nat) (x : PortSched) : (s.setPort p x).evt = s.evt := rfl
@[simp] theorem State.setPort_tm (s : State) (p : Nat) (x : PortSched) : (s.setPort p x).tm = s.tm := rfl
@[simp] theorem State.setPort_cm (s : State) (p : Nat) (x : PortSched) : (s.setPort p x).cm = s.cm := rfl
@[simp] theorem State.setPort_sec (s : State) (p : Nat) (x : PortSched) : (s.setPort p x).sec = s.sec := rfl
@[simp] theorem State.setPort_out (s : State) (p : Nat) (x : PortSched) : (s.setPort p x).out = s.out := rfl
@[simp] theorem State.setPort_mem (s : State) (p : Nat) (x : PortSched) : (s.setPort p x).mem = s.mem := rfl
@[simp] theorem State.setPort_freeCount (s : State) (p : Nat) (x : PortSched) : (s.setPort p x).freeCount = s.freeCount := rfl
@[simp] theorem State.setPort_leases (s : State) (p : Nat) (x : PortSched) : (s.setPort p x).leases = s.leases := rfl
@[simp] theorem State.setPort_ing (s : State) (p : Nat) (x : PortSched) : (s.setPort p x).ing = s.ing := rfl
@[simp] theorem State.setPort_areas (s : State) (p : Nat) (x : PortSched) : (s.setPort p x).areas = s.areas := rfl
@[simp] theorem State.setPort_net (s : State) (p : Nat) (x : PortSched) : (s.setPort p x).net = s.net := rfl
@[simp] theorem State.setPort_shadow (s : State) (p : Nat) (x : PortSched) : (s.setPort p x).shadow = s.shadow := rfl
@[simp] theorem State.setPort_mate (s : State) (p : Nat) (x : PortSched) : (s.setPort p x).mate = s.mate := rfl
@[simp] theorem State.setPort_ref (s : State) (p : Nat) (x : PortSched) : (s.setPort p x).ref = s.ref := rfl
@[simp] theorem State.setPort_cmp (s : State) (p : Nat) (x : PortSched) : (s.setPort p x).cmp = s.cmp := rfl
@[simp] theorem State.setPort_dec (s : State) (p : Nat) (x : PortSched) : (s.setPort p x).dec = s.dec := rfl
@[simp] theorem State.setPort_scn (s : State) (p : Nat) (x : PortSched) : (s.setPort p x).scn = s.scn := rfl
@[simp] theorem State.setPort_serial (s : State) (p : Nat) (x : PortSched) : (s.setPort p x).serial = s.serial := rfl
@[simp] theorem State.setPort_enc (s : State) (p : Nat) (x : PortSched) : (s.setPort p x).enc = s.enc := rfl
@[simp] theorem State.setPort_mbx (s : State) (p : Nat) (x : PortSched) : (s.setPort p x).mbx = s.mbx := rfl
@[simp] theorem State.setPort_fab (s : State) (p : Nat) (x : PortSched) : (s.setPort p x).fab = s.fab := rfl
@[simp] theorem State.setPort_aud (s : State) (p : Nat) (x : PortSched) : (s.setPort p x).aud = s.aud := rfl
@[simp] theorem State.setPort_cvu (s : State) (p : Nat) (x : PortSched) : (s.setPort p x).cvu = s.cvu := rfl
@[simp] theorem State.setPort_pow (s : State) (p : Nat) (x : PortSched) : (s.setPort p x).pow = s.pow := rfl

end Sys2Proof.Machine
end

