-- ==== Sys2Proof/WellFormed.lean ====
section
/-!
DEFINITION. Which commands are ones that the block's surroundings can send: every operand that names a page, a port, a lane, an
engine or a register lies in the range that the spec gives it (R11, R34), and every access's path is one of R45.
-/

namespace Sys2Proof

/-- A BAR0 offset of an aligned access (R10, R34). -/
def regOk (addr : Nat) : Bool := addr < 2 ^ 26 && addr % 4 = 0

/-- The first offset of one of the 4 KiB pages of BAR0. -/
def pageOk (base : Nat) : Bool := base < 2 ^ 26 && base % 0x1000 = 0

/-- An access's path: a node ID has 12 bits, and a token's sub-unit is one of R45. -/
def accessOk (a : Access) : Bool :=
  match a.path with
  | .fabric n => n < 4096
  | .token u n => u < 4 && n < 4096
  | _ => true

/-- A fabric frame's header fields fit their widths (R368). -/
def frameOk (f : FabFrame) : Bool :=
  f.dst < 65536 && f.src < 65536 && f.hops < 256 && f.vc < 8 && f.tag < 65536 && f.seq < 2 ^ 32 && f.frameNo < 2 ^ 48

/-- A lane: wide 0-127, tile 0-895 (R14). -/
def laneOk (wide : Bool) (n : Nat) : Bool := n < if wide then 128 else 896

/-- An engine by the coding of R174: pixel engines 0-95, entropy engines 128-143. -/
def engineOk (u : Nat) : Bool := u < 96 || (128 ≤ u && u < 144)

/-- A unit that runs golden vectors: an engine, a composition pipeline 0xC0-0xC7 or a decode pipeline 0xE0-0xE7. -/
def selftestOk (u : Nat) : Bool := engineOk u || (0xC0 ≤ u && u < 0xC8) || (0xE0 ≤ u && u < 0xE8)

/-- The command is one that can be sent. -/
def Instr.wf (i : Instr) : Bool :=
  match i with
  | .registerWrite a addr _ _ => accessOk a && regOk addr
  | .faultedRead a addr => accessOk a && regOk addr
  | .occReadHiPop a base => accessOk a && pageOk base
  | .clearLost a base => accessOk a && pageOk base
  | .commitGroupWrite a base _ => accessOk a && pageOk base
  | .frameNoLoRead a => accessOk a
  | .evtRouteWrite a m _ => accessOk a && m < 128
  | .vectorAck a _ _ => accessOk a
  | .evtCtlWrite a _ => accessOk a
  | .fabEvtDestWrite a _ => accessOk a
  | .fabricEventSend => true
  | .bar2Write a bytes => a + bytes.length ≤ 2 ^ 37
  | .bar2Read a n => a + n ≤ 2 ^ 37
  | .beatBoundary _ => true
  | .beatRateSwitch => true
  | .rasterLineStart r => r < 32
  | .toneCurveCompute r => r < 32
  | .frameLeaseRelease r _ => r < 32
  | .composeError r kind => r < 32 && kind < 3
  | .commitArm a _ => accessOk a
  | .commitValidationDone => true
  | .commitCancel a _ => accessOk a
  | .fabPrepareReceived p f => p < 16 && frameOk f
  | .fabVoteReceived p f => p < 16 && frameOk f
  | .fabVoteDeadline => true
  | .fabDecisionRepeat => true
  | .fabDecisionReceived p f => p < 16 && frameOk f
  | .fabAckReceived p f => p < 16 && frameOk f
  | .fabCommitApply => true
  | .snapStart a _ => accessOk a
  | .snapAbort a _ => accessOk a
  | .snapMessageReceived p f => p < 16 && frameOk f
  | .snapCapture => true
  | .snapWriteDone => true
  | .ethFrameReceived p _ _ => p < 64
  | .ingestFramePublish i => i < 64
  | .ingestNoSignal i => i < 64
  | .ingestPathDown i _ => i < 64
  | .coefDataWrite a x _ => accessOk a && x < 48
  | .lutDataWrite a r _ => accessOk a && r < 32
  | .statsCaptureRead a r => accessOk a && r < 32
  | .rowHandoff c _ => c < 128
  | .pixelJobDispatch _ => true
  | .affinityWaitExpiry _ => true
  | .analysisPublish e _ => e < 96
  | .pixelJobComplete x e _ _ => x < 4 && e < 24
  | .floorRecodeDone c _ => c < 128
  | .seamFilterDone c _ => c < 128
  | .entropyJobDispatch _ => true
  | .sliceAssembled e _ => e < 16
  | .jobError u _ => engineOk u
  | .engineSelftestLoan u _ => engineOk u
  | .engineReturn u _ => engineOk u
  | .histClear a _ => accessOk a
  | .rcClear a _ => accessOk a
  | .hintError c _ _ => c < 128
  | .encAdmit => true
  | .ladderAdmit => true
  | .encRelease => true
  | .encQuery => true
  | .decAdmit => true
  | .decRelease => true
  | .decNalReceived d _ _ => d < 64
  | .decPictureTimeout d => d < 64
  | .decPictureComplete d _ => d < 64
  | .decAlignPublish d _ => d < 64
  | .decNoInput d => d < 64
  | .refCfgWrite a _ => accessOk a
  | .refEdge _ => true
  | .refEdgeTimeout => true
  | .tileMapDataWrite a x _ => accessOk a && x < 2
  | .calDataWrite a x _ => accessOk a && x < 2
  | .calLoadStart a x _ => accessOk a && x < 2
  | .calLoadAbort a x _ => accessOk a && x < 2
  | .calLoadDone x => x < 2
  | .tileReportReceived n bs => n < 896 && bs.all fun b => b.sync < 4 && b.bytes.length = 8 && b.bytes.all (· < 256)
  | .cableFaultDetect n _ => n < 896
  | .cableRetry n _ => n < 896
  | .cableFaultClears n _ => n < 896
  | .tileLaneRetry a x _ _ => accessOk a && x < 2
  | .blockLockAcquire n => n < 896
  | .blockLockPolarityTimeout n => n < 896
  | .lanePllLock wide n => laneOk wide n
  | .lanePllTimeout wide n => laneOk wide n
  | .laneCdrLock wide n => laneOk wide n
  | .laneAdaptDone wide n _ _ _ => laneOk wide n
  | .laneLosAssert wide n => laneOk wide n
  | .laneLosClear wide n => laneOk wide n
  | .laneLolAssert wide n => laneOk wide n
  | .laneLolClear wide n => laneOk wide n
  | .laneAdaptUpdate wide n _ => laneOk wide n
  | .laneAdaptRestart a wide n _ => accessOk a && laneOk wide n
  | .laneLoopbackChange a wide n _ => accessOk a && laneOk wide n
  | .laneErrClear a wide n _ => accessOk a && laneOk wide n
  | .netLinkRise p => p < 64
  | .netLinkFall p => p < 64
  | .netTableWrite a x _ => accessOk a && x < 2
  | .netTableRead a x _ => accessOk a && x < 2
  | .ptpMessageReceived p _ m => p < 64 && m.domain < 256
  | .ptpMessageTimer p _ => p < 64
  | .ptpAnnounceTimeout p => p < 64
  | .schedSelect p _ => p < 80
  | .gateEntryBoundary p _ => p < 80
  | .schedTableWrite a x _ => accessOk a && x < 2
  | .schedTableRead a x _ => accessOk a && x < 2
  | .schedTableReadActive a x _ => accessOk a && x < 2
  | .schedPeakClear a x _ => accessOk a && x < 2
  | .fabLinkChange p _ => p < 18
  | .fabHelloTimer p => p < 18
  | .fabHelloReceived p f => p < 18 && frameOk f
  | .fabAuthReceived p f => p < 18 && frameOk f
  | .fabAuthTimeout p => p < 18
  | .fabPortSilence p => p < 18
  | .fabRefusedRetry p => p < 18
  | .fabRekey p => p < 18
  | .fabAutoRemap p l => p < 18 && l < 4
  | .fabRemapReceived p f => p < 18 && frameOk f
  | .fabCreditReceived p f => p < 18 && frameOk f
  | .fabCreditSend p => p < 18
  | .fabCreditStall p vc => p < 18 && vc < 6
  | .fabFrameForward p f => p < 18 && frameOk f
  | .fabLinkStateTimer => true
  | .fabLinkStateReceived p f _ => p < 16 && frameOk f
  | .fabMemberTimeout n => n < 4096
  | .fabRouteUpdate => true
  | .fabCoordTimeout => true
  | .fabCoordSyncReceived p f => p < 16 && frameOk f
  | .fabCfgWrite a _ => accessOk a
  | .fabLandRequestReceived p f => p < 16 && frameOk f
  | .fabLandGrantReceived p f => p < 16 && frameOk f
  | .fabLandRefuseReceived p f => p < 16 && frameOk f
  | .fabLeave a _ => accessOk a
  | .fabReland a _ => accessOk a
  | .fabAcceptOffer a _ => accessOk a
  | .fabTimeRequestTimer p => p < 16
  | .fabTimeRequestReceived p f _ => p < 16 && frameOk f
  | .fabTimeResponseReceived p f _ => p < 16 && frameOk f
  | .rraStart a _ _ => accessOk a
  | .rraAbort a _ => accessOk a
  | .rraTimeout => true
  | .fabRegRequestReceived p f _ => p < 16 && frameOk f
  | .fabRegResponseReceived p f => p < 16 && frameOk f
  | .fabJoinReceived p f => p < 16 && frameOk f
  | .fabJoinRefresh d => d < 64
  | .fabMcastExpiry _ p => p ≤ 16
  | .fabFerryReceived p f _ => p < 16 && frameOk f
  | .fabRectReceived p f => p < 16 && frameOk f
  | .fabEventReceived p f => p < 16 && frameOk f
  | .fabTableWrite a _ => accessOk a
  | .fabTableRead a _ => accessOk a
  | .helmInClassChange c => c < 4
  | .helmSenseFault => true
  | .helmSenseClear => true
  | .moorHeartbeatTimer => true
  | .moorHeartbeatReceived p f => 16 ≤ p && p < 18 && frameOk f
  | .moorTimeoutExpiry p => 16 ≤ p && p < 18
  | .helmTakeoverInstant _ => true
  | .helmYieldReceived p f => 16 ≤ p && p < 18 && frameOk f
  | .mateHandover a _ => accessOk a
  | .mateRequalify a _ => accessOk a
  | .mateForceClaim a _ => accessOk a
  | .moorCompareReceived p f => 16 ≤ p && p < 18 && frameOk f
  | .moorRecordMissing _ => true
  | .moorHealthReceived p f => 16 ≤ p && p < 18 && frameOk f
  | .moorThermalReceived p f => 16 ≤ p && p < 18 && frameOk f
  | .arbStartReceived p f => 16 ≤ p && p < 18 && frameOk f
  | .arbRunDone _ _ => true
  | .arbResultReceived p f => 16 ≤ p && p < 18 && frameOk f
  | .arbResultTimeout => true
  | .takebackReqReceived p f => 16 ≤ p && p < 18 && frameOk f
  | .takebackAckReceived p f => 16 ≤ p && p < 18 && frameOk f
  | .takebackNakReceived p f => 16 ≤ p && p < 18 && frameOk f
  | .takebackYield _ => true
  | .takebackTimeout => true
  | .holdoffExpiry => true
  | .audioFrameStart _ _ => true
  | .audioBlockWrite p => p < 16
  | .cvuStart a n _ => accessOk a && n < 16
  | .cvuAbort a n _ => accessOk a && n < 16
  | .cvuScanDone n => n < 16
  | .cvuSnoopFrame n => n < 16
  | .cvuMemoryError n _ => n < 16
  | .cvuValLoRead a n => accessOk a && n < 16
  | .cvuValLoWrite a n _ => accessOk a && n < 16
  | .cvuValHiWrite a n _ => accessOk a && n < 16
  | .tokenRootProvision _ => true
  | .tokenPolicySet _ => true
  | .tokenCertInstall _ => true
  | .tokenSeal _ => true
  | .tokenUnseal _ => true
  | .tokenRegWrite _ => true
  | .tokenSvnAdvance _ => true
  | .tokenDebugPermaClose _ => true
  | .tokenPwReset _ => true
  | .deviceId => true
  | .attest => true
  | .measExtend => true
  | .keyLoadStart a _ => accessOk a
  | .keyLoadAbort a _ => accessOk a
  | .keyLoadDone _ => true
  | .keyClear a _ => accessOk a
  | .dbgChallenge a _ => accessOk a
  | .dbgClose a _ => accessOk a
  | .dbgResponseCheck a _ _ => accessOk a
  | .dbgResponseAbort a _ => accessOk a
  | .pwCheck a _ => accessOk a
  | .pwCheckAbort a _ => accessOk a
  | .pwDelayExpiry => true
  | .sessionExpiry => true
  | .challengeExpiry => true
  | .jtagExtest _ _ => true
  | .jtagDbgUnlock _ _ _ => true
  | .jtagDbgRead _ _ _ => true
  | .jtagDbgWrite _ _ _ _ _ => true
  | .jtagDbgScan _ => true
  | .govSlackEntry d _ => 1 ≤ d && d < 24
  | .govSlackExit d _ => 1 ≤ d && d < 24
  | .reqDim a _ => accessOk a
  | .dimEntryDone => true
  | .reqActive a _ => accessOk a
  | .dimExitDone => true
  | .reqDormant a _ => accessOk a
  | .wakePin => true
  | .wakeLaneSignal n => n < 128
  | .smbusWake address _ => address < 128
  | .vinMainLoss => true
  | .vinMainReturn => true
  | .vinAuxLoss => true
  | .powerOn _ strap => strap < 4
  | .sysXoReady => true
  | .resetRelease _ _ _ => true
  | .bootComplete _ svn _ _ => svn < 128
  | .resetNLow => true
  | .resetCtlDevice a _ => accessOk a
  | .deviceResetEffect => true
  | .watchdogExpiry => true
  | .thermalTrip => true
  | .thermalTripRelease => true
  | .linkReset => true
  | .islandPllLoss i => i < 41
  | .pwrPeakClear a _ => accessOk a
  | .lockEventsClear a _ => accessOk a
  | .mbxCommandDone _ => true
  | .mbxCmdAbort a _ => accessOk a
  | .mbxUnknownCommand a _ => accessOk a
  | .deviceReset => true
  | .imgStage _ => true
  | .imgWrite _ => true
  | .imgVerify _ => true
  | .imgSwitch _ => true
  | .recoveryBoot _ => true
  | .mcodeReload _ => true
  | .hbmRepair _ => true
  | .rasterSelftest _ => true
  | .retentionRead => true
  | .selftestVectorDone u _ => selftestOk u
  | .hbmScrubCorrect => true
  | .smbusRegisterWrite address _ off _ _ => address < 128 && regOk off
  | .smbusReadOffset address _ off => address < 128 && regOk off
  | .smbusReadData address => address < 128
  | .voutShort k => k < 2
  | .voutRetry k _ => k < 2
  | .dormantEntryDone => true
  | .hbmScrubUncorrectable => true
  | .msixTableWrite e k _ => e < 64 && k < 4

end Sys2Proof
end

