-- ==== Sys2Proof/Tests/Slice0.lean ====
section
/-!
SUPPORT. The model's own tests: an ill-formed command for each check of WellFormed, worked examples of the spec, and for every statement
with hypotheses a concrete state and operands that meet them, with what the command then does. Expected numbers come from the spec's
tables and examples, worked by hand.
-/

set_option Elab.async false

namespace Sys2Proof.Tests

open Sys2Proof.Machine

/-- A full PCIe access; one with a byte enable missing; an access of a fabric node. -/
def pcie : Access := ⟨.pcie, true⟩
def partly : Access := ⟨.pcie, false⟩
def node7 : Access := ⟨.fabric 7, true⟩

/-- The state after a command. -/
def after (c : Instr) (s : State) : State := match exec c s with | .next t => t | _ => s

/-- The state right after reset with these fields written; and with these pending and latched values. -/
def put (l : List (Page × Field × Nat)) (s : State := State.reset) : State := l.foldl (fun t e => t.wr e.1 e.2.1 e.2.2) s
def pend (l : List (Page × Field × Nat)) (s : State := State.reset) : State :=
  l.foldl (fun t e => t.setWordP e.1 e.2.1.off (fset (t.wordP e.1 e.2.1.off) e.2.1.hi e.2.1.lo e.2.2)) s
def latch (l : List (Page × Field × Nat)) (s : State := State.reset) : State :=
  l.foldl (fun t e => let k := pageBase e.1 + e.2.1.off
    { t with lat := tput (resetOf k) t.lat k (fset (t.wordL e.1 e.2.1.off) e.2.1.hi e.2.1.lo e.2.2) }) s

/-- A frame from member 9 with sequence numbers above those of a fresh port. -/
def frame (b : FabBody) (src : Nat := 9) (pn : Nat := 1) (dst : Nat := 7) (seq : Nat := 1) : FabFrame :=
  { body := b, dst := dst, src := src, hops := 1, len := 0, vc := (typeVc b.code).getD 0, last := true, pn := pn, tag := 0, seq := seq, frameNo := 0, hash := 0,
    fcsOk := true, tagOk := true }

/-- An arm of groups `g`, accepted, with nothing staged. -/
def armOf (g : Nat) : Arm := 
  { groups := g, target := .now, stamp := 0, staged := [], cells := [], entries := [], accepted := true, late := false, remote := none }

/-- A frame of 8 lines of 4 pixels, of 4 active ones. -/
def timing : FrameTiming := { frame := 5, start := 1000, period := 8000, div := 1, width := 4, vActive := 4, vTotal := 8, step := none }
def scanning (l : Nat) (x : RasterState := {}) : State :=
  put [(SCAN 2, Reg.SCAN_RG_STATE_RUNNING, 1)] { State.reset with cmp := { rasters := [(2, { x with scan := some (timing, l) })] } }
/-- A frame being composed. -/
def composing : Composed :=
  { frame := 6, width := 4, height := 4, bg := (0, 0, 0), shown := [], words := [], cause := 0, safeFrom := none, curve := 0, lines := [],
    stats := { frame := 6 }, errored := false, isSealed := false, first := false }

/-- A device with node ID 7, landed in a fabric, as its coordinator where `coord` is 1, with link on port 0, which is UP. -/
def member (coord : Nat := 1) (l : List (Page × Field × Nat) := []) : State :=
  put ([(FAB, ⟨0x044, 11, 0⟩, 7), (FAB, ⟨0x044, 14, 12⟩, 2), (FAB, ⟨0x044, 15, 15⟩, coord)] ++ l)
    { State.reset with fab := { ports := [(0, { link := true, st := 3 })] } }

/-! WellFormed refuses what cannot be sent. -/

/-- One ill-formed command for each kind of operand that WellFormed checks, and the largest operand that it takes. -/
theorem test_wf_access : Instr.wf (.registerWrite ⟨.fabric 4096, true⟩ 0 0 noFinds) = false ∧
    Instr.wf (.registerWrite ⟨.token 4 0, true⟩ 0 0 noFinds) = false ∧ Instr.wf (.registerWrite ⟨.token 3 4095, true⟩ 0 0 noFinds) = true := by
  decide
theorem test_wf_register : Instr.wf (.registerWrite pcie 0x4000000 0 noFinds) = false ∧ Instr.wf (.faultedRead pcie 2) = false ∧
    Instr.wf (.faultedRead pcie 0x3FFFFFC) = true := by decide
theorem test_wf_page : Instr.wf (.occReadHiPop pcie 0x18) = false ∧ Instr.wf (.clearLost pcie 0x1000) = true := by decide
theorem test_wf_memory : Instr.wf (.bar2Read 0x1FFFFFFFFF 2) = false ∧ Instr.wf (.bar2Read 0x1FFFFFFFFF 1) = true := by decide
theorem test_wf_lane : Instr.wf (.lanePllLock true 128) = false ∧ Instr.wf (.lanePllLock false 896) = false ∧
    Instr.wf (.lanePllLock false 895) = true := by decide
theorem test_wf_engine : Instr.wf (.engineReturn 96 0) = false ∧ Instr.wf (.engineReturn 143 0) = true ∧
    Instr.wf (.selftestVectorDone 0xC8 true) = false ∧ Instr.wf (.selftestVectorDone 0xE7 true) = true := by decide
theorem test_wf_counts : Instr.wf (.rasterLineStart 32) = false ∧ Instr.wf (.evtRouteWrite pcie 128 0) = false ∧
    Instr.wf (.composeError 0 3) = false ∧ Instr.wf (.coefDataWrite pcie 48 0) = false ∧ Instr.wf (.rowHandoff 128 0) = false ∧
    Instr.wf (.decNoInput 64) = false ∧ Instr.wf (.tileMapDataWrite pcie 2 0) = false ∧ Instr.wf (.schedSelect 80 0) = false ∧
    Instr.wf (.fabCreditStall 0 6) = false ∧ Instr.wf (.fabAutoRemap 0 4) = false ∧ Instr.wf (.fabMemberTimeout 4096) = false ∧
    Instr.wf (.fabMcastExpiry 0 17) = false ∧ Instr.wf (.helmInClassChange 4) = false ∧ Instr.wf (.moorTimeoutExpiry 15) = false ∧
    Instr.wf (.audioBlockWrite 16) = false ∧ Instr.wf (.cvuScanDone 16) = false ∧ Instr.wf (.govSlackEntry 0 0) = false ∧
    Instr.wf (.govSlackExit 24 0) = false ∧ Instr.wf (.wakeLaneSignal 128) = false ∧ Instr.wf (.smbusWake 128 true) = false ∧
    Instr.wf (.powerOn true 4) = false ∧ Instr.wf (.bootComplete 0 128 0 0) = false ∧ Instr.wf (.islandPllLoss 41) = false ∧
    Instr.wf (.voutShort 2) = false ∧ Instr.wf (.msixTableWrite 64 0 0) = false ∧ Instr.wf (.msixTableWrite 0 4 0) = false := by decide

theorem test_wf_frame : Instr.wf (.fabHelloReceived 18 (frame (.ack 1))) = false ∧
    Instr.wf (.fabHelloReceived 17 { frame (.ack 1) with hops := 256 }) = false ∧
    Instr.wf (.fabHelloReceived 17 { frame (.ack 1) with seq := 2 ^ 32 }) = false ∧
    Instr.wf (.fabHelloReceived 17 (frame (.ack 1))) = true := by decide

/-! The step, the table's words, reset. -/

/-- The table gives its rows no bits: no word spells a command. -/
theorem test_no_word : decodeTableWord 16 0 = none ∧ State.reset.withFetchWord 16 0 = State.reset := by decide +kernel
theorem test_step_front : step { State.reset with pending := [.sysXoReady, .thermalTripRelease] } =
    exec .sysXoReady { State.reset with pending := [.thermalTripRelease] } := by rfl
theorem test_step_idle : State.reset.pending = [] ∧ step State.reset = .next State.reset := ⟨rfl, rfl⟩

/-! Events (R50-R54). -/

/-- SYS has a record, its status bit 31 is enabled, and its source 0 is routed to vector 5, which is not masked. -/
def raised : State :=
  { put [(SYS, Reg.EVT_ENABLE, 2 ^ 31), (EVT, ⟨0x80, 7, 0⟩, 0x45)] (State.reset.occur SYS 0x10 0 0) with evt := { unmasked := [5] } }
theorem test_msix_sent : (settle raised).out = [.msix 5] ∧ (settle raised).evt.disarmed = [5] ∧ raised.vectorLevel raised.sourcesUp 5 = true := by
  decide +kernel
theorem witness_settled : Settled (settle raised) ∧ (settle raised).evt.disarmed ≠ [] := by unfold Settled; decide +kernel

/-- The same source is routed to the fabric event channel. -/
def toFabric : State := put [(EVT, ⟨0x80, 7, 0⟩, 0xC0), (EVT, Reg.EVT_EVT_CTL_FAB_ENABLE, 1), (EVT, Reg.EVT_FAB_EVT_DEST, 9)] raised
theorem witness_fabric_level : toFabric.fabEnable = true ∧ toFabric.evt.fabOn = false ∧ toFabric.route 0 / 64 = 3 ∧
    tfind (settle toFabric).evt.fabDue 0 = some true := by decide +kernel
theorem witness_fabric_change :
    let s : State := { toFabric with evt := { toFabric.evt with fabOn := true, fabDest := 9, fabSeen := [(0, false), (7, true)] } }
    s.fabEnable = true ∧ s.evt.fabDest = s.rd EVT Reg.EVT_FAB_EVT_DEST % 4096 ∧ tfind (settle s).evt.fabDue 0 = some true ∧
    tfind (settle s).evt.fabDue 7 = some false := by decide +kernel
theorem witness_fabric_off : State.reset.fabEnable = false ∧ (settle { State.reset with evt := { fabDue := [(3, true)] } }).evt.fabDue = [] := by
  decide +kernel

/-! Accesses (R36-R47). -/

theorem witness_unmapped : State.reset.pow.up = true ∧ regAt (alignedOf 0x3FFF000) = none ∧
    (after (.registerWrite pcie 0x3FFF000 1 noFinds) State.reset).queue SYS =
      { recs := [0x1000000007FFF000], lost := 0, total := 1 } := by decide +kernel
theorem witness_denied : State.reset.mayWrite node7 (SEC 0) = false ∧ regAt (alignedOf (pageBase (SEC 0) + 0x20)) = some (SEC 0, 0x20, false) ∧
    ((after (.registerWrite node7 (pageBase (SEC 0) + 0x20) 1 noFinds) State.reset).queue SYS).recs =
      [BitVec.ofNat 64 (0x11 * 2 ^ 56 + 2 * 2 ^ 48 + 7 * 2 ^ 36 + 2 ^ 26 + pageBase (SEC 0) + 0x20)] := by decide +kernel
theorem witness_partial : State.reset.mayWrite partly EVT = true ∧ State.reset.cvuClosed partly EVT = false ∧
    ((after (.registerWrite partly (pageBase EVT + 0x20) 1 noFinds) State.reset).queue SYS).recs =
      [BitVec.ofNat 64 (0x13 * 2 ^ 56 + 2 ^ 26 + pageBase EVT + 0x20)] := by decide +kernel
theorem witness_read_only : State.reset.cvuClosed pcie SYS = false ∧ regAt (alignedOf 0x104) = some (SYS, 0x104, false) ∧
    ((after (.registerWrite pcie 0x104 1 noFinds) State.reset).queue SYS).recs = [0x1200000004000104] ∧
    regAt (alignedOf 0x820) = some (SYS, 0x20, true) ∧
    ((after (.registerWrite node7 0x820 1 noFinds) State.reset).queue SYS).recs = [0x1202007004000820] := by decide +kernel
theorem witness_reads : pageAt (alignedOf 0x3FFF000) = none ∧ (after (.faultedRead pcie 0x3FFF000) State.reset).out = [.readData 0xFFFFFFFF] ∧
    regAt (alignedOf 0x7FC) = none ∧ (after (.faultedRead pcie 0x7FC) State.reset).out = [.readData 0] ∧
    State.reset.mayRead ⟨.jtag, true⟩ EVT = false ∧ (after (.faultedRead ⟨.jtag, true⟩ (pageBase EVT + 0x20)) State.reset).out = [.readData 0] ∧
    (after (.faultedRead ⟨.jtag, true⟩ (pageBase EVT)) State.reset).occ = [] := by decide +kernel

/-- An INGEST page takes a write of PORTs and format as pending values, and EVT_ENABLE at once (R36). -/
theorem witness_register_write : Ready State.reset pcie (ING 3) ∧ (ING 3).inBar0 ∧ (∃ d, regDesc (ING 3) 0x20 = some d ∧ d.takesWrite 0x20) ∧
    (after (.registerWrite pcie (pageBase (ING 3) + 0x20) 5 noFinds) State.reset).rd (ING 3) Reg.EVT_ENABLE = 5 := by
  refine ⟨by unfold Ready; decide +kernel, by decide +kernel, ⟨_, rfl, by decide +kernel⟩, by decide +kernel⟩
theorem test_pending_write :
    let t := after (.registerWrite pcie (pageBase (ING 3) + Reg.INGEST_STREAM_CFG_KIND.off) 1 noFinds) State.reset
    t.rdP (ING 3) Reg.INGEST_STREAM_CFG_KIND = 1 ∧ t.rd (ING 3) Reg.INGEST_STREAM_CFG_KIND = 0 ∧ t.dirty = [pageBase (ING 3)] := by decide +kernel

/-- A PV bit is written only while a SERVICE session has opened test access (R37). -/
theorem witness_service_write :
    let s (b : Bool) : State := { State.reset with sec := { session := some { service := b, keyHash := 0, expiry := 9 } } }
    let t (b : Bool) := after (.registerWrite pcie (pageBase (ING 3) + 0x50) 0xFFFFFFFF noFinds) (s b)
    (s true).testOpen = true ∧ (t true).word (ING 3) 0x50 = 0xFFE00000 ∧ (t false).word (ING 3) 0x50 = 0 ∧ (t true).wordP (ING 3) 0x50 = 0x1FFFFF := by
  decide +kernel

/-- A full queue drops and counts (R47); OCC_LOST saturates. -/
theorem witness_arrival_dropped :
    let q : OccQueue := { recs := List.replicate 64 7, lost := 0xFFFF, total := 0xFFFFFFFF }
    let t := (State.reset.setQueue EVT q).occur EVT 0x10 0 0
    (t.queue EVT).recs.length = 64 ∧ (t.queue EVT).lost = 0xFFFF ∧ (t.queue EVT).total = 0 := by decide +kernel
theorem witness_arrival_kept : (State.reset.queue EVT).recs.length < 64 ∧ ((State.reset.occur EVT 0x21 2 3).queue EVT).recs = [0x2102000000000003] := by
  decide +kernel
theorem witness_pop :
    let s := State.reset.occur EVT 0x21 2 3
    Readable s pcie EVT ∧ (after (.occReadHiPop pcie (pageBase EVT)) s).out = [.readData 0x21020000] ∧
      ((after (.occReadHiPop pcie (pageBase EVT)) s).queue EVT).recs = [] := by unfold Readable; decide +kernel
theorem witness_clear_lost : Ready State.reset pcie EVT ∧
    ((after (.clearLost pcie (pageBase EVT)) (State.reset.setQueue EVT { lost := 9, total := 73 })).queue EVT) = { total := 73 } := by
  unfold Ready; decide +kernel

/-- A page leaves group 0 for group 3, unless its own group is armed (R42). -/
theorem witness_group_change : Ready State.reset pcie (ING 0) ∧ buffered (ING 0).ty = true ∧
    bit State.reset.armedMask (State.reset.groupOf (ING 0)) = false ∧
    (after (.commitGroupWrite pcie (pageBase (ING 0)) 0x301) State.reset).groupOf (ING 0) = 3 := by unfold Ready; decide +kernel
theorem witness_group_refused :
    let s : State := { State.reset with cm := { arms := [armOf 1] } }
    bit s.armedMask (s.groupOf (ING 0)) = true ∧ (after (.commitGroupWrite pcie (pageBase (ING 0)) 0x301) s).groupOf (ING 0) = 0 ∧
      ((after (.commitGroupWrite pcie (pageBase (ING 0)) 0x301) s).queue (ING 0)).recs = [0x0303000000000000] := by decide +kernel

theorem witness_evt_registers : Ready State.reset pcie EVT ∧ (after (.evtRouteWrite pcie 127 0x40C18002) State.reset).route 511 = 0x40 ∧
    (after (.vectorAck pcie true 0x80000000) { State.reset with evt := { disarmed := [31, 63] } }).evt.disarmed = [31] ∧
    (after (.msixTableWrite 63 3 0) State.reset).evt.unmasked = [63] := by unfold Ready; decide +kernel
/-- Vector 63's pending bit: its source's level is 1 and it is armed; after its message it is disarmed. -/
theorem witness_pending_bits :
    let s := put [(EVT, ⟨0x80, 7, 0⟩, 0x7F)] raised
    (s.pbaWord 1).testBit 31 = true ∧ s.pbaWord 0 = 0 ∧ ({ s with evt := { s.evt with disarmed := [63] } }).pbaWord 1 = 0 ∧
    (after (.msixTableWrite 64 0 9) s).evt.msix = s.evt.msix ∧ (after (.msixTableWrite 63 4 9) s).evt.msix = s.evt.msix := by decide +kernel
/-- Device 7 sends to node 9: by port 0 with its credit, without a route, and to itself. -/
def sender (dest : Nat) (r : List (Nat × Nat)) : State :=
  put [(⟨.fab, 0⟩, ⟨0x044, 11, 0⟩, 7), (EVT, Reg.EVT_FAB_EVT_DEST, dest)]
    { toFabric with
      evt := { toFabric.evt with fabDue := [(0, true)], fabSeen := [(0, true)], fabOn := true, fabDest := dest },
      fab := { ports := [(0, { link := true, st := 3 })], route := r } }
theorem witness_event_send :
    let s := sender 9 [(9, 1)]
    let t := after .fabricEventSend s
    Ready s pcie EVT ∧ s.fabEnable = true ∧ s.evt.fabDue ≠ [] ∧ s.rd EVT Reg.EVT_FAB_EVT_DEST % 4096 ≠ s.nodeId ∧ portsOf (s.routeTo 9) = [0] ∧
      s.eventReady 9 1 = true ∧ t.evt.fabDue = [] ∧ (t.fport 0).queue.map (·.frame.body) = [.event [(0, true)]] ∧
      (sender 9 []).eventReady 9 1 = false ∧ (after .fabricEventSend (sender 9 [])).evt.fabDue = [(0, true)] ∧
      (after .fabricEventSend (sender 7 [])).evt.fabDue = [] := by
  unfold Ready; decide +kernel
/-! Time, the host pool, raster lines (R24-R33, R88, R250). -/

theorem witness_time_capture :
    let s : State := { State.reset with tm := { sys := 3 * 2 ^ 48 + 5, frame := 2 ^ 33 + 9 } }
    let t := after (.frameNoLoRead pcie) s
    Readable s pcie SYS ∧ t.out = [.readData 9] ∧ t.capturedWord .pcie 0x108 = 2 ∧
      t.capturedWord .smbus 0x104 = s.capturedWord .smbus 0x104 := by unfold Readable; decide +kernel
/-- Sixteen nodes hold a capture; a seventeenth discards the oldest (R28). -/
theorem witness_time_capture_full :
    let s : State := { State.reset with tm := { captures := (List.range 16).map fun n => ⟨.fabric (20 + n), 5, 0, 0⟩ } }
    let t := after (.frameNoLoRead node7) s
    Readable s node7 SYS ∧ s.capturedWord (.fabric 20) 0x104 = 5 ∧ t.capturedWord (.fabric 20) 0x104 = 0 ∧ t.capturedWord (.fabric 21) 0x104 = 5 := by
  unfold Readable; decide +kernel

/-- Entry 0 protects the 64 KiB from 0; a write that crosses its end stores the rest and records the first dropped address (R88). -/
def leased : State := { State.reset with leases := [(0, { base := 0, size := 1, owner := 0, stream := 0, frames := [(2, 9)] })] }
theorem witness_pool_write : leased.guardedByte .pcie 0 = true ∧ leased.guardedByte .pcie 65536 = false ∧
    (after (.bar2Write 65534 [1, 2, 3, 4]) leased).mem = [(65536, 3), (65537, 4)] ∧
    ((after (.bar2Write 65534 [1, 2, 3, 4]) leased).queue LEASE).recs = [0x200000000000FFFE] ∧
    Memory.wf (after (.bar2Write 65534 [1, 2, 3, 4]) leased).mem = true := by decide +kernel
theorem test_pool_write_zero : (after (.bar2Write 7 [0, 9]) { State.reset with mem := [(7, 5)] }).mem = [(8, 9)] := by decide +kernel
/-- A store into the surface that layer 5 read in its latest frame, at its first and last byte, and one byte beyond it. -/
theorem witness_pool_touch :
    let h : Shown := { layer := 5, surf := some ⟨65536, 1, 4, 4, 4, 0⟩ }
    let s : State := { State.reset with cmp := { layers := [(5, { prev := some (2, 6, h), quiet := 7 })] } }
    let q (a : Nat) := ((after (.bar2Write a [1]) s).lay 5).quiet
    (s.lay 5).prev = some (2, 6, h) ∧ q 65536 = 0 ∧ q 131071 = 0 ∧ q 131072 = 7 ∧ q 65535 = 7 := by decide +kernel
/-- The top of the host pool, and a sealed range (R18, R465). -/
theorem witness_pool_read :
    let s : State := { State.reset with mem := [(0x171FFFFFFF, 5), (65536, 7), (65537, 8)], sec := { ranges := [(0, (1, 1, false))] } }
    (after (.bar2Read 0x171FFFFFFF 2) s).out = [.memData [5, 0xFF]] ∧ ((after (.bar2Read 0x171FFFFFFF 2) s).queue SYS).recs =
      [0x1004000000000000 ||| 0x1720000000] ∧ s.sealedSpan 65536 1 = true ∧ s.sealedSpan 65535 1 = false ∧
    (after (.bar2Read 65535 3) s).out = [.memData [0, 0, 0]] ∧ ((after (.bar2Read 65535 3) s).queue (SEC 2)).recs = [0x2000000000010000] := by
  decide +kernel

/-- Nothing measured. -/
def calm : Sensors :=
  { vin := 48000, aux := 3300, mw := 0, junction := 640, power := [], energy := 0, refclk156 := true, refclk100 := true, xo := true, audio := true,
    ppm := [], freq := [], passes := 0, lanes := [], fec := [] }
/-- B(60) of a 60 Hz beat is one second of SYSTIME, and frame 60 falls with frame 50 of a 50 Hz beat, code 7 (R25). -/
theorem witness_beat : State.reset.pow.powered = true ∧ State.reset.pow.xo = true ∧ State.reset.pow.up = true ∧
    beatStart 9 60 = 10 ^ 9 * 65536 ∧ firstBoundary 9 7 60 = 50 ∧ beatAt 9 (10 ^ 9 * 65536) = 60 ∧ beatAt 9 (10 ^ 9 * 65536 - 1) = 59 := by
  decide +kernel
theorem witness_beat_held :
    let s : State := { State.reset with pow := { up := false } }
    (after (.beatBoundary calm) s) = { s with tm := { sys := beatStart 9 1, frame := 1 } } ∧
    (after (.beatBoundary calm) { State.reset with pow := { xo := false } }).tm.frame = 0 := by decide +kernel
theorem witness_rate_switch : ({ State.reset with tm := { frame := 59, rateNext := some (7, 60) } } : State).tm.rateNext = some (7, 60) := by rfl

theorem witness_line : ((scanning 7).ras 2).scan = some (timing, 7) ∧ ((after (.rasterLineStart 2) (scanning 7)).ras 2).scan = some (timing, 8) ∧
    ((scanning 7).ras 1).scan = none := by decide +kernel
/-- A frame of 300 lines of 4 pixels, of 100 active ones: a line of each kind that RasterLinesAndLeases names. -/
def tall : FrameTiming := { frame := 5, start := 1000, period := 300000, div := 1, width := 4, vActive := 100, vTotal := 300, step := none }
def tallAt (l : Nat) (x : RasterState := {}) : State :=
  { State.reset with cmp := { rasters := [(2, { x with scan := some (tall, l) })] } }
theorem witness_line_kinds :
    let f : Composed := { composing with frame := 5, height := 100 }
    let u (l : Nat) (x : RasterState := {}) := ((tallAt l x).advance (tall.lineStart l)).frameOut
    let next := { tall with frame := 6 }
    ((u 0 { leadIn := true }).ras 2).leadIn = true ∧ ((u 0 { composed := [f] }).frameOf 2 5).isSome = true ∧
      (u 35 { composed := [f] }).frameOf 2 5 = some f ∧ (u 36 { composed := [f] }).frameOf 2 5 = some f ∧ (u 99 { composed := [f] }).frameOf 2 5 = some f ∧
      (((u 236 { stopping := true }).composeNext 2).ras 2).stopping = true ∧ ((u 299 { next := some next }).ras 2).next = some next := by decide +kernel
theorem witness_frame_end :
    let n := { timing with frame := 6, start := 9000 }
    ((after (.rasterLineStart 2) (scanning 8 { next := some n })).ras 2).scan = some (n, 1) ∧
    ((after (.rasterLineStart 2) (scanning 8 { stopping := true })).ras 2).scan = none := by decide +kernel
theorem witness_lease_release :
    let s : State := { scanning 5 with leases := [(0, { base := 0, size := 1, owner := 1, stream := 0, retired := true, frames := [(2, 5)] }),
      (1, { base := 1, size := 1, owner := 1, stream := 0, frames := [(2, 5), (3, 5)] })] }
    s.scannedOut 2 5 = true ∧ s.encodeReads 2 5 = false ∧
    (after (.frameLeaseRelease 2 5) s).leases = [(1, { base := 1, size := 1, owner := 1, stream := 0, frames := [(3, 5)] })] := by decide +kernel

theorem witness_tone :
    let s := latch [(COL 2, Reg.COLOUR_BCAST_CFG_CURVES_M1, 3)] (scanning 5 { composed := [composing], stats := some { key := 700, frame := 6 }, curve := 1 })
    (s.ras 2).stats = some { key := 700, frame := 6 } ∧ ((after (.toneCurveCompute 2) s).ras 2).tone = some 2 := by decide +kernel
theorem witness_compose_error :
    let s := scanning 5 { composed := [composing] }
    s.rd (SCAN 2) Reg.SCAN_RG_STATE_RUNNING = 1 ∧ ((after (.composeError 2 1) s).ras 2).errNext = true ∧
      (((after (.composeError 2 1) s).ras 2).composed.head?.map fun c => (c.cause, c.errored)) = some (3, true) := by decide +kernel
/-! Commits, fabric commits, snapshots (R55-R76). -/

theorem witness_arm :
    let s := put [(SYS, Reg.SYS_COMMIT_MASK, 32)]
    Ready s pcie SYS ∧ ((after (.commitArm pcie 0) s).cm.arms.map fun x => (x.groups, x.accepted)) = [(32, false)] ∧
      (after (.commitArm pcie 0) s).rd SYS Reg.SYS_COMMIT_STATUS_VALIDATING = 1 := by unfold Ready; decide +kernel
/-- The cases of R60, each at its first reason. -/
theorem witness_arm_refused :
    let why (s : State) := (after (.commitArm pcie 0) s).rd SYS Reg.SYS_COMMIT_STATUS_REASON
    let m := (SYS, Reg.SYS_COMMIT_MASK, 1)
    why State.reset = 2 ∧ why (put [m, (SYS, Reg.SYS_COMMIT_STATUS_VALIDATING, 1)]) = 5 ∧ why (put [m, (SYS, Reg.SYS_COMMIT_TARGET_KIND, 3)]) = 4 ∧
      why (put [m, (SYS, Reg.SYS_COMMIT_TARGET_KIND, 1)]) = 4 ∧ why (put [m] { State.reset with cm := { arms := [armOf 3] } }) = 3 ∧
      why (put [m] { State.reset with cm := { fenced := true } }) = 7 ∧ why (put [m, (SYS, Reg.SYS_COMMIT_TARGET_KIND, 2)]) = 0x13 ∧
      why (member 0 [m, (SYS, Reg.SYS_COMMIT_TARGET_KIND, 2)]) = 0x12 := by decide +kernel
theorem witness_cancel :
    let s := put [(SYS, Reg.SYS_COMMIT_MASK, 2)] { State.reset with cm := { arms := [armOf 3, armOf 4] } }
    Ready s pcie SYS ∧ (after (.commitCancel pcie 0) s).cm.arms = [armOf 4] ∧ (after (.commitCancel pcie 0) s).rd SYS (groupResultField 0) = 4 ∧
      ((after (.commitCancel pcie 0) (put [(SYS, Reg.SYS_COMMIT_MASK, 8)])).queue SYS).recs = [0x0103000000000000] := by unfold Ready; decide +kernel

/-- An arm of group 5, which holds no page, is accepted; one whose target is a raster that scans waits. -/
def validating (t : Target) (s : State := State.reset) : State :=
  { s with cm := { arms := [{ armOf 32 with accepted := false, target := t }] } }
theorem witness_raster_waits : ((scanning 3).ras 2).scan ≠ none := by decide +kernel
/-- SCAN 2 in group 5 is staged with ENABLE 1 and no active lines. -/
def badArm : Arm := { armOf 32 with accepted := false, staged := [(pageBase (SCAN 2) + 8, 0x501)] }
/-- The application of an arm that holds the LEASE page (R61). -/
theorem witness_application :
    let x : Arm := { armOf 32 with staged := [(pageBase LEASE + 8, 0x500)] }
    let s : State := { put [(LEASE, Reg.PAGE_CTL_COMMIT_GROUP, 5)] with cm := { arms := [x] } }
    s.armHolds x LEASE = true ∧ (s.applyArm x).cm.arms = [] ∧ (s.applyArm x).rd SYS (groupResultField 5) = 1 := by decide +kernel

theorem test_member : (member).nodeId = 7 ∧ (member).landed = true ∧ (member).isCoord = true ∧ (member 0).isCoord = false := by decide +kernel

/-! The fabric commit (R69-R71). -/

/-- A transaction that targets frame 9, coordinated by node 7, in a state. -/
def txn (st : Nat) (l : List Nat := []) (d : Option (Bool × Nat × Option Nat × Nat) := none) : FabTxn :=
  { txn := 3, st := st, target := 9, mask := 32, coordinator := 7, unvoted := l, unacked := [], decision := d }
def inTxn (x : FabTxn) (s : State := member) : State :=
  { s with cm := { txns := [x], arms := [{ armOf 32 with target := .epoch 9, remote := some 3 }] } }
/-- R70: the coordinator cancels while it collects votes, a member before it votes, and too late. -/
theorem witness_epoch_cancel :
    let on (st : Nat) (c : Nat) (r : Option Nat) : State :=
      { member 1 [(SYS, Reg.SYS_COMMIT_MASK, 32)] with
        cm := { txns := [{ txn st [9] with coordinator := c }], arms := [{ armOf 32 with target := .epoch 9, remote := r }] } }
    let go (s : State) := after (.commitCancel pcie 2) s
    Ready (on 1 7 none) pcie SYS ∧ ((go (on 1 7 none)).cm.txns.map (·.decision)) = [some (false, 0x15, none, 0)] ∧
      (go (on 1 9 (some 3))).cm.arms = [] ∧ ((go (on 3 7 none)).queue SYS).recs = [0x0105000000000000] ∧ (go (on 3 7 none)).cm.arms ≠ [] := by
  unfold Ready; decide +kernel
/-- A local arm is found good, and bad; a member's arm is found good and votes YES, or bad and votes NO; the coordinator's own arm begins the commit; a raster's latch missed. -/
theorem witness_epoch_validation :
    let good : Arm := { armOf 32 with accepted := false, target := .epoch 9, remote := some 3 }
    let on (x : Arm) (s : State := member) : State := { s with cm := { txns := [{ txn 1 with coordinator := 9 }], arms := [x] } }
    let bad : Arm := { badArm with target := .epoch 9, remote := some 3 }
    let late : Arm := { armOf 32 with accepted := false, target := .raster 2, late := true, due := 6 }
    (validating .now).failures { armOf 32 with accepted := false } = [] ∧
      ({ put [(SCAN 2, Reg.PAGE_CTL_COMMIT_GROUP, 5)] with cm := { arms := [badArm] } } : State).failures badArm = [(pageBase (SCAN 2), 1)] ∧
      badArm.remote = none ∧ (on good).failures good = [] ∧ ((after .commitValidationDone (on good)).cm.txns.map (·.st)) = [2] ∧
      (on bad (put [(SCAN 2, Reg.PAGE_CTL_COMMIT_GROUP, 5)] member)).failures bad = [(pageBase (SCAN 2), 1)] ∧
      (after .commitValidationDone (on bad (put [(SCAN 2, Reg.PAGE_CTL_COMMIT_GROUP, 5)] member))).cm.arms = [] ∧
      ({ member with cm := { arms := [{ good with remote := none }] } } : State).failures { good with remote := none } = [] ∧
      (after .commitValidationDone { member with cm := { arms := [{ good with remote := none }] } }).cm.txns.length = 1 ∧
      (after .commitValidationDone { scanning 3 with cm := { arms := [late] } }).rd SYS (groupResultField 5) = 2 := by decide +kernel
/-- PREPARE for frame 9 at frame 0 is taken, and one for frame 2 comes too late. -/
theorem witness_prepare :
    let f := frame (.prepare 3 32 9 1)
    ArrivesRouted (member) 0 f ∧ (((member).checked 0 f).armRefused 32 (some (.epoch 9)) true) = none ∧
      ((after (.fabPrepareReceived 0 f) (member)).cm.arms.map fun x => (x.groups, x.remote)) = [(32, some 3)] ∧
      (after (.fabPrepareReceived 0 (frame (.prepare 3 32 2 1))) (member)).rd SYS Reg.SYS_FAB_COMMIT_INFO_ABORT_REASON = 0x13 := by
  unfold ArrivesRouted; decide +kernel
theorem witness_vote :
    let s := inTxn { txn 1 [9] with coordinator := 7 }
    let f := frame (.vote 3 true 0)
    ArrivesRouted s 0 f ∧ ((after (.fabVoteReceived 0 f) s).cm.txns.map fun x => (x.st, x.unvoted)) = [(3, [])] ∧
      ((after (.fabVoteReceived 0 (frame (.vote 3 false 4))) s).cm.txns.map (·.st)) = [5] ∧
      ((after .fabVoteDeadline s).cm.txns.map (·.decision)) = [some (false, 0x14, none, 0)] := by unfold ArrivesRouted; decide +kernel
theorem witness_decision :
    let s := inTxn { txn 2 with coordinator := 9 }
    let f := frame (.decision 3 true 0 0 0xFFFF)
    ArrivesRouted s 0 f ∧ s.rd SYS Reg.SYS_CONFIG_EPOCH = 0 ∧ ((after (.fabDecisionReceived 0 f) s).cm.txns.map (·.st)) = [3] := by
  unfold ArrivesRouted; decide +kernel
theorem witness_ack :
    let s := inTxn { txn 3 [] (some (true, 0, none, 0)) with unacked := [9, 11] }
    let f := frame (.ack 3)
    ArrivesRouted s 0 f ∧ ((after (.fabAckReceived 0 f) s).cm.txns.map (·.unacked)) = [[11]] ∧
      ((after .fabDecisionRepeat s).cm.txns.map (·.unacked)) = [[9, 11]] := by unfold ArrivesRouted; decide +kernel
/-- At B(8) the member that holds COMMIT applies and the one that holds nothing is fenced. -/
theorem witness_fabric_apply :
    let t (s : State) : State := { s with tm := { frame := 8 } }
    let s := t (inTxn (txn 3 [] (some (true, 0, none, 4))))
    s.txnArm (txn 3 [] (some (true, 0, none, 4))) ≠ none ∧ (after .fabCommitApply s).rd SYS Reg.SYS_CONFIG_EPOCH = 5 ∧
      (after .fabCommitApply s).cm.arms = [] ∧ s.enabled MATE = false ∧
      (t (inTxn (txn 2))).txnArm (txn 2) ≠ none ∧
      ((after .fabCommitApply (t (inTxn (txn 2)))).queue SYS).recs.map (fun r => r.toNat / 2 ^ 56) = [0x22, 0x24, 0x27] := by decide +kernel

/-! The snapshot (R74-R76). -/

theorem witness_snap_start : Ready State.reset pcie SYS ∧ State.reset.opState SYS snapOp ≠ 1 ∧ State.reset.snapBase + snapBytes ≤ poolSize ∧
    ((after (.snapStart pcie 0) State.reset).cm.snap.map (·.beat)) = some 1 ∧
    (after (.snapStart pcie 0) State.reset).opState SYS snapOp = 1 := by unfold Ready; decide +kernel
theorem witness_snap_beyond :
    let s := put [(SYS, Reg.SYS_SNAP_BASE_HI, 31)]
    poolSize < s.snapBase + snapBytes ∧ (after (.snapStart pcie 0) s).opState SYS snapOp = 4 := by decide +kernel
/-- A snapshot of frame 1 that runs. -/
def snapping (s : State := State.reset) : State :=
  put [(SYS, ⟨snapOp, 2, 0⟩, 1)] { s with cm := { snap := some { beat := 1, role := 2, base := 0, captured := none } } }
theorem witness_snap_abort : (snapping).opState SYS snapOp = 1 ∧ (after (.snapAbort pcie 0) (snapping)).opState SYS snapOp = 3 ∧
    (after (.snapAbort pcie 0) (snapping)).cm.snap = none := by decide +kernel
theorem witness_snap_message :
    let f := frame (.snap 5)
    ArrivesRouted (member) 0 f ∧ (member).opState SYS snapOp ≠ 1 ∧ ((after (.snapMessageReceived 0 f) (member)).cm.snap.map (·.beat)) = some 5 ∧
      ((after (.snapMessageReceived 0 (frame (.snap 2))) (member)).queue SYS).recs = [0x2500000000000000] := by unfold ArrivesRouted; decide +kernel
theorem witness_snap_written :
    let s : State := put [(SYS, ⟨snapOp, 2, 0⟩, 1)]
      { State.reset with cm := { snap := some { beat := 1, role := 2, base := 0, captured := some ([], List.replicate 64 1) } } }
    s.cm.snap.isSome = true ∧ ((snapping).cm.snap.map fun x => x.captured.isNone) = some true ∧
      (snapping { State.reset with tm := { frame := 1 } }).frameNo = 1 := by decide +kernel
/-- SNAP(5) meets a running snapshot, and a buffer beyond the host pool. -/
theorem witness_snap_refused :
    let f := frame (.snap 5)
    let far := put [(SYS, Reg.SYS_SNAP_BASE_HI, 31)] member
    ArrivesRouted (snapping member) 0 f ∧ (snapping member).opState SYS snapOp = 1 ∧
      ((after (.snapMessageReceived 0 f) (snapping member)).queue SYS).recs = [0x0200000000000000] ∧
      poolSize < far.snapBase + snapBytes ∧ (after (.snapMessageReceived 0 f) far).opState SYS snapOp = 4 := by
  unfold ArrivesRouted; decide +kernel
/-! Receive and ingest (R82, R325-R328). -/

/-- An RTP packet of payload type 96; a UDP frame that carries it to address 5, port 1000. -/
def rtp : RtpPacket := { version := 2, pt := 96, ssrc := 1, seq := 10, ts := 0, marker := false, authOk := true, payload := .coded [] }
def eth (r : Option RtpPacket := some rtp) : EthFrame :=
  { length := 1500, fcsOk := true, tag := none, vlans := [], ipv6 := false, ipOk := true, fragment := false, extHeader := false, src := 9, dst := 5,
    dport := 1000, udpOk := true, udpZero := false, control := none, buffersHigh := false, rtp := r }
/-- Port 0 has LINK; flow entry 0 matches that frame, with policer `q` (512 and above: none). -/
def receiving (q : Nat := 512) : State :=
  put [(NET 0, Reg.PAGE_CTL_ENABLE, 1), (NET 0, Reg.NET_PORT_STATE_LINK, 1), (NET 0, Reg.NET_PORT_CFG_MAX_FRAME, 9216)]
    { State.reset with net := { tbl := [(tblKey 0 1 0, [2 ^ 31 + q * 65536, 1000 + 96 * 65536, 5])] } }
theorem witness_receive : (receiving).rd (NET 0) Reg.NET_PORT_STATE_LINK = 1 ∧ (receiving).enabled (NET 0) = true ∧
    (receiving).rd (NET 0) Reg.NET_PORT_STATE_LOOPED = 0 ∧ (receiving).rd (NET 0) Reg.NET_PORT_CFG_MACSEC = 0 ∧ (receiving).frameBad 0 (eth) = false ∧
    (receiving).flowMatch 0 0 (eth) = true ∧ bits ((receiving).netWord 0 1 0 0) 25 16 = 512 ∧ bit ((receiving).netWord 0 1 0 0) 7 = false ∧
    bits ((receiving).netWord 0 1 0 1) 22 16 = 96 ∧ (after (.ethFrameReceived 0 0 (eth)) (receiving)).rd (NET 0) Reg.NET_RX_FRAMES = 1 := by decide +kernel
theorem witness_receive_checks :
    (after (.ethFrameReceived 0 0 { eth with fcsOk := false }) (receiving)).rd (NET 0) Reg.NET_RX_ERRORS_FCS = 1 ∧
    (after (.ethFrameReceived 0 0 { eth with length := 9217 }) (receiving)).rd (NET 0) ⟨0x50, 31, 16⟩ = 1 ∧
    (receiving).frameBad 0 { eth with udpOk := false } = true ∧ (after (.ethFrameReceived 0 0 { eth with udpOk := false }) (receiving)).rd (NETG 0) Reg.NETG_RX_BAD = 1 ∧
    (∀ i, i < 512 → (receiving).flowMatch 0 i { eth with dport := 7 } = false) ∧
    (after (.ethFrameReceived 0 0 (eth none)) (receiving)).rd (NETG 0) Reg.NETG_RX_BAD = 1 := by decide +kernel
theorem witness_unmatched :
    (after (.ethFrameReceived 0 0 { eth with dport := 7 }) (receiving)).rd (NETG 0) Reg.NETG_RX_UNMATCHED = 1 := by decide +kernel
/-- Policer 3 is empty. -/
theorem witness_policed : (receiving 3).policerTokens 0 3 < 1500 * 8192000000 ∧ (receiving 3).netWord 0 3 3 2 % 2 = 0 ∧
    (after (.ethFrameReceived 0 0 (eth)) (receiving 3)).rd (NETG 0) Reg.NETG_POLICED_DROP = 1 := by decide +kernel

/-- Stream 4 fills slot 1 with a picture of two lines of eight pixels; both have come, and the marker. -/
def filling (marker : Bool) : State :=
  put [(ING 4, Reg.INGEST_GEOMETRY_WIDTH, 8), (ING 4, Reg.INGEST_GEOMETRY_HEIGHT, 2), (ING 4, Reg.PAGE_CTL_ENABLE, 1), (ING 4, Reg.INGEST_STREAM_CFG_DUAL_PATH, 1)]
    { State.reset with ing := [(4, { ring := { base := 0, slotBytes := 65536, slots := 2, fill := some 1 }, runs := [(0, 0, 8), (1, 0, 8)], marker := marker })] }
theorem witness_publish : (filling true).fillComplete 4 = true ∧ (filling false).fillComplete 4 = false ∧
    (after (.ingestFramePublish 4) (filling true)).rd (ING 4) Reg.INGEST_NEWEST_NEWEST_SLOT = 1 ∧
    (after (.ingestFramePublish 4) (filling true)).rd (ING 4) Reg.INGEST_PROGRESS_PUBLISHED = 1 ∧
    (after (.ingestPathDown 4 true) (filling true)).rd (ING 4) ⟨0x00C, 2, 2⟩ = 1 ∧
    (after (.ingestNoSignal 4) (filling true)).rd (ING 4) ⟨0x00C, 0, 0⟩ = 1 := by decide +kernel

/-! Loadable tables (R110-R112, R142, R144, R261-R268). -/

/-- The last coefficient of a bank wraps INDEX, one beyond it is unmapped, and one of a bank in use is kept. -/
theorem witness_coefficients :
    let s := put [(SCALER 47, Reg.SCALER_COEF_INDEX_INDEX, 895), (SCALER 47, Reg.SCALER_COEF_INDEX_COEF_BANK, 1)]
    let t := after (.coefDataWrite pcie 47 0xFFFFF123) s
    Ready s pcie (SCALER 47) ∧ s.coefInUse 47 1 = false ∧ t.coefBits 47 1 895 = 0x123 ∧ t.rd (SCALER 47) Reg.SCALER_COEF_INDEX_INDEX = 0 ∧
      State.reset.coefInUse 47 0 = true ∧ ((after (.coefDataWrite pcie 47 1) State.reset).queue (SCALER 47)).recs = [0x2000000000000000] ∧
      ((after (.coefDataWrite pcie 47 1) (put [(SCALER 47, Reg.SCALER_COEF_INDEX_INDEX, 896)])).queue SYS).recs.length = 1 := by
  unfold Ready; decide +kernel
/-- The last entry of table 3 has 6 bits; STATS is read-only. -/
theorem witness_lut :
    let s := put [(COL 31, Reg.COLOUR_LUT_INDEX_INDEX, lutSize 3 - 1), (COL 31, Reg.COLOUR_LUT_INDEX_TABLE, 3), (COL 31, Reg.COLOUR_LUT_INDEX_LUT_BANK, 1)]
    Ready s pcie (COL 31) ∧ s.lutInUse 31 3 1 = false ∧ (after (.lutDataWrite pcie 31 0xFFF) s).lut 31 1 3 (lutSize 3 - 1) = 63 ∧
      (after (.lutDataWrite pcie 31 1) (put [(COL 31, Reg.COLOUR_LUT_INDEX_TABLE, 4)])).queue SYS ≠ {} := by unfold Ready; decide +kernel
theorem witness_statistics :
    let x : Stats := { hist := [(0, 77)], frame := 5 }
    let s := put [(COL 2, Reg.COLOUR_LUT_INDEX_TABLE, 4)] { State.reset with cmp := { rasters := [(2, { stats := some x })] } }
    Readable s pcie (COL 2) ∧ (after (.statsCaptureRead pcie 2) s).out = [.readData 77] ∧
      (after (.statsCaptureRead pcie 2) (put [(COL 2, Reg.COLOUR_LUT_INDEX_TABLE, 4)]
        { State.reset with cmp := { rasters := [(2, { stats := some { x with isSealed := true } })] } })).out = [.readData 0] := by
  unfold Readable; decide +kernel

/-- Word 3 of entry 8,191 of chiplet 1. -/
theorem witness_tile_map :
    let s := put [(MAP 1, Reg.MAP_TBL_INDEX_INDEX, 8191), (MAP 1, Reg.MAP_TBL_INDEX_WORD, 3)]
    let t := after (.tileMapDataWrite pcie 1 0x1234) s
    Ready s pcie (MAP 1) ∧ s.mapInUse 1 8191 = false ∧ t.mapWord 1 8191 3 = 0x1234 ∧ t.rd (MAP 1) Reg.MAP_TBL_INDEX_INDEX = 0 ∧
      (put [(SCAN 16, Reg.PAGE_CTL_ENABLE, 1), (SCAN 16, Reg.SCAN_MAP_RANGE_MAP_COUNT, 1)]).mapInUse 1 0 = true := by unfold Ready; decide +kernel
/-- A cell of chiplet 1 that nothing references; one of chiplet 0 at that page. -/
theorem witness_cell :
    let s := put [(CAL 1, Reg.CAL_CAL_INDEX_CELL, 2 ^ 20 - 1), (CAL 1, Reg.CAL_CAL_INDEX_WORD, 5)]
    let t := after (.calDataWrite pcie 1 9) s
    Ready s pcie (CAL 1) ∧ s.cellReferenced (2 ^ 20 - 1) = false ∧ (t.cell (2 ^ 20 - 1)).getD 5 0 = 9 ∧ t.rd (CAL 1) Reg.CAL_CAL_INDEX_CELL = 0 ∧
      ((after (.calDataWrite pcie 1 9) State.reset).queue SYS).recs.length = 1 := by unfold Ready; decide +kernel
/-- Entry 0 of chiplet 0 names cell 4 and raster 0 uses the entry: its write goes to the pending copy. -/
def referenced : State :=
  put [(SCAN 0, Reg.PAGE_CTL_ENABLE, 1), (SCAN 0, Reg.SCAN_MAP_RANGE_MAP_COUNT, 1), (CAL 0, Reg.CAL_CAL_INDEX_CELL, 4)]
    { State.reset with scn := { map := [(0, [0, 0x40004, 0x80000000, 4])] } }
theorem witness_referenced_cell : (referenced).cellReferenced 4 = true ∧ (referenced).pendCells 0 = [] ∧
    ((tfind (after (.calDataWrite pcie 0 9) (referenced)).scn.cellPend 4).map (·.getD 0 0)) = some 9 ∧
    (after (.calDataWrite pcie 0 9) (referenced)).cell 4 = (referenced).cell 4 := by decide +kernel
theorem witness_load :
    let s := put [(CAL 1, Reg.CAL_LOAD_FIRST, 2 ^ 20 - 1), (CAL 1, Reg.CAL_LOAD_COUNT, 1)]
    let t := after (.calLoadStart pcie 1 0) s
    Ready s pcie (CAL 1) ∧ s.opState (CAL 1) 0x58 ≠ 1 ∧ s.cellReferenced (2 ^ 20 - 1) = false ∧ t.opState (CAL 1) 0x58 = 1 ∧
      tfind t.scn.loads 1 = some (0, 2 ^ 20 - 1, 1) ∧ (after (.calLoadDone 1) t).opState (CAL 1) 0x58 = 2 ∧
      (after (.calLoadStart pcie 1 0) State.reset).opState (CAL 1) 0x58 = 4 := by
  unfold Ready; decide +kernel
/-! Rows, jobs, engines (R155-R173, R184, R213). -/

/-- A 64 x 64 picture of raster 2's frame 6: one CTU row, one tile column, one slice. -/
def picture (row : EncRow := {}) (z : EncSlice := {}) : EncPicture :=
  { number := 0, frame := 6, words := [0x20000, 0, 64 + 64 * 65536], rc := [], seq := 0, rows := [row], slices := [z] }
/-- Channel 3 codes it. -/
def coding (p : EncPicture := picture) (e : EncState := {}) (x : EncChannel := {}) (s : State := State.reset) : State :=
  { s with enc := { e with channels := [(3, { x with running := true, pictures := [p] })] } }
def job : PixelJob := { ch := 3, picture := 0, row := 0, col := 0, since := 0 }
theorem witness_handoff :
    let on (l : List (Nat × List Pix)) := coding picture {} {} (scanning 5 { composed := [{ composing with lines := l }] })
    (((on []).chan 3).nextHandoff.map (·.2)) = some 0 ∧ rowComposed composing picture.geo 0 = false ∧
      rowComposed { composing with lines := [(3, [])] } picture.geo 0 = true ∧
      (((on [(3, [])]).ras (encField picture.words Reg.ENC_CH_CFG_RASTER)).composed.find? fun f => f.frame = 6).isSome = true := by decide +kernel
theorem witness_dispatch :
    let s := coding picture { waiting := [job] }
    s.engineFor job = some 0 ∧ tfind (after (.pixelJobDispatch 7) s).enc.pixel 0 = some (job, 7) ∧
      (coding picture { waiting := [job], withdrawn := List.range 96 }).engineFor job = none := by decide +kernel
/-- The preferred engine is busy and the wait is short: the job waits (R167). -/
theorem witness_affinity :
    let s := put [(TSK, Reg.TSK_TSK_CFG_AFFINITY_WAIT, 100)] (coding picture { waiting := [job], pixel := [(5, ({ job with ch := 9 }, 0))] } { preferred := [(0, 5)] })
    s.preferred job = some 5 ∧ s.engineFor job = none ∧ (coding picture { waiting := [job] } { preferred := [(0, 5)] }).engineFor job = some 5 := by
  decide +kernel
/-- The wait is over: engine 0 of the same chiplet, or with that chiplet withdrawn the lowest of all; a preferred engine that becomes idle in this
cycle is waited for (R168). -/
theorem witness_affinity_over :
    let busy : EncState := { waiting := [job], pixel := [(5, ({ job with ch := 9 }, 0))] }
    let s (e : EncState) := put [(TSK, Reg.TSK_TSK_CFG_AFFINITY_WAIT, 0)] (coding picture e { preferred := [(0, 5)] })
    (s busy).engineFor job = some 0 ∧ (s { busy with withdrawn := [0, 1, 2, 3, 4] ++ (List.range 18).map (· + 6) }).engineFor job = some 24 ∧
      ({ s busy with pending := [.pixelJobComplete 0 5 0 0] } : State).completesNow 5 = true ∧
      ({ s busy with pending := [.pixelJobComplete 0 5 0 0] } : State).engineFor job = none := by decide +kernel
/-- Chiplet 0 has no idle engine: the lowest of all. -/
theorem witness_other_chiplet : (coding picture { withdrawn := List.range 24 }).preferred job = none ∧
    (coding picture { withdrawn := List.range 24 }).engineFor job = some 24 := by decide +kernel
theorem witness_publish_analysis :
    let s := coding picture { pixel := [(5, (job, 0))] } { rung := some (1, 0) }
    tfind s.enc.pixel 5 = some (job, 0) ∧ (s.chan 3).rung = some (1, 0) ∧ ((s.chan 3).pic 0).isSome = true ∧
      (after (.analysisPublish 5 9) s).rd (LADDER 1) Reg.LADDER_ROWS_ANALYSED = 1 := by decide +kernel
theorem witness_job_complete :
    let s := coding (picture { entered := true, handed := some 0, sent := [0] }) { pixel := [(5, (job, 0))] }
    tfind s.enc.pixel 5 = some (job, 0) ∧ ((s.chan 3).pic 0).isSome = true := by decide +kernel
/-- A completion waits for an error on its engine in the same cycle (R168). -/
theorem witness_job_waits :
    let s : State := { coding (picture { entered := true, handed := some 0, sent := [0] }) { pixel := [(5, (job, 0))] } with pending := [.jobError 5 9] }
    (s.publishAnalysis 5).failsNow 5 = true ∧ tfind (after (.pixelJobComplete 0 5 0 9) s).enc.pixel 5 = some (job, 0) := by decide +kernel
theorem witness_floor_recode :
    let s := coding (picture { released := some 1, recoding := true })
    let t := coding (picture { released := some 1 })
    ((s.chan 3).allRows.find? fun e => (e.1.row e.2).recoding).isSome = true ∧
      ((((after (.floorRecodeDone 3 9) s).chan 3).pic 0).map fun p => (p.row 0).recoding) = some false ∧
      ((((after (.seamFilterDone 3 9) t).chan 3).pic 0).map fun p => (p.row 0).seamed) = some true := by decide +kernel
theorem witness_entropy :
    let s := coding (picture { released := some 1, seamed := true } { ready := some 1 }) { withdrawn := [128] }
    s.readySlices = [(3, 0, 0, 1)] ∧ s.entropyAvail 0 = false ∧ s.entropyAvail 1 = true ∧
      tfind (after (.entropyJobDispatch 9) s).enc.entropy 1 = some (3, 0, 0, 9) ∧ (coding).readySlices = [] := by decide +kernel
theorem witness_assembled :
    let s := coding (picture { released := some 1, seamed := true } { ready := some 1, engine := some (1, 2) }) { entropy := [(1, (3, 0, 0, 2))] }
    let w := coding (picture {} { ready := some 1 }) { entropy := [(1, (3, 0, 0, 2))] }
    tfind s.enc.entropy 1 = some (3, 0, 0, 2) ∧ ((s.chan 3).pic 0).isSome = true ∧ (sliceSpan picture.words 0).2 = 1 ∧
      tfind (after (.sliceAssembled 1 9) w).enc.entropy 1 = some (3, 0, 0, 2) := by decide +kernel

theorem witness_job_error :
    let s := coding picture { pixel := [(95, (job, 0))] }
    let t := after (.jobError 95 9) s
    tfind s.enc.pixel 95 = some (job, 0) ∧ t.enc.withdrawn = [95] ∧
      (t.queue TSK).recs = [BitVec.ofNat 64 (0x20 * 2 ^ 56 + 95 * 2 ^ 48 + 3 * 2 ^ 40), BitVec.ofNat 64 (0x21 * 2 ^ 56 + 95 * 2 ^ 48)] := by decide +kernel
theorem witness_loan : let s := put [(TSK, Reg.TSK_TSK_CFG_AFFINITY_WAIT, 0)]
    s.restful 95 = true ∧ (after (.engineSelftestLoan 95 0) s).enc.lent = [95] ∧ (after (.engineSelftestLoan 143 0) s).enc.lent = [143] ∧
    (put [(TSK, Reg.TSK_TSK_CFG_AFFINITY_WAIT, 1)]).restful 95 = false ∧ ({ s with enc := { s.enc with waiting := [job] } }).restful 95 = false ∧
    (after (.engineReturn 95 0) { State.reset with enc := { lent := [95] } }).enc.lent = [] ∧
    ((after (.engineReturn 143 0) { State.reset with enc := { withdrawn := [143] } }).queue TSK).recs = [BitVec.ofNat 64 (0x22 * 2 ^ 56 + 143 * 2 ^ 48)] := by
  decide +kernel
theorem witness_clears : Ready State.reset pcie TSK ∧ Ready State.reset pcie ⟨.encRc, 0⟩ ∧
    (after (.histClear pcie 0) { State.reset with enc := { obs := [(3 * 16 + 11, 9), (3 * 16 + 12, 4)] } }).enc.obs = [(3 * 16 + 12, 4)] ∧
    (after (.rcClear pcie 0) (put [(⟨.encRc, 0⟩, Reg.RC_RC_INDEX_CHANNEL, 127), (RCE 127, Reg.RC_LAT_MAX 3, 9), (RCE 127, Reg.RC_MIN_SLACK, 9)])).rd (RCE 127)
      Reg.RC_MIN_SLACK = 0x7FFFFFFF := by unfold Ready; decide +kernel
theorem witness_hint_error :
    let s := coding (picture { handed := some 0, hints := [{ dom := 4 }] })
    let t := after (.hintError 3 (0, 0) [0]) s
    ((s.chan 3).pic 0).isSome = true ∧ picture.unread 0 [0, 1] = [0] ∧
      (((t.chan 3).pic 0).map fun p => (p.row 0).hints.map (·.dom)) = some [255] ∧ (t.queue (ENC 3)).total = 1 := by decide +kernel
/-! Mailbox, admission, decoding, the reference, tile lanes (R181, R238, R256, R290-R312, R494). -/

/-- A mailbox command runs. -/
def running (code : Nat) (req : List Nat) (s : State := State.reset) : State :=
  put [(MBX, ⟨0xC8, 2, 0⟩, 1)] { s with mbx := { code := code, req := req } }

/-- ENC_CH_004 of file 07's worked example: 7,680 x 4,320 on RASTER_02 at 120 Hz, 4:2:2; and its ladder's rungs. -/
def broadcast (cfg size : Nat) (c : Nat := 4) (s : State := State.reset) : State :=
  pend [(ENC c, Reg.ENC_CH_CFG, cfg), (ENC c, Reg.ENC_SRC_SIZE, size), (ENC c, Reg.ENC_SLICE_CFG, 0x304), (ENC c, Reg.ENC_CODING_CFG, 0x742),
    (ENC c, Reg.ENC_GOP_CFG, 2), (SCAN 2, Reg.SCAN_H_TIMING_H_ACTIVE, 7680), (SCAN 2, Reg.SCAN_V_TIMING_V_ACTIVE, 4320), (RCE c, Reg.RC_MAX_RATE, 3125000)]
    { s with tm := { s.tm with rate := 12 } }
theorem test_engine_demand :
    let d (cfg : Nat) (r : Bool) := engineDemand 12 (encWordsV (broadcast cfg 0x10E01E00).rdP 4) r
    d 0x00021662 false = 23014 ∧ entropyDemand 3125000 = 105 ∧ jobSlots (encWordsV (broadcast 0x00021662 0x10E01E00).rdP 4) = 256 := by decide +kernel
theorem witness_enc_admit (h : levelExceeded 12 (encWordsV (running 0x0201 [4] (broadcast 0x00021662 0x10E01E00)).rdP 4) = false) :
    let s := running 0x0201 [4] (broadcast 0x00021662 0x10E01E00)
    s.mbxRunning 0x0201 = true ∧ encBad s.rdP s.tm.rate 4 = false ∧ s.rungOf 4 = false ∧ (s.admitted1 4 none).d ≤ 93000 ∧
      (s.admitted1 4 none).slots ≤ 16384 := by
  refine ⟨by decide +kernel, ?_, by decide +kernel, by decide +kernel, by decide +kernel⟩
  show encBad (running 0x0201 [4] (broadcast 0x00021662 0x10E01E00)).rdP 12 4 = false
  unfold encBad
  simp only [h, Bool.or_false]
  decide +kernel
theorem witness_enc_refuse :
    let on (l : List (Nat × EncChannel)) := running 0x0201 [4] (broadcast 0x00021662 0x10E01E00 4 { State.reset with enc := { channels := l } })
    let full := on [(20, { grant := some [], d := 93000 - 23013 })]
    (on [(4, { grant := some [] })]).mbxRunning 0x0201 = true ∧ (((on [(4, { grant := some [] })]).chan 4).grant).isSome = true ∧
      93000 < full.demandSum (·.d) + (full.admitted1 4 none).d ∧ (full.capacity [full.admitted1 4 none] false) = 2 ∧
      encBad (running 0x0201 [4]).rdP 9 4 = true ∧
      (after .encAdmit (running 0x0201 [4])).rd MBX (Reg.MBX_RSP 0) = 1 := by decide +kernel
/-- LADDER_01 of the example, in rungs 10 and 11. -/
def ladder : State :=
  running 0x0202 [1] (pend [(LADDER 1, Reg.LADDER_LADDER_CFG_RUNGS_M1, 1), (LADDER 1, Reg.LADDER_RUNGS_LO, 0xB0A)]
    (broadcast 0x04021662 0x10E01E00 10 (broadcast 0x08021662 0x10E01E00 11)))
theorem witness_ladder_admit : ladder.mbxRunning 0x0202 = true ∧ ladderRungs ladder.rdP 1 = [10, 11] ∧ ladderBad ladder.rdP 1 = false ∧
    ladder.enc.ladders = [] ∧ (∀ c ∈ [10, 11], (ladder.chan c).grant = none) ∧
    ladder.capacity [ladder.admitted1 10 (some (1, 0)), ladder.admitted1 11 (some (1, 1))] true = 0 ∧
    ladderBad (running 0x0202 [1]).rdP 1 = true ∧
    (after .ladderAdmit { ladder with enc := { ladders := [(1, [10], 0, 0)] } }).rd MBX (Reg.MBX_RSP 0) = 5 := by decide +kernel
theorem witness_enc_release :
    let on (x : EncChannel) (st : Nat) := put [(ENC 4, Reg.ENC_CH_STATE_STATE, st)] (running 0x0203 [4] { State.reset with enc := { channels := [(4, x)] } })
    (after .encRelease (on {} 0)).rd MBX (Reg.MBX_RSP 0) = 6 ∧ (after .encRelease (on { grant := some [] } 2)).rd MBX (Reg.MBX_RSP 0) = 5 ∧
      (after .encRelease (on { grant := some [] } 1)).rd (ENC 4) Reg.ENC_CH_STATE_STATE = 0 ∧
      (after .encQuery (running 0x0204 [] (on { grant := some [], d := 23014, e := 105 } 1))).rd MBX (Reg.MBX_RSP 1) = 23014 := by decide +kernel

/-- A ladder of rungs 10 and 11 is released with both, or not at all while one runs. -/
theorem witness_ladder_release :
    let on (st : Nat) := put [(ENC 10, Reg.ENC_CH_STATE_STATE, 1), (ENC 11, Reg.ENC_CH_STATE_STATE, st)] (running 0x0203 [0x81] { State.reset with
      enc := { channels := [(10, { grant := some [], rung := some (1, 0) }), (11, { grant := some [], rung := some (1, 1) })], ladders := [(1, [10, 11], 9, 4)] } })
    (after .encRelease (on 1)).enc.ladders = [] ∧ (after .encRelease (on 1)).rd (ENC 11) Reg.ENC_CH_STATE_STATE = 0 ∧
      (after .encRelease (on 2)).rd MBX (Reg.MBX_RSP 0) = 5 ∧ (after .encRelease (running 0x0203 [0x82])).rd MBX (Reg.MBX_RSP 0) = 6 := by decide +kernel

/-- DEC stream 12 of file 10's worked example: demand 600, one pipeline. -/
def ferryStream : State := pend [(DEC 12, Reg.DEC_DEC_CFG, 0x309429C6), (DEC 12, Reg.DEC_GEOMETRY, 0x10E01E00), (DEC 12, Reg.DEC_REGION, 0x4377005A)]
theorem test_decode_demand : decDemand ferryStream.rdP 12 = 600 ∧ decDemand (pend [(DEC 12, Reg.DEC_DEC_CFG_PARTIAL, 0)] ferryStream).rdP 12 = 1919 := by
  decide +kernel
theorem witness_dec_admit :
    let s := running 0x0301 [12] ferryStream
    decBad s.rdP 12 = false ∧ s.placeDec 600 = some [0] ∧ ((after .decAdmit s).decStream 12).demand = 600 ∧
      (after .decAdmit s).rd MBX (Reg.MBX_RSP 1) = 14429 ∧
      (after .decAdmit (running 0x0301 [12])).rd MBX (Reg.MBX_RSP 0) = 1 ∧
      (after .decAdmit { s with dec := [(12, { grant := some [] })] }).rd MBX (Reg.MBX_RSP 0) = 5 ∧
      (after .decAdmit { s with dec := [(3, { grant := some [], demand := 7201 })] }).rd MBX (Reg.MBX_RSP 0) = 2 := by decide +kernel
theorem witness_dec_release :
    let on (x : DecStream) (e : Nat) := put [(DEC 12, Reg.PAGE_CTL_ENABLE, e)] (running 0x0302 [12] { State.reset with dec := [(12, x)] })
    (after .decRelease (on {} 0)).rd MBX (Reg.MBX_RSP 0) = 6 ∧ (after .decRelease (on { grant := some [] } 1)).rd MBX (Reg.MBX_RSP 0) = 5 ∧
      ((after .decRelease (on { grant := some [] } 0)).decStream 12) = {} := by decide +kernel

/-- A 64 x 64 VVC SPS; a picture of access unit 9 that uses it; stream 5, latched for it, fed by a ferry of its own node. -/
def sps : DecSps :=
  { id := 0, width := 64, height := 64, profile := .vvcMain10, level := 40, depth := 10, fieldSeq := false, chroma := 0, refs := 1, reorders := false,
    ctu := 64, tileCols := 1, subpicsAcross := 1, subpics := [], treated := false, vui := none }
def header (au : Nat) : DecHeader :=
  { au := au, poc := 0, frame := 0, cvs := true, irap := true, gdr := false, recovery := none, refs := [], keep := [], hash := none, output := true,
    outputs := [], removes := [], bumps := [] }
def decPicture : DecPicture := { number := 4, epoch := 0, head := header 9, sps := sps }
def decoding (x : DecStream) : State :=
  latch [(DEC 5, Reg.DEC_DEC_CFG_SOURCE, 1), (DEC 5, Reg.DEC_GEOMETRY_WIDTH, 64), (DEC 5, Reg.DEC_GEOMETRY_HEIGHT, 64), (DEC 5, Reg.DEC_DEC_CFG_REFS, 1)]
    { State.reset with dec := [(5, { x with running := true })] }
theorem witness_decoding :
    let on := decoding { sps := some sps, pictures := [decPicture] }
    let off : State := { on with dec := [] }
    on.isDim = false ∧ (on.decStream 5).running = true ∧ ((on.decStream 5).open').map (·.number) = some 4 ∧
      (on.advance 9).decInput 5 (.other 10) = some (on.advance 9) ∧ (off.advance 9).decInput 5 (.other 10) = some (off.advance 9) ∧
      (off.decStream 5).running = false ∧ (State.reset.advance 9).decInput 5 (.other 10) = none ∧
      (((after (.decNalReceived 5 9 (.other 10)) on).decStream 5).open').isNone = true ∧
      (((after (.decNalReceived 5 9 (.other 9)) on).decStream 5).open').isSome = true ∧
      (after (.decNoInput 5) on).rd (DEC 5) ⟨0x00C, 0, 0⟩ = 1 ∧ (on.advance 9).decAlign 5 = 0 ∧
      (((decoding { sps := some sps, pictures := [{ decPicture with closed := true }] }).decStream 5).pictures.find? fun p => p.closed && !p.complete).isSome =
        true := by decide +kernel
theorem witness_decode_sps :
    let t := after (.decNalReceived 5 9 (.sps 9 sps)) (decoding {})
    (t.decStream 5).sps = some sps ∧ (t.decStream 5).refused = none ∧
      ((after (.decNalReceived 5 9 (.sps 9 { sps with width := 65 })) (decoding {})).decStream 5).refused = some 0 ∧
      ((after (.decNalReceived 5 9 (.sps 9 { sps with profile := .hevcMain })) (decoding {})).decStream 5).refused = some 1 ∧
      (decoding { sps := some sps }).decStarts 5 (header 9) = true ∧ (decoding { sps := some sps, lastAu := some 9 }).decStarts 5 (header 9) = false ∧
      (((after (.decNalReceived 5 9 (.slice (header 9) [] true [])) (decoding { sps := some sps })).decStream 5).pictures.map (·.head.au)) = [9] := by
  decide +kernel
/-- The COMPRESSED INGEST page 2 that names stream 5 passes on its oldest NAL unit, and no other. -/
theorem witness_decode_input :
    let s := put [(ING 2, Reg.PAGE_CTL_ENABLE, 1), (ING 2, Reg.INGEST_STREAM_CFG_KIND, 3), (ING 2, Reg.INGEST_STREAM_CFG_DEC_STREAM, 5)]
      { decoding {} with lat := [], ing := [(2, { coded := [.other 3, .other 4] })] }
    decFeeds s.rd 5 = [2] ∧ ((s.decInput 5 (.other 3)).map fun w => (w.stream 2).coded) = some [.other 4] ∧ s.decInput 5 (.other 4) = none := by
  decide +kernel

/-- Beat rate 60 Hz, REF_IN at 60 Hz: no source, PTP, REF_IN that divides, REF_IN that does not (50 Hz). -/
theorem witness_ref_cfg :
    let go (v : Word) := let t := after (.refCfgWrite pcie v) State.reset
      (t.rd SYS Reg.SYS_REF_STATE_STATE, t.rd SYS Reg.SYS_TIME_SRC_SOURCE, t.rd SYS Reg.SYS_TIME_SRC_LOCKED)
    go 1 = (1, 1, 0) ∧ go 3 = (0, 0, 0) ∧ go 0x902 = (1, 2, 0) ∧ go 0x702 = (4, 3, 0) := by decide +kernel
theorem witness_ref_ready : Ready State.reset pcie SYS := by unfold Ready; decide +kernel
/-- REF_IN of 60 Hz, LOCKED, the last accepted edge at 0: an edge on its instant, one half a period off. -/
def reference : State :=
  put [(SYS, ⟨0x120, 11, 0⟩, 0x902), (SYS, Reg.SYS_REF_CFG_GLITCH_WINDOW, 10), (SYS, Reg.SYS_REF_STATE_STATE, 2)]
    { State.reset with ref := { lastAccepted := some 0, lastEdge := some 0, period := beatStart 9 1 } }
theorem witness_ref_edge :
    reference.rd SYS Reg.SYS_REF_CFG_TIME_SEL = 2 ∧ reference.following = false ∧ reference.rd SYS Reg.SYS_REF_STATE_STATE = 2 ∧
      (after (.refEdge (beatStart 9 1 / 2)) reference).rd SYS Reg.SYS_GLITCH_COUNT = 1 ∧
      (after .refEdgeTimeout reference).rd SYS Reg.SYS_LOSS_COUNT = 1 ∧ State.reset.rd SYS Reg.SYS_REF_CFG_TIME_SEL ≠ 2 := by decide +kernel
/-- The eighth of 8 equal intervals: of 60 Hz in HOLDOVER; of 50 Hz; of 30 Hz with RATE_FOLLOW 1, two beats of 60 Hz. -/
theorem witness_ref_rate :
    let on (l : List (Page × Field × Nat)) (p : Nat) := put l { reference with ref := { lastEdge := some 0, run := List.replicate 7 p, period := beatStart 9 1 } }
    let go (l : List (Page × Field × Nat)) (p : Nat) := after (.refEdge p) (on l p)
    let p60 := beatStart 9 1
    agree8 (withInterval (List.replicate 7 p60) p60) = true ∧ (go [(SYS, Reg.SYS_REF_STATE_STATE, 3)] p60).rd SYS Reg.SYS_REF_STATE_STATE = 1 ∧
      (go [] (beatStart 7 1)).rd SYS Reg.SYS_REF_STATE_STATE = 4 ∧ supportedRate 9 (2 * p60) = some (4, 2) ∧
      (go [(SYS, Reg.SYS_REF_CFG_RATE_FOLLOW, 1)] (2 * p60)).rd SYS Reg.SYS_REF_STATE_REF_DIV_M1 = 1 := by decide +kernel
theorem witness_ref_edge_good : let p := beatStart 9 1
    let off := ((p : Int) - ((0 + max 1 ((p - 0 + p / 2) / p) * p : Nat) : Int)).natAbs
    off * 1000 ≤ reference.rd SYS Reg.SYS_REF_CFG_GLITCH_WINDOW * p := by decide +kernel

def tileLane (x : TileLane := {}) : State :=
  put [(TL 895, Reg.PAGE_CTL_ENABLE, 1), (TL 895, Reg.TL_LANE_STATE_BLOCK_LOCK, 1)] { State.reset with scn := { lanes := [(895, x)] } }
/-- The blocks of a packet of the return direction, scrambled from the state 0 that `tileLane` descrambles from. -/
def sent (bs : List TileBlock) : List TileBlock := (throughBlocks scrambleBit 0 bs).2
/-- A REPORT of position 15 with GEOMETRY_ERR, TEMP 0x1234, FRAME 3; the same with the reserved type 7. -/
def reportH : Nat := 8 + 15 * 2 ^ 4 + 2 ^ 9 + 0x1234 * 2 ^ 16 + 3 * 2 ^ 48
theorem test_packet_blocks : packetBlocks reportH 0 [] =
    [⟨2, [0x78, 0xF8, 0x02, 0x34, 0x12, 0, 0, 0x03]⟩, ⟨1, [0, 0, 0, 0, 0, 0, 0, 0]⟩,
      ⟨2, 0x87 :: bytesOf 7 (crc32c [0xF8, 0x02, 0x34, 0x12, 0, 0, 0x03, 0, 0, 0, 0, 0, 0, 0, 0])⟩] := by decide +kernel
/-- CRC-32C of the nine digits. -/
theorem test_crc32c : crc32c [0x31, 0x32, 0x33, 0x34, 0x35, 0x36, 0x37, 0x38, 0x39] = 0xE3069283 := by decide +kernel
theorem witness_report :
    let on (bs : List TileBlock) (x : TileLane := {}) := after (.tileReportReceived 895 (sent bs)) (tileLane x)
    (tileLane).rd (TL 895) Reg.TL_LANE_CTL_LOOPBACK = 0 ∧ (tileLane).rd (TL 895) Reg.TL_LANE_STATE_BLOCK_LOCK = 1 ∧ (tileLane).enabled (TL 895) = true ∧
      ((tileLane).tlane 895).isOut = false ∧ ((tileLane).tlane 895).descrambler = 0 ∧ ((tileLane).tlane 895).open' = none ∧
      (throughBlocks descrambleBit 0 (sent (packetBlocks reportH 0 []))).2 = packetBlocks reportH 0 [] ∧
      (tfind ((on (packetBlocks reportH 0 [])).tlane 895).reports 15).map (fun r => (r.temp, r.frame, r.geometry, r.overtemp)) = some (0x1234, 3, true, false) ∧
      ((on (packetBlocks reportH 0 [])).queue (TILE 1)).recs = [BitVec.ofNat 64 (0x23 * 2 ^ 56 + 15 * 2 ^ 48 + 895 * 2 ^ 32)] ∧
      (on (packetBlocks (reportH - 1) 0 [])).rd (TILE 1) Reg.TILE_REPORTS_BAD = 1 ∧ ((on (packetBlocks (reportH - 1) 0 [])).tlane 895).bad = 0 ∧
      ((on [⟨2, 0x87 :: bytesOf 7 9⟩] { open' := some { header := bytesOf 7 reportH } }).tlane 895).bad = 1 ∧
      ((on [⟨2, 0x78 :: bytesOf 7 5⟩] { open' := some { header := bytesOf 7 reportH } }).tlane 895).bad = 1 ∧
      ((on [⟨3, bytesOf 8 0⟩] { open' := some { header := [] } }).tlane 895).open' = some { header := [], spoilt := true } := by decide +kernel
theorem witness_cable :
    ((tileLane { causes := [2, 5] }).tlane 895).isOut = true ∧
      ((after (.cableFaultDetect 895 [3, 7]) (tileLane)).tlane 895).causes = [3, 7] ∧
      ((after (.cableRetry 895 []) (tileLane { causes := [2, 5] })).tlane 895).causes = [5] ∧
      ((after (.cableFaultClears 895 5) (tileLane { causes := [5, 7] })).tlane 895).causes = [7] := by decide +kernel
theorem witness_lane_retry : Ready (put [(TILE 1, Reg.TILE_LANE_INDEX_LANE, 447)] (tileLane { causes := [4] })) pcie (TILE 1) ∧
    ((after (.tileLaneRetry pcie 1 2 { noFinds with causes := [] }) (put [(TILE 1, Reg.TILE_LANE_INDEX_LANE, 447)] (tileLane { causes := [4] }))).tlane 895).causes = [] := by
  unfold Ready; decide +kernel

/-- LANE 448 names no lane; a disabled lane; NO_RETURN without loss of signal; a packet in framing goes with its lane. -/
theorem witness_cable_none :
    let beyond := put [(TILE 1, Reg.TILE_LANE_INDEX_LANE, 448)] (tileLane { causes := [4] })
    let framing : State := { tileLane with scn := { framing := [{ lane := 895, h := 2, g := 0, payload := [], start := 9 }, { lane := 3, h := 2, g := 0, payload := [], start := 9 }] } }
    (after (.tileLaneRetry pcie 1 2 noFinds) beyond).scn = beyond.scn ∧ (State.reset).enabled (TL 895) = false ∧
      ((after (.cableFaultDetect 895 [6, 8]) (tileLane)).tlane 895).causes = [] ∧
      (after (.cableFaultDetect 895 [1]) framing).scn.framing.map (·.lane) = [3] := by decide +kernel

/-- Lane 7 of either kind in a phase. -/
def lane (w : Bool) (phase : Nat) (l : List (Page × Field × Nat) := []) (eq : List Int := []) : State :=
  put ([(lanePage w 7, Reg.PAGE_CTL_ENABLE, 1), (lanePage w 7, laneState w 2 0, phase)] ++ l) { State.reset with serial := [(serialKey w 7, { eq := eq })] }
theorem witness_bring_up :
    (after (.lanePllLock true 7) (lane true 1)).phase true 7 = 2 ∧ (after (.laneCdrLock true 7) (lane true 2)).phase true 7 = 3 ∧
      (after (.laneCdrLock true 7) (lane true 2 [(WL 7, laneState true 3 3, 1)])).phase true 7 = 2 ∧
      (after (.laneAdaptDone true 7 [1] 0 0) (lane true 3)).phase true 7 = 4 ∧
      ((after (.lanePllTimeout true 7) (lane true 1)).queue (WL 7)).total = 1 ∧
      (after (.blockLockAcquire 7) (lane false 4)).rd (TL 7) Reg.TL_LANE_STATE_BLOCK_LOCK = 1 ∧
      ((after (.blockLockPolarityTimeout 7) (lane false 4)).serialOf false 7).inverted = true := by decide +kernel
theorem witness_detectors :
    (after (.laneLosAssert true 7) (lane true 4)).phase true 7 = 2 ∧ (after (.laneLolAssert true 7) (lane true 3)).lol true 7 = true ∧
      (after (.laneLosAssert true 7) (lane true 4 [(WL 7, laneCtl true 1 0, 2)])).phase true 7 = 4 ∧
      (after (.laneLosClear true 7) (lane true 2 [(WL 7, laneState true 3 3, 1)])).los true 7 = false ∧
      (after (.laneLolClear true 7) (lane true 2 [(WL 7, laneState true 4 4, 1)])).lol true 7 = false ∧
      ((after (.laneAdaptUpdate true 7 [1, -1]) (lane true 4 [] [5, 5])).serialOf true 7).eq = [6, 4] := by decide +kernel
theorem witness_lane_ctl : Ready (lane true 4) pcie (WL 7) ∧ Ready (lane false 4) pcie (TL 7) ∧
    (after (.laneAdaptRestart pcie true 7 0) (lane true 4)).phase true 7 = 3 ∧
    (after (.laneLoopbackChange pcie true 7 2) (lane true 4)).loopback true 7 = 2 ∧
    (after (.laneErrClear pcie true 7 0) (put [(WL 7, Reg.WL_PRBS_ERRORS, 9)] (lane true 4))).rd (WL 7) Reg.WL_PRBS_ERRORS = 0 := by
  unfold Ready; decide +kernel
/-! Network, PTP, egress, the fabric's links and credits (R322-R338, R344-R361, R366-R381). -/

theorem witness_net_link : let on := put [(NET 63, Reg.PAGE_CTL_ENABLE, 1)]
    on.enabled (NET 63) = true ∧ (after (.netLinkRise 63) on).rd (NET 63) Reg.NET_PORT_STATE_LINK_UPS = 1 ∧
      (after (.netLinkFall 63) (put [(NET 63, Reg.NET_PORT_STATE_LINK, 1)] on)).rd (NET 63) Reg.NET_PORT_STATE_LINK = 0 := by decide +kernel
/-- Table 2, entry 2,047; an entry in use (MACSEC); an INDEX beyond table 4. -/
theorem witness_net_table :
    let at' (t i : Nat) (s : State) := put [(NETG 1, Reg.NETG_TBL_INDEX_TABLE, t), (NETG 1, Reg.NETG_TBL_INDEX_INDEX, i), (NETG 1, ⟨0x4C, 31, 0⟩, 77)] s
    let used := put [(NET 33, Reg.PAGE_CTL_ENABLE, 1), (NET 33, Reg.NET_PORT_CFG_MACSEC, 1)]
    (after (.netTableWrite pcie 1 1) (at' 2 2047 State.reset)).netWord 1 2 2047 1 = 77 ∧ (at' 4 5 used).netInUse 1 4 5 = true ∧
      ((after (.netTableWrite pcie 1 1) (at' 4 5 used)).queue (NETG 1)).total = 1 ∧ netTableSize 4 ≤ 160 ∧
      ((after (.netTableWrite pcie 1 1) (at' 4 160 State.reset)).queue SYS).total = 1 ∧
      ((after (.netTableRead pcie 1 2) (at' 2 5 State.reset)).word (NETG 1) 0x4C).toNat = 0 := by decide +kernel
theorem witness_tables_ready : Ready State.reset pcie (NETG 0) ∧ Ready State.reset pcie (NETG 1) ∧ Ready State.reset pcie (SCHT 0) ∧
    Ready State.reset pcie (SCHT 1) := by unfold Ready; decide +kernel

/-- PTP on port 40: PTP_STATE as given, a master known. -/
def ptp (st : Nat) : State :=
  put [(NET 40, Reg.PAGE_CTL_ENABLE, 1), (NET 40, Reg.NET_PORT_CFG_PTP, 1), (NETG 1, Reg.NETG_PTP_CFG_ROLE, 2), (NET 40, Reg.NET_PORT_STATE_PTP_STATE, st)]
    { State.reset with net := { ptp := [(1, { master := some 8, grandmaster := 5 })] } }
theorem witness_ptp : 40 % 32 ∈ (ptp 6).ptpPorts 1 ∧ 0 ∉ State.reset.ptpPorts 0 ∧ ((ptp 6).ptpOf 1).master ≠ none ∧
    (ptp 6).rd SYS Reg.SYS_REF_CFG_TIME_SEL ≠ 1 ∧ (after (.ptpMessageTimer 40 .sync) (ptp 6)).out = [.control 40 "Sync"] ∧
    (after (.ptpMessageTimer 40 .delayReq) (ptp 9)).out = [.control 40 "Delay_Req"] ∧ (after (.ptpMessageTimer 40 .announce) (ptp 9)).out = [] ∧
    ((after (.ptpAnnounceTimeout 40) (ptp 9)).ptpOf 1).master = none ∧
    (ptp 9).rd (NETG 1) Reg.NETG_PTP_CFG_DOMAIN = 127 ∧ (ptp 9).rd (NETG 1) Reg.NETG_PTP_CFG_IPV6 = 0 ∧
    (after (.ptpMessageReceived 40 0 ⟨127, false, (.announce [(8, 9)] 5 6 (some 8))⟩) (ptp 9)).rd (NETG 1) Reg.NETG_GM_ID_LO = 5 ∧
    (after (.ptpMessageReceived 40 0 ⟨1, false, (.announce [(8, 9)] 5 6 (some 8))⟩) (ptp 9)).rd (NETG 1) Reg.NETG_GM_ID_LO = 0 ∧
    (after (.ptpMessageReceived 40 0 ⟨127, false, .delayReq⟩) (ptp 6)).out = [.control 40 "Delay_Resp"] := by decide +kernel
/-- The source is PTP of chiplet 1: the first Sync of ACQUIRING steps SYSTIME, the sixteenth in a row within 100 ns locks, one after HOLDOVER
acquires again, and the master's loss in LOCKED loses the reference. -/
theorem witness_ptp_servo :
    let s (ref n : Nat) (stepped : Bool) : State :=
      let b := put [(SYS, Reg.SYS_REF_CFG_TIME_SEL, 1), (SYS, Reg.SYS_REF_STATE_STATE, ref)] (ptp 9)
      { b with net := { ptp := [(1, { master := some 8, grandmaster := 5, inLimits := n })], ptpFirst := some 1 }, ref := { stepped := stepped } }
    let go (r n : Nat) (b : Bool) (o : Int) := after (.ptpMessageReceived 40 (2 ^ 30) ⟨127, false, (.sync o 7)⟩) (s r n b)
    (s 1 0 false).following = false ∧ (s 1 0 false).pictureEnabled = false ∧ (go 1 0 false 3).tm.sys = 2 ^ 30 - 3 * 65536 ∧ (go 1 0 false 3).ref.stepped = true ∧
      (go 1 15 true (-100)).rd SYS Reg.SYS_REF_STATE_STATE = 2 ∧ (go 1 14 true 100).rd SYS Reg.SYS_REF_STATE_STATE = 1 ∧
      ((go 1 15 true 101).ptpOf 1).inLimits = 0 ∧ (go 3 0 true 0).rd SYS Reg.SYS_REF_STATE_STATE = 1 ∧
      (after (.ptpAnnounceTimeout 40) (s 2 0 true)).rd SYS Reg.SYS_LOSS_COUNT = 1 := by decide +kernel

/-- A packet of 100 wire bytes in queue 0 of chiplet 0; buckets of queue, node 0 and port 0. -/
def packet : TxPacket :=
  { flow := 0, port := 0, copyB := false, kind := 0, pt := 96, ssrc := 0, seq := 0, ts := 0, marker := false, bytes := 60, wire := 100, release := 0,
    sealedFrame := none, resolved := true, marks := [] }
def egress (c : Nat := 100 * 156250) : State :=
  let b : Bucket := { c := c, p := 100 * 156250 }
  let e := [0, 0, 0, 100, 100]
  { State.reset with sch := { tbl := [(tblKey 0 0 0, e), (tblKey 0 1 0, e), (tblKey 0 2 0, e)], queues := [(0, { pkts := [packet], bucket := b })],
                              nodes := [(0, { bucket := b })], ports := [(0, { bucket := b })] } }
theorem witness_egress :
    (egress).selectQueue 0 0 = some (0, true) ∧ (egress 0).selectQueue 0 0 = some (0, false) ∧ (egress 0).committedOf 0 0 = [] ∧
      ((egress).advance 0).headOf 0 = some packet ∧ (egress).enabled (NET 0) = false ∧ (egress).rd (SCH 0) Reg.SCHED_SCHED_CFG_GATE_EN = 0 ∧
      ((after (.schedSelect 0 0) (egress)).queueState 0).pkts = [] ∧ ((after (.schedSelect 0 0) (egress)).queueState 0).sent = 100 ∧
      State.reset.selectQueue 0 0 = none := by decide +kernel
/-- A list of two entries, of 100 ns with the gates open and 900 ns with all shut: a packet of 9,000 bytes fits no window and is dropped, one of
100 bytes stays. -/
theorem witness_never_fits :
    let s (w : Nat) : State := put [(SCH 0, Reg.SCHED_SCHED_CFG_GATE_EN, 1), (NET 0, Reg.PAGE_CTL_ENABLE, 1)] { egress with sch := { (egress).sch with
      tbl := (egress).sch.tbl ++ [(tblKey 0 3 0, [0, 0, 1000, 2]), (tblKey 0 4 0, [0xFF, 100]), (tblKey 0 4 1, [0, 900])],
      queues := [(0, { pkts := [{ packet with wire := w }] })], ports := [(0, { running := true })] } }
    (s 9000).neverFits 0 0 0 ((s 9000).wireTime 0 9000) = true ∧ (s 100).neverFits 0 0 0 ((s 100).wireTime 0 100) = false ∧
      (((s 9000).dropOversize 0 0).queueState 0).pkts = [] ∧ (((s 100).dropOversize 0 0).queueState 0).pkts.length = 1 := by decide +kernel
/-- A packet for a disabled port; with an unknown next hop; that leaves. -/
theorem witness_transmit :
    let on := put [(NET 0, Reg.PAGE_CTL_ENABLE, 1)]
    ((State.reset).transmit 0 7 packet).rd (NETG 0) Reg.NETG_TX_SUPPRESSED = 1 ∧
      (on.transmit 0 7 { packet with resolved := false }).rd (NETG 0) Reg.NETG_TX_UNRESOLVED = 1 ∧ on.mutedFor 0 = false ∧
      (on.transmit 0 7 packet).out = [.packet 0 7 packet] ∧ (on.transmit 0 7 packet).rd (NET 0) Reg.NET_TX_FRAMES = 1 := by decide +kernel
/-- Bank 1 takes over at the instant it waits for, and not before. -/
theorem witness_gates :
    let s := { State.reset with sch := { ports := [(79, { running := true, pendingStart := some (1, 5) })] } }
    (s.schPort 79).pendingStart = some (1, 5) ∧ ((after (.gateEntryBoundary 79 (5 * 65536)) s).schPort 79).bank = 1 ∧
      ((after (.gateEntryBoundary 79 (5 * 65536)) s).queue (SCH 79)).total = 1 ∧
      ((after (.gateEntryBoundary 79 (5 * 65536 - 1)) s).schPort 79).bank = 0 := by decide +kernel

theorem witness_sched_table :
    let at' (s : State) := put [(SCHT 1, Reg.SCHT_TBL_INDEX_INDEX, 2047), (SCHT 1, ⟨0x48, 31, 0⟩, 9)] s
    let full := at' { State.reset with sch := { pend := (List.range 512).map fun k => (tblKey 1 0 k, []) } }
    tfind (after (.schedTableWrite pcie 1 1) (at' State.reset)).sch.pend (tblKey 1 0 2047) = some [9, 0, 0, 0, 0, 0] ∧
      512 ≤ (full.schPending 1).length ∧ tfind full.sch.pend (tblKey 1 0 2047) = none ∧
      ((after (.schedTableWrite pcie 1 1) full).queue (SCHT 1)).total = 1 ∧
      ((after (.schedTableReadActive pcie 1 4) (at' State.reset)).word (SCHT 1) 0x48).toNat = 0 ∧
      ((after (.schedTableRead pcie 1 2) (at' { State.reset with sch := { pend := [(tblKey 1 0 2047, [7])] } })).word (SCHT 1) 0x48).toNat = 7 ∧
      (after (.schedPeakClear pcie 1 1) (put [(SCHT 1, Reg.SCHT_BUF_PEAK, 5)])).rd (SCHT 1) Reg.SCHT_BUF_PEAK = 0 := by decide +kernel

/-- A gate header of a free bank, a bank in use, an INDEX beyond the table; a command that writes and reads. -/
theorem witness_sched_table_more :
    let at' (table i : Nat) (s : State := State.reset) := put [(FPT 4, Reg.FPORT_FPORT_CFG_QUAD, 16), (SCHT 0, Reg.SCHT_TBL_INDEX_TABLE, table), (SCHT 0, Reg.SCHT_TBL_INDEX_INDEX, i), (SCHT 0, ⟨0x50, 31, 0⟩, 0xFFFFFFFF)] s
    let used := put [(SCH 0, Reg.SCHED_SCHED_CFG_GATE_EN, 1)] { State.reset with sch := { ports := [(0, { running := true, bank := 0 })] } }
    (after (.schedTableWrite pcie 0 1) (at' 3 1)).schEntry 0 3 1 = [0, 0, 2 ^ 30 - 1, 0] ∧ used.gateInUse 0 0 = true ∧
      ((after (.schedTableWrite pcie 0 1) (at' 3 0 used)).queue (SCHT 0)).recs = [0x2003000000000000] ∧ schTableSize 1 ≤ 256 ∧
      ((after (.schedTableWrite pcie 0 1) (at' 1 256)).queue SYS).total = 1 ∧ ((after (.schedTableRead pcie 0 2) (at' 1 256)).queue SYS).total = 1 ∧
      (at' 2 36).schForeign 0 2 36 = true ∧ tfind (after (.schedTableWrite pcie 0 1) (at' 2 36)).sch.pend (tblKey 0 2 36) = none := by decide +kernel

/-- Fabric port 3 as given; a device with root and certificate. -/
def fport (x : FabPort) (l : List (Page × Field × Nat) := []) : State :=
  put ([(FPT 3, Reg.PAGE_CTL_ENABLE, 1), (FAB, Reg.FAB_FAB_CFG_JOIN, 1)] ++ l) { State.reset with fab := { ports := [(3, x)] } }
def rooted : List (Page × Field × Nat) := [(SEC 0, Reg.SEC0_SEC_STATE_ROOT_SET, 1), (SEC 0, Reg.SEC0_SEC_STATE_CERT_VALID, 1), (SEC 0, Reg.SEC0_ROOT_HASH 0, 5)]
def stateOf (s : State) : Nat × Nat := (s.rd (FPT 3) Reg.FPORT_FPORT_STATE_STATE, s.rd (FPT 3) Reg.FPORT_FPORT_STATE_REASON)
theorem witness_link :
    State.reset.fportOn 3 = false ∧ (fport {}).fportOn 3 = true ∧ stateOf (after (.fabLinkChange 3 true) (fport {})) = (1, 0) ∧
      stateOf (after (.fabLinkChange 3 false) (fport { link := true, st := 3 })) = (0, 0) ∧
      stateOf (after (.fabPortSilence 3) (fport { link := true, st := 3 })) = (0, 0) ∧
      (after (.fabHelloTimer 3) (fport { link := true, st := 1 })).out.length = 1 := by decide +kernel
theorem witness_hello :
    let s := fport { link := true, st := 1 }
    let f (serial version : Nat) := frame (.hello serial 8 9 2 version)
    ArrivesLink s 3 (f 4 1) ∧ s.serialNo = 0 ∧ stateOf (after (.fabHelloReceived 3 (f 4 2)) s) = (4, 5) ∧
      stateOf (after (.fabHelloReceived 3 (f 0 1)) s) = (4, 1) ∧ stateOf (after (.fabHelloReceived 3 (f 4 1)) s) = (2, 0) := by
  unfold ArrivesLink; decide +kernel
/-- On an UP port of a landed device: a HELLO of another coordinator and of its own; on a SEPARATE one; with JOIN 0 after AUTH, and held back. -/
theorem witness_hello_more :
    let f (coord : Nat) := frame (.hello 4 8 coord 2 1)
    let c := (member).rd FAB Reg.FAB_NODE_STATE_COORD_ID
    let sep : State := { member with fab := { ports := [(0, { link := true, st := 5 })] } }
    let one := fport { link := true, st := 1, authed := true } [(FAB, Reg.FAB_FAB_CFG_JOIN, 0)]
    let held : State := let s := fport { link := true, st := 1 }; { s with fab := { s.fab with held := true } }
    ArrivesLink (member) 0 (f c) ∧ (member).landed = true ∧ ((after (.fabHelloReceived 0 (f (c + 1))) (member)).fport 0).st = 5 ∧
      ((after (.fabHelloReceived 0 (f c)) (member)).fport 0).st = 3 ∧ ((after (.fabHelloReceived 0 (f c)) sep).fport 0).st = 3 ∧
      ((after (.fabHelloReceived 3 (f c)) one).fport 3).st = 1 ∧ ((after (.fabHelloReceived 3 (f c)) held).fport 3).st = 1 := by
  unfold ArrivesLink; decide +kernel
theorem witness_auth_first :
    let s := fport { link := true, st := 2, peerSerial := 4 }
    let r := fport { link := true, st := 2, peerSerial := 4 } rooted
    let f (serial root : Nat) := frame (.auth (.first serial root))
    ArrivesLink r 3 (f 4 5) ∧ stateOf (after (.fabAuthReceived 3 (f 4 5)) s) = (4, 2) ∧ stateOf (after (.fabAuthReceived 3 (f 4 6)) r) = (4, 4) ∧
      stateOf (after (.fabAuthReceived 3 (f 3 5)) r) = (4, 3) ∧ ((after (.fabAuthReceived 3 (f 4 5)) r).fport 3).hs = some (2, 1) := by
  unfold ArrivesLink; decide +kernel
theorem witness_auth_end :
    let s := fport { link := true, st := 2, hs := some (2, 1) }
    let t := fport { link := true, st := 2, hs := some (3, 2) }
    ArrivesLink s 3 (frame (.auth (.second false))) ∧ ArrivesLink t 3 (frame (.auth .finish)) ∧
      stateOf (after (.fabAuthReceived 3 (frame (.auth (.second false)))) s) = (4, 3) ∧
      (after (.fabAuthReceived 3 (frame (.auth .finish))) t).rd (FPT 3) Reg.FPORT_CREDITS_01 = 0x02000200 ∧
      stateOf (after (.fabAuthTimeout 3) s) = (4, 3) := by unfold ArrivesLink; decide +kernel
/-- AUTH ends on a mooring port, with JOIN 0, and again on an UP port. -/
theorem witness_auth_end_more :
    let fin := frame (.auth .finish)
    let moor : State := put [(MATE, Reg.PAGE_CTL_ENABLE, 1)] { State.reset with fab := { ports := [(16, { link := true, st := 2, hs := some (3, 2) })] } }
    let off := fport { link := true, st := 2, hs := some (3, 2) } [(FAB, Reg.FAB_FAB_CFG_JOIN, 0)]
    let again := fport { link := true, st := 3, hs := some (3, 2), pnTx := 9 }
    ArrivesLink moor 16 fin ∧ ((after (.fabAuthReceived 16 fin) moor).fport 16).st = 3 ∧ ((after (.fabAuthReceived 3 fin) off).fport 3).authed = true ∧
      ((after (.fabAuthReceived 3 fin) off).fport 3).st = 1 ∧ ((after (.fabAuthReceived 3 fin) again).fport 3).pnTx = 0 ∧
      ((after (.fabAuthReceived 3 (frame (.auth (.second true)))) (fport { link := true, st := 2, hs := some (2, 1) })).fport 3).hs = some (3, 2) := by
  unfold ArrivesLink; decide +kernel
theorem witness_retry_rekey : stateOf (after (.fabRefusedRetry 3) (fport { link := true, st := 4 })) = (1, 0) ∧
    ((after (.fabRekey 3) (fport { link := true, st := 3, pnTx := 2 ^ 40 })).fport 3).hs = some (1, 0) ∧
    ((after (.fabRekey 3) (fport { link := true, st := 3, pnTx := 2 ^ 40 - 1 })).fport 3).hs = none := by decide +kernel

/-- Quad 0 with logical lanes 0-2 and lane 3 spare, in service. -/
def quad (l : List (Page × Field × Nat) := []) : State :=
  fport { link := true, st := 3 } ([(WL 0, Reg.PAGE_CTL_ENABLE, 1), (WL 0, Reg.WL_LANE_CFG_LOGICAL, 0), (WL 3, Reg.PAGE_CTL_ENABLE, 1), (WL 3, Reg.WL_LANE_CFG_LOGICAL, 4),
    (WL 3, Reg.WL_LANE_STATE_PHASE, 4), (WL 0, laneState true 3 3, 1), (FPT 3, Reg.FPORT_FPORT_CFG_AUTO_REMAP, 1)] ++ l)
theorem witness_remap :
    (quad).logicalLane 0 0 = some 0 ∧ (quad).spareLane 0 = some 3 ∧ (quad).los true 0 = true ∧ (quad).fportQuad 3 = 0 ∧
      (quad).rd SYS Reg.SYS_GROUP_ARMED = 0 ∧ (after (.fabAutoRemap 3 0) (quad)).rd (WL 0) Reg.WL_LANE_CFG_LOGICAL = 4 ∧
      ArrivesLink (quad) 3 (frame (.remap 0)) ∧ (after (.fabRemapReceived 3 (frame (.remap 0))) (quad)).rd (WL 3) Reg.WL_LANE_CFG_LOGICAL = 0 ∧
      (quad [(FPT 3, Reg.FPORT_FPORT_CFG_AUTO_REMAP, 0)]).rd (FPT 3) Reg.FPORT_FPORT_CFG_AUTO_REMAP = 0 := by unfold ArrivesLink; decide +kernel
/-- A group of either page is armed: the remap is refused. -/
theorem witness_remap_refused :
    let s := quad [(SYS, Reg.SYS_GROUP_ARMED, 1)]
    bit (s.rd SYS Reg.SYS_GROUP_ARMED) (s.groupOf (WL 0)) = true ∧ (after (.fabAutoRemap 3 0) s).rd (WL 0) Reg.WL_LANE_CFG_LOGICAL = 0 ∧
      ((after (.fabAutoRemap 3 0) s).queue (FPT 3)).recs = [0x2400000000000000] ∧
      ((after (.fabRemapReceived 3 (frame (.remap 0))) s).queue (FPT 3)).recs = [0x2400000000000000] := by decide +kernel
def waits : FabQueued := ⟨frame (.prepare 1 2 3 4) 7 0 9, none⟩
theorem witness_credits :
    let s := fport { link := true, st := 3, freed := [1, 0, 0, 0], queue := [waits], used := [512, 512, 512, 512] }
    ArrivesLink s 3 (frame (.credit [5, 0, 0, 0])) ∧
      ((after (.fabCreditReceived 3 (frame (.credit [5, 0, 0, 0]))) s).fport 3).peerFreed = [5, 0, 0, 0] ∧
      ((after (.fabCreditSend 3) s).fport 3).freedSent = [1, 0, 0, 0] ∧ (s.fport 3).head waits.frame.vc = some waits ∧
      (s.fport 3).held waits.frame.vc < frameCredits waits.frame.len ∧ ((after (.fabCreditStall 3 waits.frame.vc) s).fport 3).stalled = [waits.frame.vc] := by
  unfold ArrivesLink; decide +kernel
/-- A frame for node 9 on a landed device 7: at HOPS 15, without a route, and by port 5. -/
theorem witness_forward :
    let s (r : List (Nat × Nat)) := { member 0 with fab := { ports := [(0, { link := true, st := 3 })], route := r } }
    let f : FabFrame := frame (.prepare 1 2 3 4) 8 1 9
    (s []).landed = true ∧ (s []).addressed 9 = false ∧ typeVc f.body.code = some f.vc ∧ unicastType f.body.code = true ∧ (s []).enabled MATE = false ∧
      (after (.fabFrameForward 0 { f with hops := 15 }) (s [(9, 32)])).rd FAB Reg.FAB_DROP_HOPS = 1 ∧
      (after (.fabFrameForward 0 f) (s [])).rd FAB Reg.FAB_DROP_NOROUTE = 1 ∧
      ((after (.fabFrameForward 0 f) (s [(9, 32)])).fport 5).queue.map (·.frame.hops) = [2] := by decide +kernel
/-- A reserved type, another VC than the type's, one that is consumed, and a port that is not UP. -/
theorem witness_forward_drops :
    let f : FabFrame := frame (.prepare 1 2 3 4) 8 1
    let r : FabFrame := frame (.reserved 0x3F) 8 1
    let s (st : Nat) : State := { member 0 with fab := { ports := [(0, { link := true, st := st })] } }
    typeVc r.body.code = none ∧ linkType r.body.code = false ∧ (after (.fabFrameForward 0 r) (s 3)).rd FAB Reg.FAB_DROP_TYPE = 1 ∧
      (after (.fabFrameForward 0 { f with vc := 3 }) (s 3)).rd FAB Reg.FAB_DROP_TYPE = 1 ∧ (s 3).addressed 7 = true ∧
      ((after (.fabFrameForward 0 f) (s 3)).fport 0).freed ≠ [0, 0, 0, 0] ∧ ((after (.fabFrameForward 0 f) (s 1)).fport 0).freed = [0, 0, 0, 0] := by
  decide +kernel
theorem witness_fabric_send :
    let s := { fport { link := true, st := 3, queue := [waits] } with
      sch := { tbl := [(tblKey 0 2 35, [0, 0, 0, 9000, 9000])], ports := [(67, { bucket := { p := 9000 * 156250, c := 0 } })] } }
    (s.advance 0).fabChoice 3 0 = some waits ∧ waits.arrival = none ∧ s.rd (SCH 67) Reg.SCHED_SCHED_CFG_GATE_EN = 0 ∧
      (after (.schedSelect 67 0) s).out.length = 1 := by decide +kernel
/-! The fabric's members, landing, time, remote access and delivery (R375-R391). -/

def attrs (serial : Nat) (eligible : Bool := true) : FabAttrs :=
  { serial := serial, eligible := eligible, priority := 0, timePriority := 0, timing := false, source := 0 }
/-- Device 7 with this fabric state, on port 0, which is UP. -/
def fabric (x : FabState) (coord : Nat := 0) (l : List (Page × Field × Nat) := []) : State :=
  { member coord l with fab := { x with ports := [(0, { link := true, st := 3, peerNode := 9 }), (1, { link := true, st := 3, peerNode := 8 })] } }
def peer : FabMember := { attrs := attrs 4, seq := some 5 }
theorem witness_link_state :
    let s := fabric { members := [(9, peer)] }
    let f (q : Nat) := frame (.linkState 3 []) 9 1 0 q
    ArrivesRouted s 0 (f 6) ∧ s.landed = true ∧ (f 6).src ≠ s.nodeId ∧ s.rd FAB Reg.FAB_NODE_STATE_COORD = 0 ∧ newerSeq 6 5 = true ∧ newerSeq 5 5 = false ∧
      s.upPorts = [0, 1] ∧ ((tfind (after (.fabLinkStateReceived 0 (f 6) (attrs 4)) s).fab.members 9).map (·.seq)) = some (some 6) ∧
      (after .fabLinkStateTimer s).fab.lsSeq = 1 ∧ State.reset.landed = false := by unfold ArrivesRouted; decide +kernel
theorem witness_member_timeout :
    let s := fabric { members := [(9, peer)] } 1
    tfind s.fab.members 9 ≠ none ∧ tfind s.fab.members 8 = none ∧ (after (.fabMemberTimeout 9) s).fab.members = [] ∧
      (after .fabRouteUpdate s).fab.route = [(8, 2), (9, 1)] := by decide +kernel
/-- A member that may coordinate keeps a silent member without its links, one that may not forgets it (log 33); with no coordinator, a route update
finds one. -/
theorem witness_member_silent :
    let s (e : Nat) := fabric { members := [(9, { peer with links := [(0, 8)] })] } 0 [(FAB, Reg.FAB_FAB_CFG_COORD_ELIGIBLE, e)]
    let lone := fabric { members := [(9, peer)], noCoord := true } 0 [(FAB, Reg.FAB_FAB_CFG_COORD_ELIGIBLE, 1), (FAB, Reg.FAB_FAB_CFG_COORD_PRIORITY, 9)]
    ((tfind (after (.fabMemberTimeout 9) (s 1)).fab.members 9).map (·.links)) = some [] ∧ (after (.fabMemberTimeout 9) (s 0)).fab.members = [] ∧
      (s 0).rd FAB Reg.FAB_NODE_STATE_COORD = 0 ∧ lone.landed = true ∧ (after .fabRouteUpdate lone).fab.noCoord = false ∧
      (after .fabRouteUpdate lone).rd FAB Reg.FAB_NODE_STATE_COORD_ID = 9 := by decide +kernel
theorem witness_coord_timeout :
    let s (l : List (Nat × FabMember)) := fabric { members := l, route := [(8, 2), (9, 1)] } 0 [(FAB, Reg.FAB_FAB_CFG_COORD_ELIGIBLE, 0), (FAB, Reg.FAB_NODE_STATE_COORD_ID, 9)]
    let others (l) := (s l).reached.filter fun e => e.2.eligible && some e.1 ≠ some ((s l).rd FAB Reg.FAB_NODE_STATE_COORD_ID)
    others [(9, peer)] = [] ∧ others [(8, peer), (9, peer)] = [(8, attrs 4)] ∧ (after .fabCoordTimeout (s [(9, peer)])).fab.noCoord = true ∧
      (after .fabCoordTimeout (s [(8, peer), (9, peer)])).rd FAB Reg.FAB_NODE_STATE_COORD_ID = 8 := by decide +kernel
theorem witness_coord_sync :
    let s (e : Nat) := fabric {} 1 [(FAB, Reg.FAB_FAB_CFG_COORD_ELIGIBLE, e)]
    let f := frame (.coordSync [(9, attrs 4)] [] [] 0)
    ArrivesRouted (s 1) 0 f ∧ (s 0).rd FAB Reg.FAB_FAB_CFG_COORD_ELIGIBLE = 0 ∧
      (after (.fabCoordSyncReceived 0 f) (s 1)).rd FAB Reg.FAB_NODE_STATE_COORD_ID = 9 ∧
      Ready (s 1) pcie FAB ∧ (after (.fabCfgWrite pcie 1) (s 1)).rd FAB Reg.FAB_NODE_STATE_COORD = 0 := by
  unfold ArrivesRouted Ready; decide +kernel

/-- A LAND REQUEST from a device without an ID, for ID 30, to a coordinator; to another member; with JOIN 0; for an ID that is held. -/
theorem witness_land_request :
    let s (coord join : Nat) := fabric { members := [(30, peer)] } coord [(FAB, Reg.FAB_FAB_CFG_JOIN, join)]
    let f (w : Nat) := frame (.landRequest 6 w 0 0 0xFFFF 0xFF) 0 1 0
    let queued (t : State) := (t.fport 0).queue.map (·.frame.body)
    ArrivesRouted (s 1 1) 0 (f 31) ∧ (s 1 1).validPlace = [] ∧ (s 1 1).idHeld 31 = false ∧ (s 1 1).idHeld 30 = true ∧ (s 1 1).landed = true ∧
      queued (after (.fabLandRequestReceived 0 (f 31)) (s 1 1)) = [.landGrant 31 1 0] ∧
      queued (after (.fabLandRequestReceived 0 (f 30)) (s 1 1)) = [.landRefuse 1 0] ∧
      queued (after (.fabLandRequestReceived 0 (f 31)) (s 1 0)) = [.landRefuse 3 0xFFFF] ∧
      tfind (after (.fabLandRequestReceived 0 (f 31)) (s 0 1)).fab.relays 1 = some (0, 1) := by unfold ArrivesRouted; decide +kernel
/-- A device that is alone lands its own fabric with the request, or with COORD_ELIGIBLE 0 answers JOIN_OFF (log 32). -/
theorem witness_land_alone :
    let s (e : Nat) := fabric {} 0 [(FAB, ⟨0x044, 14, 12⟩, 0), (FAB, Reg.FAB_FAB_CFG_JOIN, 1), (FAB, Reg.FAB_FAB_CFG_COORD_ELIGIBLE, e)]
    let f := frame (.landRequest 6 31 0 0 0xFFFF 0xFF) 0 1 0
    let go (e : Nat) := after (.fabLandRequestReceived 0 f) (s e)
    ArrivesRouted (s 1) 0 f ∧ (s 1).nodeState = 0 ∧ (go 1).landed = true ∧ (go 1).rd FAB Reg.FAB_NODE_STATE_COORD = 1 ∧
      ((go 1).fport 0).queue.map (·.frame.body) = [.landGrant 31 1 0] ∧ ((go 0).fport 0).queue.map (·.frame.body) = [.landRefuse 3 0xFFFF] := by
  unfold ArrivesRouted; decide +kernel
/-- The PLACE table gives serial number 6 the ID 40. -/
theorem witness_land_place :
    let s := fabric { place := [(40, [1, 6, 0])] } 1 [(FAB, Reg.FAB_FAB_CFG_JOIN, 1)]
    s.validPlace.map (·.1) = [40] ∧ (s.validPlace.map fun e => placeSerial e.2) = [6] ∧ bit 1 1 = false ∧
      s.chooseId 6 31 0xFFFF 0xFF = .inl 40 := by decide +kernel
/-- A device that lands: its request is number 1; and a member that relayed request 1 for port 1. -/
def landing (st : Nat) (x : FabState := {}) : State := fabric { x with requests := 1 } 0 [(FAB, ⟨0x044, 14, 12⟩, st)]
theorem witness_land_answer :
    let grant := frame (.landGrant 31 5 9)
    let relayed := landing 2 { relays := [(1, 1, 44)] }
    ArrivesRouted (landing 1) 0 grant ∧ ArrivesRouted relayed 0 grant ∧ (landing 1).nodeState = 1 ∧ relayed.landed = true ∧
      ((after (.fabLandGrantReceived 0 grant) relayed).fport 1).queue.map (·.frame.seq) = [44] ∧
      (after (.fabLandGrantReceived 0 grant) (landing 1)).nodeId = 31 ∧ (after (.fabLandGrantReceived 0 grant) (landing 1)).cm.fenced = true ∧
      (after (.fabLandRefuseReceived 0 (frame (.landRefuse 1 4095))) (landing 1)).nodeState = 3 ∧
      (after (.fabLandRefuseReceived 0 (frame (.landRefuse 3 0xFFFF))) (landing 1)).nodeState = 0 := by unfold ArrivesRouted; decide +kernel
theorem witness_fab_ctl :
    let offered := fabric {} 0 [(FAB, ⟨0x044, 14, 12⟩, 3), (FAB, Reg.FAB_ID_OFFER, 4096 + 30)]
    Ready (fabric {}) pcie FAB ∧ Ready offered pcie FAB ∧ (after (.fabLeave pcie 1) (fabric {})).nodeState = 0 ∧ offered.rd FAB Reg.FAB_ID_OFFER_VALID = 1 ∧
      (offered.upPorts.find? fun p => (offered.fport p).peerNode ≠ 0xFFFF) = some 0 ∧
      (after (.fabAcceptOffer pcie 4) offered).fab.wanted = 30 ∧ (after (.fabReland pcie 2) { fabric {} with fab := { held := true } }).fab.held = false := by
  unfold Ready; decide +kernel

/-- TIME: device 7 follows node 9, by its parent port 0. -/
def follower (near : Nat) : State :=
  { fabric {} 0 [(FAB, ⟨0x058, 11, 0⟩, 9), (FAB, Reg.FAB_MEMBERS, 2), (FAB, Reg.FAB_NODE_STATE_COORD_ID, 9)] with
    fab := { ports := [(0, { link := true, st := 3, peerNode := 9, exchange := 1, asked := some 100 })], route := [(9, 1)], near := near,
             members := [(9, peer)] } }
theorem witness_time :
    let f := frame (.timeResponse 150 160 9 1)
    ArrivesRouted (follower 15) 0 f ∧ (follower 15).following = true ∧ (follower 15).parentOf 9 = some 0 ∧ (follower 15).timeSource = 9 ∧
      (follower 15).rd FAB ⟨0x058, 16, 13⟩ = 0 ∧ ((follower 15).fport 0).asked = some 100 ∧ (follower 15).rd FAB ⟨0x058, 11, 0⟩ = 9 := by
  unfold ArrivesRouted; decide +kernel
theorem witness_time_request :
    let f := frame .timeRequest
    ArrivesRouted (fabric {}) 0 f ∧ ((after (.fabTimeRequestReceived 0 f 500) (fabric {})).fport 0).queue.map (·.frame.body) = [.timeResponse 500 0 0 1] ∧
      ((after (.fabTimeRequestTimer 0) (fabric {})).fport 0).exchange = 1 ∧ (State.reset.fport 0).st ≠ 3 := by unfold ArrivesRouted; decide +kernel

/-- A remote access to node `n`. -/
def remote (n st : Nat) (x : FabState := {}) : State := fabric x 0 [(FAB, Reg.FAB_RRA_TARGET_NODE, n), (FAB, ⟨0x98, 2, 0⟩, st), (FAB, Reg.FAB_RRA_ADDR_BAR0, 0x3FFFFFC)]
theorem witness_rra_start :
    Ready (remote 9 0) pcie FAB ∧ ((after (.rraStart pcie 1 noFinds) (remote 9 1)).queue FAB).total = 1 ∧
      (after (.rraStart pcie 1 noFinds) (remote 9 0)).rd FAB Reg.FAB_RRA_RESULT = 4 ∧
      portsOf ((remote 9 0 { route := [(9, 1)] }).routeTo 9) = [0] ∧
      (after (.rraStart pcie 1 noFinds) (remote 9 0 { route := [(9, 1)] })).fab.rra = some 1 ∧
      regAt (alignedOf 0x3FFFFFC) = none ∧ (remote 7 0).nodeId = 7 ∧ (after (.rraStart pcie 1 noFinds) (remote 7 0)).rd FAB Reg.FAB_RRA_RESULT = 2 := by
  unfold Ready; decide +kernel
/-- START with ABORT, idle and running. -/
theorem witness_rra_both :
    ((after (.rraAbort pcie 3) (remote 9 1 { rra := some 1 })).queue FAB).recs = [0x0200000000000000] ∧
      (after (.rraAbort pcie 3) (remote 9 1 { rra := some 1 })).fab.rra = none ∧ (after (.rraAbort pcie 3) (remote 9 0)).opState FAB 0x98 = 3 ∧
      ((after (.rraAbort pcie 2) (remote 9 0)).queue FAB).recs = [0x0100000000000000] := by decide +kernel
theorem witness_rra_end :
    let s := remote 9 1 { rra := some 1 }
    let f := frame (.reg false true 0 0x77 0)
    ArrivesRouted s 0 f ∧ (after (.rraAbort pcie 2) s).opState FAB 0x98 = 3 ∧ (after .rraTimeout s).rd FAB Reg.FAB_RRA_RESULT = 5 ∧
      (after (.fabRegResponseReceived 0 f) s).rd FAB Reg.FAB_RRA_RDATA = 0x77 ∧ ArrivesRouted s 0 (frame (.reg true false 0x3FFFFFC 1 0)) ∧
      ((after (.fabRegRequestReceived 0 (frame (.reg true false 0x3FFFFFC 1 0)) noFinds) (remote 9 0 { route := [(9, 1)] })).fport 0).queue.map (·.frame.body) =
        [.reg true true 0x3FFFFFC 1 2] := by unfold ArrivesRouted; decide +kernel

/-- Ferry 2 of producer 9: its entry, a JOIN and a LEAVE by port 0, a JOIN to a full table, a frame with HOPS 14. -/
def joined (ports : Nat) : FabState := { mcast := [(0, mcastW0 9 2 false, ports)] }
def ferryTag (b : FabBody) (tag : Nat) : FabFrame := { frame b with tag := tag }
theorem witness_join :
    let full : FabState := { mcast := (List.range 1024).map fun k => (k, mcastW0 1 0 false, 1) }
    let f (tag : Nat) := ferryTag (.join 9) tag
    ArrivesRouted (fabric {}) 0 (f 2) ∧ (after (.fabJoinReceived 0 (f 2)) (fabric {})).fab.mcast = [(0, mcastW0 9 2 false, 1)] ∧
      (after (.fabJoinReceived 0 (f 0x102)) (fabric (joined 1))).fab.mcast = [] ∧ 1024 ≤ full.mcast.length ∧
      ((after (.fabJoinReceived 0 (f 2)) (fabric full)).queue FAB).total = 1 ∧
      (after (.fabMcastExpiry 0 1) (fabric (joined 3))).fab.mcast = [(0, mcastW0 9 2 false, 1)] := by unfold ArrivesRouted; decide +kernel
theorem witness_join_refresh :
    let s := latch [(DEC 5, Reg.DEC_DEC_CFG_SOURCE, 1), (DEC 5, Reg.DEC_FERRY_SRC_NODE, 9)] { fabric {} with dec := [(5, { running := true })] }
    (tget ({} : DecStream) s.dec 5).running = true ∧ s.rdL (DEC 5) Reg.DEC_DEC_CFG_SOURCE = 1 ∧ s.ferryNode ≠ s.rdL (DEC 5) Reg.DEC_FERRY_SRC_NODE ∧
      (after (.fabJoinRefresh 5) s).fab.mcast = [(0, mcastW0 9 0 true, 0)] := by decide +kernel
theorem witness_ferry :
    let f := { ferryTag .ferry 2 with hops := 14 }
    ArrivesRouted (fabric (joined 3)) 0 f ∧ (fabric (joined 3)).mcastOf 9 2 = some (0, mcastW0 9 2 false, 3) ∧ (portsOf 3).filter (· ≠ 0) ≠ [] ∧
      ((after (.fabFerryReceived 0 f []) (fabric (joined 3))).fport 1).queue.map (·.frame.hops) = [15] := by unfold ArrivesRouted; decide +kernel
/-- An emission in order, one after a gap, one with an old SEQ, one of a stale epoch; LOCAL set. -/
theorem witness_ferry_deliver :
    let s (q : Option Nat) (g : Bool) := fabric { mcast := [(0, mcastW0 9 2 true, 0)], ferries := [(9 * 256 + 2, { epoch := 1, seq := q, gap := g, nals := [] })] }
    let f (q e : Nat) (last : Bool) := { ferryTag .ferry (2 + e * 65536) with seq := q, last := last }
    let kept (t : State) := (tfind t.fab.ferries (9 * 256 + 2)).map fun x => (x.seq, x.gap, x.nals)
    kept ((s (some 4) false).ferryDeliver (f 5 1 false) [.other 3]) = some (some 5, false, [.other 3]) ∧
      kept ((s (some 4) false).ferryDeliver (f 6 1 false) [.other 3]) = some (some 6, true, []) ∧
      kept ((s (some 5) true).ferryDeliver (f 6 1 true) []) = some (some 6, false, []) ∧ (s (some 4) false).ferryDeliver (f 4 1 true) [] = s (some 4) false ∧
      (s (some 4) false).ferryDeliver (f 5 0 true) [] = s (some 4) false ∧ staleEpoch 0 1 = true ∧
      kept ((s (some 4) false).ferryDeliver (f 5 1 true) [.other 3]) = some (some 5, false, []) := by decide +kernel
theorem witness_rect :
    let s := fabric { sinks := [(3, 0, [2 ^ 31 + 9, 1, 2 + 65536])] }
    let f := { ferryTag (.rect [(1, 2, 3), (4, 5, 6), (7, 8, 9)]) 3 with seq := 0 }
    ArrivesRouted s 0 f ∧ (after (.fabRectReceived 0 f) s).byteAt (65536 + 8) = 5 ∧ (after (.fabRectReceived 0 f) s).byteAt (65536 + 12) = 0 ∧
      (after (.fabRectReceived 0 { f with src := 8 }) s).mem = [] := by unfold ArrivesRouted; decide +kernel
theorem witness_remote_event :
    let f := frame (.event [(511, true)])
    let full : FabState := { remote := (List.range 256).map fun k => (k, 2 ^ 31 + k, 0) }
    ArrivesRouted (fabric {}) 0 f ∧ 256 ≤ full.remote.length ∧ (after (.fabEventReceived 0 f) (fabric full)).rd FAB Reg.FAB_REMOTE_EVT_LOST = 1 ∧
      ((after (.fabEventReceived 0 f) (fabric {})).fab.remote.map fun e => e.2.1) = [2 ^ 31 + 511 * 4096 + 9] := by unfold ArrivesRouted; decide +kernel
theorem witness_fab_table :
    let at' (t i : Nat) (l : List (Page × Field × Nat) := []) := put ([(FAB, Reg.FAB_TBL_INDEX_TABLE, t), (FAB, Reg.FAB_TBL_INDEX_INDEX, i), (FAB, Reg.FAB_TBL_DATA 0, 2 ^ 31 + 3)] ++ l)
      { State.reset with fab := { ferry := [(255, 2 ^ 31 + 3)] } }
    let go (t i : Nat) (l : List (Page × Field × Nat) := []) := after (.fabTableWrite pcie 1) (at' t i l)
    Ready (at' 1 4095) pcie FAB ∧ fabTableSize 2 = 256 ∧ ((go 2 256).queue SYS).total = 1 ∧ ((go 0 0).queue SYS).total = 1 ∧
      tget [] (go 1 4095).fab.place 4095 = [2 ^ 31 + 3, 0, 0] ∧ ((go 2 255 [(ENC 3, Reg.ENC_CH_STATE_STATE, 2)]).queue FAB).total = 1 ∧
      tget [] (go 4 15).fab.rectExport 15 = [2 ^ 31 + 3, 0, 0] ∧ tget [] (go 5 0).fab.rectSink 0 = [2 ^ 31 + 3, 0, 0] ∧
      (after (.fabTableRead pcie 2) (at' 2 255)).rd FAB (Reg.FAB_TBL_DATA 0) = 2 ^ 31 + 3 := by unfold Ready; decide +kernel
/-! The moored pair, audio, check values (R394-R447). -/

/-- A unit of an enabled pair in a ROLE, with mooring port A UP. -/
def unit (role : Nat) (m : MateState := {}) (l : List (Page × Field × Nat) := []) : State :=
  put ([(MATE, Reg.PAGE_CTL_ENABLE, 1), (MATE, Reg.MATE_MATE_CFG_PORT_A, 1), (MATE, Reg.MATE_HELM_STATE_ROLE, role)] ++ l)
    { State.reset with mate := m, fab := { ports := [(16, { link := true, st := 3 })] } }
theorem witness_helm_in :
    State.reset.enabled MATE = false ∧ (unit 1).enabled MATE = true ∧ (unit 1).isHome = false ∧
      (after (.helmInClassChange 2) (unit 1)).role = 2 ∧ ((after (.helmInClassChange 2) (unit 1)).queue MATE).total = 1 ∧
      (after (.helmInClassChange 2) (unit 1 {} [(MATE, Reg.MATE_HELM_STATE_HOME, 1)])).role = 1 ∧
      ((after (.helmInClassChange 3) (unit 2 {} [(MATE, Reg.MATE_HELM_STATE_HELM_IN, 0)])).queue MATE).total = 1 := by decide +kernel
theorem witness_sense : (unit 2).senseFault = false ∧ (after .helmSenseFault (unit 2)).senseFault = true ∧
    (after .helmSenseClear (unit 2 {} [(MATE, Reg.MATE_HELM_STATE_SENSE_FAULT, 1)])).senseFault = false := by decide +kernel
def beat : FabFrame := frame (.moor (.heartbeat 2 false true false false false 5 0 0 3))
theorem witness_heartbeat :
    ArrivesMoored (unit 2 { seqRx := some 0 }) 16 beat ∧ (unit 2).fportOn 16 = true ∧ ((unit 2).fport 16).queue = [] ∧ 1 ≤ ((unit 2).fport 16).held 0 ∧
      (after .moorHeartbeatTimer (unit 2)).out.length = 1 ∧ (after (.moorHeartbeatReceived 16 beat) (unit 2)).rd MATE Reg.MATE_EPOCH = 5 ∧
      (after (.moorHeartbeatReceived 16 beat) (unit 2)).mate.mateReady = true := by unfold ArrivesMoored; decide +kernel
/-- A standby that is READY, with HELM_IN RELEASED, and only port A alive: the mooring is down, and the helm is claimed. -/
def ready (l : List (Page × Field × Nat) := []) : State := unit 2 { alive := 1, mateConfig := some 0 } ([(MATE, Reg.MATE_HELM_STATE_HELM_IN, 0)] ++ l)
theorem witness_moor_timeout : (ready).mateIsReady = true ∧ (ready).helmIn = 0 ∧ (ready).senseFault = false ∧ (ready).isFenced = false ∧
    Claimed (ready) (after (.moorTimeoutExpiry 16) (ready)) ∧ (after (.moorTimeoutExpiry 16) (ready [(MATE, Reg.MATE_HELM_STATE_HELM_IN, 1)])).role = 2 ∧
    bit (ready).mate.alive 1 = false := by unfold Claimed; decide +kernel
/-- What follows at once: a fenced holder yields, a home unit claims at boot, and one that may qualifies; a stored takeback claims at HELM_IN HELD. -/
theorem witness_settles :
    let y : State := { unit 1 { mateReady := true } with cm := { fenced := true } }
    let home (role : Nat) (m : MateState) := ready [(MATE, Reg.MATE_HELM_STATE_HOME, 1), (MATE, Reg.MATE_HELM_STATE_ROLE, role)] |> fun s => { s with mate := m }
    let boots := put [(SYS, Reg.SYS_CONFIG_EPOCH, 0)] (home 2 { alive := 1, mateConfig := some 0 })
    y.mateSettle.role = 2 ∧ y.isFenced = true ∧ (unit 1).mateSettle.role = 1 ∧
      (put [(SYS, Reg.SYS_CONFIG_EPOCH, 3)] (home 2 { alive := 1, mateConfig := some 3 })).mateSettle.role = 1 ∧ boots.mateSettle.role = 2 ∧
      (put [(MATE, Reg.MATE_MATE_CFG_AUTO_TAKEBACK, 1)] (home 2 { alive := 1, mateConfig := some 0, mayQualify := true, mateRole := 1 })).mateSettle.role = 3 ∧
      (put [(MATE, Reg.MATE_HELM_STATE_HELM_IN, 1)] (home 3 { alive := 1, mateConfig := some 0, takeback := some (4, true, true) })).mateSettle.role = 1 := by
  decide +kernel
/-- A heartbeat on a fabric port; a second copy of a SEQ; the first port of two falls silent. -/
theorem witness_moored_frames :
    let b1 := { beat with seq := 7 }
    let both := unit 2 { alive := 3, seqRx := some 7 }
    (after (.moorHeartbeatReceived 0 { beat with pn := 1 }) (member)).rd FAB Reg.FAB_DROP_TYPE = 1 ∧ newerSeq 7 7 = false ∧
      (after (.moorHeartbeatReceived 16 b1) (unit 2 { seqRx := some 7 })).rd MATE Reg.MATE_EPOCH = 0 ∧
      (after (.moorHeartbeatReceived 16 b1) (unit 2 { seqRx := some 7 })).mate.alive = 1 ∧ (after (.moorTimeoutExpiry 16) both).mate.alive = 2 := by decide +kernel
/-- The outputs wait for the takeover instant; one packet lies in the replay window. -/
theorem witness_takeover :
    let s := { unit 1 {} [(MATE, Reg.MATE_REPLAY, 100)] with shadow := [(us 50, packet)] }
    s.role = 1 ∧ s.mate.on = false ∧ (s.advance (us 60)).tm.sys ≤ us 50 + us (s.rd MATE Reg.MATE_REPLAY % 65536) ∧
      (after (.helmTakeoverInstant (us 60)) s).mate.on = true ∧ ((after (.helmTakeoverInstant (us 60)) s).queueState 0).pkts.head? = some packet := by
  decide +kernel
theorem witness_yield :
    let f := frame (.moor (.helm 0 0))
    ArrivesMoored (ready) 16 f ∧ ((ready).moored 16 f).mayClaim ((ready).moored 16 f).mateIsReady 2 = true ∧
      ((unit 1).moored 16 f).mayClaim ((unit 1).moored 16 f).mateIsReady 2 = false ∧ (after (.helmYieldReceived 16 f) (ready)).role = 1 := by
  unfold ArrivesMoored; decide +kernel
theorem witness_mate_ctl : Ready (unit 1) pcie MATE ∧ Ready (unit 4) pcie MATE ∧ (after (.mateHandover pcie 0x100) (unit 1)).role = 2 ∧
    (after (.mateRequalify pcie 0x200) (unit 4)).role = 2 ∧ (ready).mayClaim false 6 = true ∧ (unit 1).mayClaim false 6 = false ∧
    Claimed (ready) (after (.mateForceClaim pcie 0x400) (ready)) := by unfold Ready Claimed; decide +kernel

def item : MateItem := { kind := 0, unit := 3, index := 0, frame := 8 }
def own (v : Nat) : MateState := { own := [({ item := item, flags := 0, value := v }, 0)], alive := 1 }
theorem witness_compare :
    let f := frame (.moor (.compare [{ item := item, flags := 0, value := 4 }]))
    ArrivesMoored (unit 2 (own 4)) 16 f ∧ (after (.moorCompareReceived 16 f) (unit 2 (own 4))).rd MATE Reg.MATE_COMPARED = 1 ∧
      (after (.moorCompareReceived 16 f) (unit 2 (own 5))).rd MATE Reg.MATE_MISMATCHES = 1 ∧
      (after (.moorCompareReceived 16 f) (unit 2)).mate.theirs.length = 1 := by unfold ArrivesMoored; decide +kernel
/-- In a suspended channel: its eighth equal record ends it, a record of another slice does not count, another value is a departure again; a
flagged departure suspends; in QUALIFYING a mismatch fails the attempt. -/
theorem witness_compare_suspended :
    let s (n : Nat) := unit 2 { suspended := [(unitKey item, (n, 4, 0))] }
    let r (v f : Nat) : MateRecord := { item := item, flags := f, value := v }
    let other : MateRecord := { item := { item with index := 1 }, flags := 0, value := 4 }
    ((s 7).compareItem (r 4 0) (r 4 0)).mate.suspended = [] ∧ ((s 6).compareItem (r 4 0) (r 4 0)).mate.suspended = [(unitKey item, (7, 4, 0))] ∧
      ((s 7).compareItem other other).mate.suspended = [(unitKey item, (7, 4, 0))] ∧
      ((s 7).compareItem (r 4 0) (r 5 0)).rd MATE Reg.MATE_DEPARTURES = 1 ∧
      ((unit 2).compareItem (r 4 1) (r 5 0)).mate.suspended = [(unitKey item, (0, 0, 0))] ∧ ((unit 3).compareItem (r 4 0) (r 5 0)).role = 5 ∧
      ((unit 2).compareItem (r 4 0) (r 5 0)).mate.arb.isSome = true := by decide +kernel
theorem witness_missing :
    let s := { unit 2 (own 4) with tm := { frame := 2 } }
    (s.mate.own.find? fun e => e.1.item = item).isSome = true ∧ s.mate.alive ≠ 0 ∧ (after (.moorRecordMissing item) s).rd MATE Reg.MATE_MISSING = 1 := by
  decide +kernel
theorem witness_mate_health :
    let f := frame (.moor (.health [0, 0, 0, 0, 0, 0, 0, 1]))
    let h := frame (.moor (.thermal 31 9 0 true []))
    ArrivesMoored (unit 1) 16 f ∧ ArrivesMoored (unit 2) 16 h ∧ (after (.moorHealthReceived 16 f) (unit 1)).mate.mateCritical = true ∧
      ((after (.moorThermalReceived 16 h) (unit 2)).thermalSets 31).map (·.frame) = [9] := by unfold ArrivesMoored; decide +kernel
def arb (o m : Option (Bool × List Nat)) : MateState := { arb := some { item := item, own := o, mate := m } }
theorem witness_arbitration :
    let f := frame (.moor (.arbStart item))
    let g (fail : Bool) := frame (.moor (.arbResult item fail []))
    ArrivesMoored (unit 1) 16 f ∧ (after (.arbStartReceived 16 f) (unit 1)).mate.arb.isSome = true ∧
      ((after (.arbRunDone true []) (unit 1 (arb none none))).mate.arb.map (·.own)) = some (some (true, [])) ∧
      ArrivesMoored (unit 1 (arb (some (true, [])) none)) 16 (g false) ∧
      (after (.arbResultReceived 16 (g false)) (unit 1 (arb (some (true, [])) none))).role = 4 ∧
      (after (.arbResultReceived 16 (g true)) (unit 1 (arb (some (false, [])) none))).role = 1 ∧
      (after (.arbResultReceived 16 (g false)) (unit 2 (arb (some (true, [])) none))).role = 4 ∧
      tfind (after (.arbResultReceived 16 (g false)) (unit 1 (arb (some (false, [])) none))).mate.suspended (unitKey item) = some (0, 0, 0) ∧
      (after .arbResultTimeout (unit 1 (arb (some (false, [])) none))).mate.arb = none := by unfold ArrivesMoored; decide +kernel
/-- Both results are in: the table of R415 in each of its four rows. -/
theorem witness_arb_decide :
    let x : Arbitration := { item := item, lent := [7] }
    let go (role : Nat) (o m : Bool) := (unit role { arb := some x }).arbDecide x (o, []) (m, [])
    let res (s : State) := s.rd MATE ⟨0x08C, 3, 0⟩
    res (go 1 false false) = 2 ∧ res (go 1 true false) = 4 ∧ (go 1 true false).role = 4 ∧ res (go 1 false true) = 6 ∧ (go 2 true false).role = 4 ∧
      res (go 1 true true) = 8 ∧ (go 1 true true).role = 1 ∧
      res ((ready).arbDecide x (false, []) (true, [])) = 4 ∧ (ready).mayClaim (ready).mateIsReady 3 = true ∧
      ((ready).arbDecide x (false, []) (true, [])).role = 1 := by decide +kernel
/-- A takeback request that comes too late, one during arbitration; the beat that asks for takeback; a page that becomes enabled, and disabled. -/
theorem witness_mate_beat :
    let f := frame (.moor (.helm 1 9))
    let q := unit 3 {} [(MATE, Reg.MATE_QUAL_PROGRESS, 4), (MATE, Reg.MATE_QUAL_BEATS, 5)]
    ((after (.takebackReqReceived 16 f) { unit 1 with tm := { sys := beatStart 9 8 } }).mate.takeback) = none ∧
      ((after (.takebackReqReceived 16 f) (unit 1 (arb none none))).mate.takeback) = none ∧ q.mateBeat.mate.takeback = some (2, false, false) ∧
      (q.enabled MATE) = true ∧ (unit 5 {} [(MATE, Reg.MATE_HOLDOFF_LEFT, 3)]).mateBeat.rd MATE Reg.MATE_HOLDOFF_LEFT = 2 ∧
      ((unit 0).mateApplied State.reset).role = 2 ∧ ((put [(MATE, Reg.PAGE_CTL_ENABLE, 0)] (unit 2)).mateApplied (unit 2)).role = 0 := by decide +kernel
theorem witness_takeback :
    let f (k : Nat) := frame (.moor (.helm k 9))
    let t (b : Bool) : MateState := { takeback := some (9, b, false) }
    ArrivesMoored (unit 1) 16 (f 1) ∧ (after (.takebackReqReceived 16 (f 1)) (unit 1)).mate.takeback = some (9, true, false) ∧
      ArrivesMoored (unit 3 (t false)) 16 (f 2) ∧ (after (.takebackAckReceived 16 (f 2)) (unit 3 (t false))).mate.takeback = some (9, true, false) ∧
      (after (.takebackNakReceived 16 (f 3)) (unit 3 (t false))).role = 5 ∧ (after (.takebackYield 0) (unit 1 (t true))).role = 2 ∧
      (after .takebackTimeout (unit 3 (t false))).role = 5 ∧ (after .holdoffExpiry (unit 5)).role = 2 := by unfold ArrivesMoored; decide +kernel

/-- Audio port 15 with BLOCK 48, two slots. -/
def audio (x : AudPort := {}) (l : List (Page × Field × Nat) := []) : State :=
  put ([(AUD 15, Reg.PAGE_CTL_ENABLE, 1), (AUD 15, Reg.AUD_STREAM_CFG_BLOCK, 48)] ++ l) { State.reset with aud := [(15, x)] }
theorem witness_audio : (State.reset).enabled (AUD 15) = false ∧ (audio).enabled (AUD 15) = true ∧ ((audio).audPort 15).last = none ∧
    sampleCount ((audio).advance 0).tm.sys % 48 = 0 ∧ ((audio { last := some 5 }).audPort 15).last = some 5 ∧ sampleCount ((audio).advance 0).tm.sys ≤ 5 ∧
    ((after (.audioFrameStart 0 []) (audio)).audPort 15).last = some 0 ∧ (after (.audioFrameStart 0 []) (audio)).rd (AUD 15) Reg.AUD_PORT_STATE_RUNNING = 1 := by
  decide +kernel
/-- A grid frame seen already; one inside a block, with slot 0 sent and its sample missing, and a changed mask; the block edge; after a SYSTIME step. -/
theorem witness_audio_frame :
    let tx : List (Page × Field × Nat) := [(AUD 15, Reg.AUD_STREAM_CFG_TX_EN, 1), (AUD 15, Reg.AUD_TX_MASK, 1), (AUD 15, Reg.AUD_RX_RING_RX_EN, 1)]
    let fmt := (audio {} tx).audFormat 15
    let x : AudPort := { last := some 96, fmt := fmt, block := some { first := 96, mask0 := 3, mask := 3 }, seq := 5, masks := some (3, 0) }
    let go (g : Nat) := (audio x tx).audFrame 15 g []
    let step := ({ audio x tx with tm := { steps := 1 } } : State).audFrame 15
    (audio x tx).audFrame 15 96 [] = audio x tx ∧ ((go 97).audPort 15).last = some 97 ∧ (((go 97).audPort 15).block.map fun b => (b.gap, b.change)) = some (true, some 1) ∧
      ((go 97).queue (AUD 15)).total = 1 ∧ ((go 144).audPort 15).records.length = 1 ∧ ((go 144).audPort 15).seq = 6 ∧
      (((go 144).audPort 15).block.map (·.first)) = some 144 ∧ ((step 90 []).audPort 15).block = none ∧ ((step 97 []).audPort 15).block.isSome = true ∧
      ((put [(AUD 15, Reg.PAGE_CTL_ENABLE, 0)] (audio x tx)).audApplied 15).audPort 15 = { seq := 5 } := by decide +kernel
theorem witness_audio_write :
    let s := audio { records := [[7, 8]], fmt := [0, 0, 0, 48] } [(AUD 15, Reg.AUD_RX_RING_BASE, 1)]
    (s.audPort 15).records = [[7, 8]] ∧ s.guardedByte .firmware 65536 = false ∧ (after (.audioBlockWrite 15) s).byteAt 65537 = 8 ∧
      ((after (.audioBlockWrite 15) s).audPort 15).records = [] := by decide +kernel

/-- R438's catalogue: the check values of SYS_ALG 0 and 2 over "123456789" (bytes 0x31-0x39). -/
def nines : List Nat := [0x31, 0x32, 0x33, 0x34, 0x35, 0x36, 0x37, 0x38, 0x39]
theorem test_check_values :
    let u (a : Nat) : CvuUnit := let l := (put [(CVU 0, Reg.CVU_CVU_CFG_SYS_ALG, a)]).cvuAlg 0; { alg := l, running := l.getD 2 0 }
    ((u 0).feed nines).final = 0x29B1 ∧ ((u 2).feed nines).final = 0xE3069283 := by decide +kernel
/-- Unit 15 with an operation in a STATE. -/
def cvu (x : CvuUnit) (st : Nat) (l : List (Page × Field × Nat) := []) : State := put ([(CVU 15, ⟨cvuOp, 2, 0⟩, st)] ++ l) { State.reset with cvu := [(15, x)] }
theorem witness_cvu_start :
    Ready (cvu {} 0) pcie (CVU 15) ∧ (after (.cvuStart pcie 15 1) (cvu {} 0)).opState (CVU 15) cvuOp = 4 ∧
      ((after (.cvuStart pcie 15 1) (cvu {} 1)).queue (CVU 15)).total = 1 ∧ (cvu {} 0).rd (CVU 15) Reg.CVU_CVU_CFG_MODE = 0 ∧
      8 ≤ ((cvu { addr := 4, len := poolSize - 4 } 0).cvuAlg 15).getD 0 0 ∧ (cvu {} 0).meetsSealed 4 (poolSize - 4) = false ∧
      (after (.cvuStart pcie 15 1) (cvu { addr := 4, len := poolSize - 4 } 0)).opState (CVU 15) cvuOp = 1 ∧
      ((after (.cvuAbort pcie 15 2) (cvu {} 2)).queue (CVU 15)).total = 1 := by unfold Ready; decide +kernel
theorem witness_cvu_scan :
    let x : CvuUnit := { span := (4, 3), alg := [16, 0x1021, 0xFFFF, 0, 0, 0], running := 0xFFFF }
    (after (.cvuScanDone 15) (cvu x 1)).opState (CVU 15) cvuOp = 2 ∧ x.cfgField Reg.CVU_CVU_CFG_MODE = 0 ∧ x.cfgField Reg.CVU_CVU_CFG_COMPARE_EN = 0 ∧
      ((after (.cvuScanDone 15) (cvu { x with cfg := fset 0 Reg.CVU_CVU_CFG_COMPARE_EN.hi Reg.CVU_CVU_CFG_COMPARE_EN.lo 1 |>.toNat } 1)).queue (CVU 15)).total = 1 ∧
      (after (.cvuMemoryError 15 2) (cvu x 1)).rd (CVU 15) Reg.CVU_CVU_STATE_FAIL_CAUSE = 5 := by decide +kernel
/-- A snooped lane's frame (KIND 3) is whole: one of two fed, the last one fed, and a sealed one. -/
theorem witness_cvu_snoop :
    let x : CvuUnit := { cfg := 2 ^ Reg.CVU_CVU_CFG_MODE.lo, snoop := 3 * 2 ^ Reg.CVU_SNOOP_CFG_KIND.lo, alg := [16, 0x1021, 0xFFFF, 0, 0, 0], running := 0xFFFF,
                         left := 2, gather := some (6, false, true, nines) }
    x.cfgField Reg.CVU_CVU_CFG_MODE = 1 ∧ (cvu x 1).snoopFrame x = some (6, false, some nines, 9) ∧
      ((after (.cvuSnoopFrame 15) (cvu x 1)).unit 15).left = 1 ∧ ((after (.cvuSnoopFrame 15) (cvu { x with left := 1 } 1)).unit 15).result = 0x29B1 ∧
      (after (.cvuSnoopFrame 15) (cvu { x with gather := some (6, true, true, nines) } 1)).rd (CVU 15) Reg.CVU_CVU_STATE_FAIL_CAUSE = 4 := by decide +kernel
/-- START with ABORT on an idle unit, and a START that cannot begin; a source that is none; a reserved width; a continuous snoop. -/
theorem witness_cvu_more :
    let ok : CvuUnit := { addr := 4, len := 8 }
    let snoop (l : List (Page × Field × Nat)) := cvu {} 0 ([(CVU 15, Reg.CVU_CVU_CFG_MODE, 1), (CVU 15, Reg.CVU_SNOOP_CFG_FRAMES, 1)] ++ l)
    let x : CvuUnit := { cfg := 2 ^ Reg.CVU_CVU_CFG_MODE.lo + 2 ^ Reg.CVU_CVU_CFG_CONTINUOUS.lo, snoop := 3 * 2 ^ Reg.CVU_SNOOP_CFG_KIND.lo + 2 ^ Reg.CVU_SNOOP_CFG_FRAMES.lo,
                         alg := [16, 0x1021, 0xFFFF, 0, 0, 0], running := 0xFFFF, left := 1, gather := some (6, false, true, nines) }
    (after (.cvuStart pcie 15 3) (cvu ok 0)).opState (CVU 15) cvuOp = 3 ∧ (after (.cvuStart pcie 15 3) (cvu {} 0)).opState (CVU 15) cvuOp = 4 ∧
      (snoop [(CVU 15, Reg.CVU_SNOOP_CFG_KIND, 3), (CVU 15, Reg.CVU_SNOOP_CFG_INST, 896)]).cvuCause 15 true = 3 ∧
      (snoop [(CVU 15, Reg.CVU_SNOOP_CFG_KIND, 3), (CVU 15, Reg.CVU_SNOOP_CFG_INST, 895)]).cvuCause 15 true = 0 ∧
      (snoop [(CVU 15, Reg.CVU_SNOOP_CFG_FRAMES, 0)]).cvuCause 15 true = 2 ∧
      (cvu ok 0 [(CVU 15, Reg.CVU_CVU_CFG_CLASS, 1), (CVU 15, Reg.CVU_CVU_CFG_WIDTH_M1, 6)]).cvuCause 15 true = 2 ∧
      (after (.cvuSnoopFrame 15) (cvu x 1)).opState (CVU 15) cvuOp = 1 ∧ ((after (.cvuSnoopFrame 15) (cvu x 1)).unit 15).running = x.start ∧
      ((after (.cvuSnoopFrame 15) (cvu x 1)).unit 15).result = 0x29B1 := by decide +kernel
theorem witness_cvu_values : Readable (cvu {} 0) pcie (CVU 15) ∧ (cvu { expected := 2 ^ 32 } 0 [(CVU 15, Reg.CVU_VAL_SEL, 3)]).cvuValue pcie 15 = 2 ^ 32 ∧
    ((after (.cvuValHiWrite pcie 15 7) (cvu {} 0 [(CVU 15, Reg.CVU_VAL_SEL, 6)])).unit 15).addr = 7 * 2 ^ 32 ∧
    ((after (.cvuValHiWrite pcie 15 7) (cvu {} 0 [(CVU 15, Reg.CVU_VAL_SEL, 7)])).unit 15).len = 7 * 2 ^ 32 ∧
    ((after (.cvuValHiWrite pcie 15 7) (cvu {} 1 [(CVU 15, Reg.CVU_VAL_SEL, 4)])).queue (CVU 15)).total = 1 ∧
    ((after (.cvuValHiWrite pcie 15 7) (cvu { held := 5 } 0 [(CVU 15, Reg.CVU_VAL_SEL, 3)])).unit 15).expected = 7 * 2 ^ 32 + 5 := by
  unfold Readable; decide +kernel
/-! Tokens, identity, key slots, debug (R452-R475). -/

/-- Bytes in the host pool from 0 up. -/
def loaded (b : List Byte) (s : State := State.reset) : State := { s with mem := ((List.range b.length).map fun i => (i, b.getD i 0)).filter fun e => e.2 ≠ 0 }
/-- A token of an action, SEQ and NOT_AFTER; a device whose ROOT is set or not, with that token submitted. -/
def token (action : Nat) (p : List Byte) (seq : Nat := 1) (after : Nat := 0) : List Byte :=
  leBytes 2 0x7A1E ++ leBytes 1 1 ++ leBytes 1 action ++ leBytes 2 (p.length + 128) ++ leBytes 2 0 ++ leBytes 8 0 ++ leBytes 8 seq ++ leBytes 8 after ++ p ++
    List.replicate 96 0
def submitted (b : List Byte) (root : Nat := 1) (l : List (Page × Field × Nat) := []) (s : State := State.reset) : State :=
  running 0x0501 [0, 0, b.length] (put ((SEC 0, Reg.SEC0_SEC_STATE_ROOT_SET, root) :: l) (loaded b s))
def good : MbxOutcome := { signed := true, cosigned := true, stepping := true, flash := true, version := 0, failed := [], spare := true, hash := 0 }
def refusedWith (s : State) : Nat := s.rd (SEC 0) Reg.SEC0_TOKEN_RESULT
/-- PW_RESET: the checks in turn, at their boundaries. -/
theorem witness_token_checks :
    let check (b : List Byte) (root : Nat) (sig : Bool) (l : List (Page × Field × Nat) := []) := (submitted b root l).tokenCheck b sig
    let t := token 9 []
    check t 1 true = 0 ∧ check (t.take 127) 1 true = 2 ∧ check t 0 true = 4 ∧ check (token 1 (List.replicate 97 7)) 1 true = 5 ∧ check t 1 false = 6 ∧
      check (token 9 [] 0) 1 true = 7 ∧ check (token 9 [] 1 5) 1 true = 8 ∧ check (token 9 [] 1 5) 1 true [(SYS, Reg.SYS_TIME_SRC_SOURCE, 1)] = 0 ∧
      check t 1 true [(FAB, Reg.FAB_SERIAL_LO, 1)] = 3 ∧
      { submitted (token 9 [] 1 5) 1 [(SYS, Reg.SYS_TIME_SRC_SOURCE, 1)] with tm := { frame := 6 } }.tokenCheck (token 9 [] 1 5) true = 9 := by decide +kernel
theorem witness_token_runs : TokenRuns (submitted (token 9 [])) 9 true 0 ∧ TokenRuns (submitted (token 9 [] 0)) 9 true 7 ∧
    refusedWith (after (.tokenPwReset good) (submitted (token 9 [] 0))) = 7 + 2 ^ 8 * 9 ∧
    (after (.tokenPwReset good) { submitted (token 9 []) with sec := { failures := 3 } }).sec.failures = 0 := by unfold TokenRuns; decide +kernel
def key97 : List Byte := List.replicate 97 7
theorem witness_root_provision : TokenRuns (submitted (token 1 key97) 0) 1 true 0 ∧ tokPayload (token 1 key97) = key97 ∧
    beNat (submitted (token 1 key97) 0).rootBytes = 0 := by unfold TokenRuns; decide +kernel
def policyBytes (max flags : Nat) : List Byte := leBytes 4 flags ++ leBytes 4 max ++ List.replicate 308 0
theorem witness_policy_set :
    let s (max flags : Nat) := submitted (token 2 (policyBytes max flags))
    TokenRuns (s 86400 31) 2 true 0 ∧ (policyOf (policyBytes 86400 31)).sessionMax = 86400 ∧ (policyOf (policyBytes 86400 31)).flags = 31 ∧
      (s 86400 31).serviceOpen = false ∧ (policyOf (policyBytes 59 32)).flags = 32 ∧
      (policyOf (policyBytes 59 32)).sessionMax = 59 := by unfold TokenRuns; decide +kernel
theorem witness_cert_install : TokenRuns (submitted (token 3 (List.replicate 310 0))) 3 true 0 ∧ tokNat (tokPayload (token 3 (List.replicate 310 0))) 0 4 ≠ 1 := by unfold TokenRuns; decide +kernel
/-- One range: 1 unit at the pool's last; none beyond it; the 65th. -/
def sealBytes (base : Nat) : List Byte := leBytes 4 1 ++ leBytes 4 base ++ leBytes 4 1 ++ leBytes 4 0
theorem witness_seal :
    let last := poolSize / 65536 - 1
    let full : State := { State.reset with sec := { ranges := (List.range 64).map fun k => (k, (k, 1, false)) } }
    TokenRuns (submitted (token 4 (sealBytes last))) 4 true 0 ∧ (after (.tokenSeal good) (submitted (token 4 (sealBytes last)))).sec.ranges = [(0, (last, 1, false))] ∧
      refusedWith (after (.tokenSeal good) (submitted (token 4 (sealBytes (last + 1))))) = 10 + 2 ^ 8 * 4 + 2 ^ 16 ∧
      refusedWith (after (.tokenSeal good) (submitted (token 4 (sealBytes last)) 1 [] full)) = 10 + 2 ^ 8 * 4 + 2 ^ 17 := by unfold TokenRuns; decide +kernel
theorem witness_unseal : TokenRuns (submitted (token 5 (leBytes 4 0))) 5 true 0 ∧
    (after (.tokenUnseal good) (submitted (token 5 (leBytes 4 1 ++ leBytes 4 3)) 1 [] { State.reset with sec := { ranges := [(2, (9, 1, false)), (3, (8, 1, false))] } })).sec.ranges =
      [(2, (9, 1, false))] := by unfold TokenRuns; decide +kernel
/-- REG_WRITE of EVT_ENABLE of ENC_CH_004 with OWNER rights. -/
def writeBytes : List Byte := leBytes 4 1 ++ leBytes 4 (pageBase (ENC 4) + 0x20) ++ leBytes 4 5
theorem witness_token_write :
    let s := submitted (token 6 writeBytes)
    TokenRuns s 6 true 0 ∧ Ready s ⟨.token (pathUnit s.mbx.by') (pathNode s.mbx.by'), true⟩ (ENC 4) ∧ ((regDesc (ENC 4) 0x20).map (·.rwi)) = some (2 ^ 32 - 1) ∧
      (ENC 4).inBar0 ∧ tokNat (tokPayload (token 6 writeBytes)) 4 4 = pageBase (ENC 4) + 0x20 := by
  unfold TokenRuns Ready; decide +kernel
theorem witness_svn : 
    let s (v min fw : Nat) := submitted (token 7 (leBytes 8 v)) 1 [(SEC 0, Reg.SEC0_SVN_MIN_SVN_MIN, min), (MBX, Reg.MBX_FW_SVN, fw)]
    TokenRuns (s 64 3 64) 7 true 0 ∧ (after (.tokenSvnAdvance good) (s 64 3 64)).rd (SEC 0) Reg.SEC0_SVN_MIN_SVN_MIN = 64 ∧
      refusedWith (after (.tokenSvnAdvance good) (s 2 3 64)) = 10 + 2 ^ 8 * 7 + 2 ^ 16 ∧
      refusedWith (after (.tokenSvnAdvance good) (s 5 3 4)) = 10 + 2 ^ 8 * 7 + 2 ^ 17 := by unfold TokenRuns; decide +kernel
theorem witness_debug_close : TokenRuns (submitted (token 8 [])) 8 true 0 ∧ (submitted (token 8 [])).serviceOpen = false ∧
    (after (.tokenDebugPermaClose good) (submitted (token 8 []))).sec.debugDisabled = true := by unfold TokenRuns; decide +kernel

theorem witness_identity :
    let top := poolSize - 310
    let s (k : Nat) := running 0x0502 [(top + k) % 2 ^ 32, (top + k) / 2 ^ 32]
    (s 0).mbxRunning 0x0502 = true ∧ reqOffset (s 0).mbx.req 0 + 310 = poolSize ∧ (after .deviceId (s 1)).rd MBX (Reg.MBX_RSP 0) = 2 ∧
      (running 0x0503 [0, 0]).mbxRunning 0x0503 = true ∧ reqOffset [0, 0] 0 + 528 ≤ poolSize ∧
      (running 0x0502 []).sec.cert = none ∧ ({ State.reset with sec := { cert := some [1] } } : State).certificate = [1] ∧
      (running 0x0504 [5]).mbxRunning 0x0504 = true ∧ (running 0x0504 [5]).mbx.req.getD 0 0 = 5 ∧
      (running 0x0504 [7]).mbxRunning 0x0504 = true := by decide +kernel

/-- A key load into slot 255 that runs on a blob of type 1; and its failures. -/
def blob (ty slot len : Nat) : List Byte := leBytes 2 0x4B57 ++ leBytes 1 1 ++ leBytes 1 ty ++ leBytes 1 slot ++ leBytes 3 0 ++ leBytes 8 0 ++ List.replicate (len - 16) 9
def keyLoad (b : List Byte) (src : Nat := 0) (st : Nat := 1) (l : List (Page × Field × Nat) := []) : State :=
  put ((SEC 1, ⟨0x54, 2, 0⟩, st) :: l) (loaded b { State.reset with sec := { keyOp := (255, src, b.length) } })
theorem witness_key_load :
    let cause (s : State) (tag : Bool) := (after (.keyLoadDone tag) s).rd (SEC 1) Reg.SEC1_KEY_FAIL
    Ready (keyLoad [] 0 0) pcie (SEC 1) ∧ (after (.keyLoadStart pcie 1) (keyLoad [] 0 0)).opState (SEC 1) 0x54 = 1 ∧
      (after (.keyLoadStart pcie 3) (keyLoad [] 0 0)).opState (SEC 1) 0x54 = 3 ∧ (after (.keyLoadStart pcie 3) (keyLoad [])).opState (SEC 1) 0x54 = 3 ∧
      ((after (.keyLoadStart pcie 1) (keyLoad [])).queue (SEC 1)).total = 1 ∧ (after (.keyLoadAbort pcie 2) (keyLoad [])).opState (SEC 1) 0x54 = 3 ∧
      cause (keyLoad (blob 1 255 185) (poolSize - 184)) true = 1 ∧ cause (keyLoad (blob 2 255 185)) true = 2 ∧ cause (keyLoad (blob 1 254 185)) true = 3 ∧
      cause (keyLoad (blob 1 255 185)) false = 4 ∧ tfind (after (.keyLoadDone true) (keyLoad (blob 2 255 173))).sec.slots 255 = some 2 := by
  unfold Ready; decide +kernel
theorem witness_key_clear :
    let s := put [(SEC 1, Reg.SEC1_KEY_INDEX, 255)] { State.reset with sec := { slots := [(255, 1)] } }
    let used := put [(NET 0, Reg.PAGE_CTL_ENABLE, 1), (NET 0, Reg.NET_PORT_CFG_MACSEC, 1)] { s with net := { tbl := [(tblKey 0 4 0, [0, 0, 0, 0, 255])] } }
    Ready s pcie (SEC 1) ∧ s.slotUsed 255 = false ∧ (after (.keyClear pcie 1) s).sec.slots = [] ∧ used.slotUsed 255 = true ∧
      ((after (.keyClear pcie 1) used).queue (SEC 1)).total = 1 := by unfold Ready; decide +kernel

/-- A policy that allows DIAG and SERVICE, with one key; a session. -/
def policy : Policy := { flags := 12, sessionMax := 60, pwHash := 5, keyHashes := [7, 0, 0, 0], masks := [] }
def debug (x : SecState) : State := { State.reset with sec := { x with policy := some policy } }
def response (d : Nat) : List Byte := List.replicate 48 3 ++ leBytes 1 1 ++ leBytes 3 0 ++ leBytes 4 d ++ List.replicate 193 1
theorem witness_debug_results :
    let c (b : Bool) : SecState := { challenge := some { number := 1, bytes := List.replicate 48 3, issued := 0, valid := b } }
    (response 60).length = 249 ∧ (debug (c true)).responseResult (List.replicate 249 0) true = 6 ∧ State.reset.responseResult (response 60) true = 1 ∧
      (debug (c false)).responseResult (response 60) true = 2 ∧ (debug { c true with debugDisabled := true }).responseResult (response 60) true = 1 ∧
      ((debug (c true)).sec.challenge.map fun x => x.valid && x.bytes = (response 60).take 48) = some true := by decide +kernel
theorem witness_passwords : (debug {}).passwordResult (List.replicate 7 1) = 5 ∧ (debug {}).passwordResult (List.replicate 65 1) = 5 ∧
    (debug { failures := 16 }).passwordResult (List.replicate 64 1) = 3 ∧ (debug { waitUntil := some 9 }).passwordResult (List.replicate 8 1) = 2 ∧
    (debug { debugDisabled := true }).passwordResult (List.replicate 8 1) = 1 ∧ (after .pwDelayExpiry (debug { waitUntil := some 9 })).sec.waitUntil = none := by
  decide +kernel
def service : SecState := { session := some ⟨true, 7, 100⟩ }
theorem witness_sessions :
    Ready (debug service) pcie (SEC 3) ∧ (debug service).serviceOpen = true ∧ (debug service).cur = [] ∧ (after .sessionExpiry (debug service)).sec.session = none ∧
      (after (.dbgClose pcie 2) (debug service)).sec.session = none ∧ ((after (.dbgClose pcie 2) (debug {})).queue (SEC 3)).total = 0 ∧
      ((after .challengeExpiry (debug { challenge := some ⟨1, [], 0, true⟩ })).sec.challenge.map (·.valid)) = some false ∧
      (debug service).roleOf pcie = some .service := by unfold Ready; decide +kernel
theorem witness_debug_checks :
    let s := put [(SEC 3, Reg.SEC3_PW_LEN, 65)] (debug {})
    Ready s pcie (SEC 3) ∧ s.opState (SEC 3) 0x84 ≠ 1 ∧ (after (.pwCheck pcie 1) s).rd (SEC 3) Reg.SEC3_PW_RESULT = 5 ∧
      (after (.dbgResponseCheck pcie 1 { noFinds with signed := true }) s).rd (SEC 3) Reg.SEC3_RESP_RESULT = 6 ∧
      (after (.dbgResponseCheck pcie 3 noFinds) s).opState (SEC 3) 0x84 = 3 ∧ (after (.pwCheck pcie 3) s).opState (SEC 3) 0x9C = 3 ∧
      (after (.pwCheckAbort pcie 2) (put [(SEC 3, ⟨0x9C, 2, 0⟩, 1)])).opState (SEC 3) 0x9C = 3 ∧
      (after (.dbgResponseAbort pcie 2) (put [(SEC 3, ⟨0x84, 2, 0⟩, 1)])).opState (SEC 3) 0x84 = 3 ∧
      ((after (.pwCheckAbort pcie 2) s).queue (SEC 3)).total = 1 ∧ ((after (.dbgResponseAbort pcie 2) s).queue (SEC 3)).total = 1 := by
  unfold Ready; decide +kernel
theorem witness_jtag :
    let s := loaded [4, 5] (debug service)
    s.sealedSpan 1 1 = false ∧ s.guardedByte .pcie 0 = false ∧ (after (.jtagDbgRead true 0 3) s).out = [.memData [4, 5, 0]] ∧
      (after (.jtagDbgWrite true 0 0 [9] noFinds) s).byteAt 0 = 9 ∧ (after (.jtagDbgWrite true 0 0 [9] noFinds) { s with sec := { session := none } }).byteAt 0 = 4 ∧
      (after (.jtagDbgRead true 0 3) { s with sec := { session := none } }).out = [] := by decide +kernel
/-! Power, reset, boot, the mailbox's commands, health and SMBus (R27, R416, R477-R514). -/

/-- Domain 22 under the governor, in a slack state. -/
def domain (x : DomSlack := {}) (gov : Nat := 1) : State := put [(PWR, Reg.PWR_GOV_CFG_GOV_EN, gov)] { State.reset with pow := { doms := [(22, x)] } }
theorem witness_slack : ((domain).advance 0).rd PWR Reg.PWR_GOV_CFG_GOV_EN = 1 ∧ ((domain).advance 0).domainBusy 22 = false ∧ (domain {} 0).rd PWR Reg.PWR_GOV_CFG_GOV_EN = 0 ∧
    ((after (.govSlackEntry 22 0) (domain)).slack 22).st = ((domain).advance 0).deepest 22 ∧ ((domain).advance 0).nextKnown 22 = none ∧
    ((after (.govSlackExit 22 0) (domain { st := 2 })).slack 22).leaving = 2 ∧ ((after (.govSlackExit 22 0) (domain { st := 2 })).slack 22).exitEnd = ns 2000 := by decide +kernel
/-- CHIPLET domain 15 knows the next line: it leaves NAP after that line's instant, and LATE_EXIT is recorded. -/
theorem witness_slack_late :
    let s := put [(PWR, Reg.PWR_GOV_CFG_GOV_EN, 1)] { scanning 3 with pow := { doms := [(15, { st := 2 })] } }
    (s.advance 1000).nextKnown 15 = s.nextKnown 15 ∧ ((s.advance 0).slack 15).st ≠ 0 := by decide +kernel
def device (st : Nat) (x : PowState := {}) : State := put [(PWR, Reg.PWR_DEV_STATE, st)] { State.reset with pow := x }
theorem witness_requests : Ready (device 0) pcie PWR ∧ (after (.reqDim pcie 1) (device 0)).rd PWR Reg.PWR_DEV_STATE = 2 ∧
    (after (.reqActive pcie 2) (device 1)).rd PWR Reg.PWR_DEV_STATE = 3 ∧ (after (.reqActive pcie 2) (device 2)).pow.wantActive = true ∧
    (after (.reqDormant pcie 4) (device 1)).rd PWR Reg.PWR_DEV_STATE = 4 ∧ (after (.reqDormant pcie 4) (device 2)).rd PWR Reg.PWR_DEV_STATE = 2 := by
  unfold Ready; decide +kernel
theorem witness_dim : (device 2).atRest = true ∧ (coding).atRest = true ∧ (scanning 3).atRest = false ∧ (device 3).rd PWR Reg.PWR_DEV_STATE = 3 ∧
    (after .dimExitDone (device 3)).rd PWR Reg.PWR_DEV_STATE = 0 ∧ (after .dormantEntryDone (device 4)).pow.dormant = true := by decide +kernel

theorem witness_resets :
    let cause (c : Instr) := (after c State.reset).rd SYS ⟨0x144, 3, 0⟩
    cause .resetNLow = 2 ∧ cause .watchdogExpiry = 5 ∧ cause .thermalTrip = 6 ∧ cause (.jtagExtest .extest []) = 7 ∧
      (after .thermalTrip State.reset).pow.trip = true ∧ (after (.jtagExtest .clamp []) { State.reset with pow := { up := false } }).pow.testZero = true ∧
      (after .thermalTripRelease { State.reset with pow := { trip := true } }).pow.trip = false := by decide +kernel
/-- IDCODE first bit first, the boundary-scan chain, one bit of 0; a reset of both flashes. -/
theorem witness_jtag_registers :
    (after (.jtagExtest .idcode (List.replicate 32 false)) State.reset).out = [.jtag ((List.range 32).map (0x19640973).testBit)] ∧
      (after (.jtagExtest .bypass [true, true]) State.reset).out = [.jtag [false, true]] ∧ (State.reset.jtagCapture .sample).length = 87 ∧
      State.reset.pow.powered = true ∧ (after (.jtagExtest .sample []) State.reset).pow.up = true ∧
      Out.flashReset 0 10000 ∈ (after .watchdogExpiry State.reset).out ∧ Out.flashReset 1 10000 ∈ (after (.jtagExtest .highz []) State.reset).out ∧
      (after .thermalTrip { State.reset with pow := { up := false } }).pow.trip = true := by decide +kernel
theorem witness_reset_ctl : Ready State.reset pcie SYS ∧ (after (.resetCtlDevice pcie 1) State.reset).pow.due = some (3, us 20) ∧
    (after .deviceResetEffect { State.reset with pow := { due := some (4, 9) } }).rd SYS ⟨0x144, 3, 0⟩ = 4 ∧
    (after .deviceResetEffect { State.reset with pow := { due := some (4, 9) } }).tm.sys = 9 := by unfold Ready; decide +kernel
theorem witness_link_reset :
    let s := { State.reset with evt := { unmasked := [3], disarmed := [4] }, sec := service }
    s.serviceOpen = true ∧ s.cur.Pairwise (fun x y => x.1 < y.1) ∧ (after .linkReset s).evt.disarmed = [] ∧ ((after .linkReset s).queue (SEC 3)).total = 1 := by
  refine ⟨by decide +kernel, List.Pairwise.nil, by decide +kernel, by decide +kernel⟩
def asleep (l : List (Page × Field × Nat) := []) : State := put l { State.reset with pow := { dormant := true, strap := 3, up := false } }
theorem witness_wake :
    (asleep).pow.main = true ∧ (after .wakePin (asleep [(PWR, Reg.PWR_WAKE_CFG_WAKE_PIN, 1)])).rd PWR Reg.PWR_WAKE_CAUSE = 1 ∧
      (after (.smbusWake 0x5B true) (asleep [(PWR, Reg.PWR_WAKE_CFG_SMBUS, 1)])).rd PWR Reg.PWR_WAKE_CAUSE = 2 ∧
      (after (.wakeLaneSignal 127) (asleep [(PWR, Reg.PWR_WAKE_CFG_WAKE_LANE, 127), (PWR, Reg.PWR_WAKE_CFG_LANE_SIGNAL, 1)])).rd PWR Reg.PWR_WAKE_CAUSE = 3 ∧
      (after .wakePin (asleep [(PWR, Reg.PWR_WAKE_CFG_WAKE_PIN, 0)])).pow.dormant = true := by decide +kernel
theorem witness_supplies :
    let on (m a : Bool) : State := { State.reset with pow := { main := m, aux := a }, mem := [(0, 1)] }
    (after .vinMainLoss (on true true)).pow.up = false ∧ (after .vinMainLoss (on true true)).mem = [] ∧ (after .vinMainLoss (on true false)).pow.powered = false ∧
      (after .vinMainReturn (on false true)).rd PWR Reg.PWR_WAKE_CAUSE = 4 ∧ (after .vinAuxLoss (on false true)).pow.powered = false ∧
      (after .vinAuxLoss (on true true)).pow.aux = false ∧ (after (.powerOn false 0) (on true false)).pow.aux = true ∧
      (after (.powerOn true 3) { State.reset with pow := { powered := false } }).pow.strap = 3 ∧
      (after .sysXoReady { State.reset with pow := { xo := false } }).pow.xo = true := by decide +kernel
/-- Both slots pass; the newest record names slot 1; three watchdog resets within 60 s send it back to slot 0. -/
theorem witness_release :
    let s (x : PowState) : State := { State.reset with pow := { x with up := false } }
    let r : PowState := { records := [(0, { slot := 1, seq := 4, svn := 0, hash := 0 })] }
    (s {}).bootSlot false true = some (1, false) ∧ (s r).bootSlot true true = some (1, false) ∧ (s { r with watchdogs := [0, 0, 0] }).bootSlot true true = some (0, true) ∧
      (s r).bootSlot true false = some (0, true) ∧ (s r).bootSlot false false = none ∧
      (after (.resetRelease true true true) (s r)).rd MBX ⟨0xE4, 0, 0⟩ = 1 ∧ (after (.resetRelease false false true) (s {})).rd MBX Reg.MBX_BOOT_STATE_RECOVERY = 1 := by
  decide +kernel
theorem witness_boot : State.reset.pow.booted = false ∧ State.reset.rd MBX Reg.MBX_BOOT_STATE_RECOVERY = 0 ∧ State.reset.pow.up = true := by decide +kernel

theorem witness_mailbox :
    let s (code : Nat) := put [(MBX, ⟨0xC0, 15, 0⟩, code)]
    Ready (s 0x0204) pcie MBX ∧ 0x0204 ∈ mbxCodes ∧ 0x0205 ∉ mbxCodes ∧ (after (.mbxUnknownCommand pcie 1) (s 0x0204)).opState MBX mbxOp = 1 ∧
      (after (.mbxUnknownCommand pcie 1) (s 0x0205)).opState MBX mbxOp = 4 ∧ ((after (.mbxUnknownCommand pcie 1) (running 0x0204 [])).queue MBX).total = 1 ∧
      (after (.mbxUnknownCommand pcie 3) (s 0x0204)).opState MBX mbxOp = 3 ∧ (after (.mbxUnknownCommand pcie 3) (s 0x0205)).opState MBX mbxOp = 4 ∧
      (after (.mbxUnknownCommand pcie 3) (running 0x0204 [])).opState MBX mbxOp = 3 ∧
      ((after (.mbxCmdAbort ⟨.token 0 0, true⟩ 2) (running 0x0204 [])).queue MBX).total = 1 ∧
      (after (.mbxCmdAbort pcie 2) (running 0x0204 [])).opState MBX mbxOp = 3 ∧ ((after (.mbxCmdAbort pcie 2) (s 0)).queue MBX).total = 1 := by
  unfold Ready; decide +kernel
/-- The answer of a command, on a state with this power state. -/
def answer (c : Instr) (code : Nat) (req : List Nat) (x : PowState := {}) (l : List (Page × Field × Nat) := []) : Nat × Nat :=
  let t := after c (running code req (put l { State.reset with pow := x }))
  (t.rd MBX (Reg.MBX_RSP 0), t.rd MBX (Reg.MBX_RSP 1))
theorem witness_images :
    let staged : PowState := { staged := some (2, 7, 64) }
    let verified := [(MBX, Reg.MBX_IMG_STATE_VERIFIED, 1)]
    answer (.imgStage good) 0x0110 [0, 0, 0] = (1, 0) ∧ answer (.imgStage { good with signed := false }) 0x0110 [0, 0, 64] = (3, 0) ∧
      answer (.imgStage { good with version := 3 }) 0x0110 [0, 0, 64] = (0, 3) ∧ answer (.imgStage { good with stepping := false }) 0x0110 [0, 0, 64] = (5, 0) ∧
      answer (.imgStage good) 0x0110 [0, 0, 64] {} [(SEC 0, Reg.SEC0_SVN_MIN_SVN_MIN, 1)] = (4, 0) ∧ answer (.imgWrite good) 0x0111 [] = (2, 0) ∧
      answer (.imgWrite good) 0x0111 [] staged = (0, 0) ∧ answer (.imgWrite { good with flash := false }) 0x0111 [] staged = (8, 0) ∧
      answer (.imgVerify good) 0x0112 [] staged = (7, 0) ∧ (answer (.imgVerify { good with hash := 7 }) 0x0112 [] staged).1 = 0 ∧
      answer (.imgSwitch good) 0x0113 [] staged = (6, 0) ∧ answer (.imgSwitch good) 0x0113 [] staged verified = (0, 1) ∧
      answer (.imgSwitch good) 0x0113 [] { staged with railsOff := [1] } verified = (8, 0) := by decide +kernel
theorem witness_maintenance :
    answer (.recoveryBoot good) 0x0114 [0, 0, 64] = (0xB, 0) ∧ answer (.mcodeReload good) 0x0120 [0, 0, 0, 0] = (1, 0) ∧
      answer (.mcodeReload { good with signed := false }) 0x0120 [0, 0, 0, 1] = (3, 0) ∧ answer (.hbmRepair good) 0x0130 [4095, 8] = (0, 1) ∧
      answer (.hbmRepair good) 0x0130 [4095, 8] { remaps := [(4095, (9, true))] } = (0xA, 0) ∧ answer (.hbmRepair { good with spare := false }) 0x0130 [4095, 8] = (0xA, 0) ∧
      answer (.hbmRepair good) 0x0130 [4095 + 4096, 8] { remaps := [(4095, (8, false))] } = (0, 1) ∧
      answer (.rasterSelftest { good with failed := [0, 1] }) 0x0140 [31, 16] = (0, 3) ∧ answer (.rasterSelftest good) 0x0140 [31, 17] = (1, 0) ∧
      answer .retentionRead 0x0150 [(poolSize - 39327) % 2 ^ 32, (poolSize - 39327) / 2 ^ 32] = (1, 0) ∧ answer .retentionRead 0x0150 [0, 0] = (0, 0) ∧ answer .deviceReset 0x0101 [] = (0, 0) ∧
      answer (.mbxCommandDone good) 0x0204 [] = (0, 0) := by decide +kernel
theorem witness_recovery : selftestOf [31, 1] = some (31, 1) ∧ selftestOf [31, 0] = none ∧
    (running 0x0114 [0, 0, 64] (put [(MBX, Reg.MBX_BOOT_STATE_RECOVERY, 1)])).rd MBX Reg.MBX_BOOT_STATE_RECOVERY = 1 ∧
    (State.reset.engineBusy 23) = false ∧ (coding picture { entropy := [(3, (3, 0, 0, 2))] }).engineBusy 131 = true ∧ (State.reset).demandSum (·.d) = 0 := by decide +kernel

theorem witness_pll :
    let locked := put [(CLK, ⟨0x44, 28, 28⟩, 1), (CLK, ⟨0x48, 8, 8⟩, 1)]
    28 ∉ locked.pow.unlocked ∧ (after (.islandPllLoss 40) locked).rd CLK ⟨0x48, 8, 8⟩ = 0 ∧ ((after (.islandPllLoss 40) locked).queue CLK).total = 0 ∧
      (after (.islandPllLoss 41) locked).pow.unlocked = [] ∧ Ready locked pcie CLK ∧ Ready locked pcie PWR ∧
      (after (.lockEventsClear pcie 1) (after (.islandPllLoss 40) locked)).rd CLK Reg.CLK_LOCK_EVENTS = 0 ∧
      (after (.pwrPeakClear pcie 1) (put [(PWR, Reg.PWR_PEAK_MW, 5)])).rd PWR Reg.PWR_PEAK_MW = 0 := by unfold Ready; decide +kernel
theorem witness_health :
    let s : State := { State.reset with tm := { frame := 1024 }, mate := { health := { corrected := [0, 1] } } }
    (after .hbmScrubCorrect s).mate.health.corrected.contains 0 = false ∧ (after .hbmScrubCorrect s).mate.health.corrected.contains 1 = true ∧
      (after .hbmScrubUncorrectable s).mate.health.uncorrectable = 1 ∧ State.reset.engineBusy 143 = false := by decide +kernel
theorem witness_rails : (after (.voutShort 1) State.reset).pow.railsOff = [1] ∧ (after (.voutRetry 1 false) { State.reset with pow := { railsOff := [1] } }).pow.railsOff = [] ∧
    (after (.voutRetry 1 true) { State.reset with pow := { railsOff := [1] } }).pow.railsOff = [1] := by decide +kernel
theorem witness_smbus :
    let s : State := { State.reset with pow := { strap := 3, smbusOffset := 0x100 } }
    (after (.smbusReadOffset 0x5B true 0x104) s).pow.smbusOffset = 0x104 ∧ (after (.smbusReadOffset 0x58 true 0x104) s).pow.smbusOffset = 0x100 ∧
      (after (.smbusReadData 0x5B) s).out.length = 1 ∧ (after (.smbusReadData 0x5B) { s with pow := { strap := 3, up := false } }).out = [.readData 0xFFFFFFFF] ∧
      (after (.smbusRegisterWrite 0x5B true (pageBase SYS + 0x20) 5 noFinds) s).rd SYS Reg.EVT_ENABLE = 5 := by decide +kernel
end Sys2Proof.Tests
end

section
/-!
PROOFS of the statements about faulted accesses and occurrence queues (02_register_model.md): first which fault an access meets and what
a faulted access comes to, then what arrives at an occurrence queue and which bits of PAGE_STATUS the conditions can reach.
-/

namespace Sys2Proof.Machine

/-! Which fault a register write meets (R45, R445). -/

theorem faultOfWrite_unmapped (s : State) (a : Access) (addr : Nat) (hr : regAt addr = none) :
    s.faultOfWrite a addr = some 0x10 := by
  simp only [State.faultOfWrite, State.writeFault, hr]

/-- A closed check-value unit denies with the code that a missing WRITE right gives, so its check need not be told apart here. -/
theorem faultOfWrite_denied (s : State) (a : Access) (addr : Nat) (p : Page) (off : Nat) (m : Bool)
    (hr : regAt addr = some (p, off, m)) (hw : s.mayWrite a p = false) : s.faultOfWrite a addr = some 0x11 := by
  simp only [State.faultOfWrite, State.writeFault, hr, hw, Bool.not_false, if_true, ite_self]

theorem faultOfWrite_partial (s : State) (a : Access) (addr : Nat) (p : Page) (off : Nat) (m : Bool)
    (hr : regAt addr = some (p, off, m)) (hw : s.mayWrite a p = true) (hc : s.cvuClosed a p = false) (hf : a.full = false) :
    s.faultOfWrite a addr = some 0x13 := by
  simp only [State.faultOfWrite, State.writeFault, hr, hw, hc, hf, Bool.not_true, Bool.not_false, Bool.false_eq_true, if_false,
    if_true]

theorem faultOfWrite_readOnly (s : State) (a : Access) (addr : Nat) (p : Page) (off : Nat) (m : Bool) (d : RegDesc)
    (hr : regAt addr = some (p, off, m)) (hd : regDesc p off = some d) (hw : s.mayWrite a p = true)
    (hc : s.cvuClosed a p = false) (hf : a.full = true) (ho : m = true ∨ ¬ d.takesWrite off) :
    s.faultOfWrite a addr = some 0x12 := by
  simp only [State.faultOfWrite, State.writeFault, hr, hw, hc, hf, hd, Bool.not_true, Bool.false_eq_true, if_false]
  rcases ho with hm | ht
  · rw [if_pos hm]
  · rw [if_pos (not_not.mp ht), ite_self]

/-! Which fault a register read meets, and what it then answers (R43, R44). -/

theorem regAt_eq_none_of_pageAt (addr : Nat) (h : pageAt addr = none) : regAt addr = none := by
  simp only [regAt, h]

theorem readFault_unmapped (s : State) (a : Access) (addr : Nat) (hr : regAt addr = none) : s.readFault a addr = some 0x10 := by
  simp only [State.readFault, hr]

theorem readableByAll_eq_false (off : Nat) (h0 : off ≠ 0) (h4 : off ≠ 4) (h28 : off ≠ 0x28) : readableByAll off = false := by
  simp only [readableByAll, h0, h4, h28, decide_false, Bool.or_self]

theorem readFault_denied (s : State) (a : Access) (addr : Nat) (p : Page) (off : Nat) (m : Bool)
    (hr : regAt addr = some (p, off, m)) (hn : s.mayRead a p = false) (ho : readableByAll off = false) :
    s.readFault a addr = some 0x11 := by
  simp only [State.readFault, hr, hn, ho, Bool.or_self, Bool.false_eq_true, if_false]

theorem faultedReadData_no_page (addr : Nat) (h : pageAt addr = none) : faultedReadData addr = 0xFFFFFFFF := by
  simp only [faultedReadData, h, Option.isSome_none, Bool.false_eq_true, if_false]

theorem faultedReadData_page (addr : Nat) (p : Page) (h : pageAt addr = some p) : faultedReadData addr = 0 := by
  simp only [faultedReadData, h, Option.isSome_some, if_true]

/-! What a faulted access comes to (R43-R45). -/

/-- A faulted read leaves its record and answers `faultedReadData`. -/
theorem busRead_fault (s : State) (a : Access) (addr c : Nat) (hu : s.pow.up = true)
    (h : s.readFault a (alignedOf addr) = some c) :
    s.busRead a addr = (s.faulted a c false (alignedOf addr)).emit (.readData (faultedReadData (alignedOf addr))) := by
  simp only [State.busRead, State.readWith, hu, h, if_true, BitVec.ofNat_toNat, BitVec.setWidth_eq]

theorem exec_registerWrite_fault (s : State) (a : Access) (addr c : Nat) (v : Word) (k : WriteFinds) (hu : s.pow.up = true)
    (h : s.faultOfWrite a (alignedOf addr) = some c) :
    exec (.registerWrite a addr v k) s = .next (settle (s.faulted a c true (alignedOf addr))) := by
  rw [← busWrite_fault s a addr c v k hu h]
  rfl

theorem exec_faultedRead_fault (s : State) (a : Access) (addr c : Nat) (hu : s.pow.up = true)
    (h : s.readFault a (alignedOf addr) = some c) :
    exec (.faultedRead a addr) s =
      .next (settle ((s.faulted a c false (alignedOf addr)).emit (.readData (faultedReadData (alignedOf addr))))) := by
  rw [← busRead_fault s a addr c hu h]
  rfl

/-! Records (R45, R46): fields side by side in one number. -/

theorem shiftLeft_or_eq (x y n : Nat) (h : y < 2 ^ n) : x <<< n ||| y = x * 2 ^ n + y := by
  rw [← Nat.shiftLeft_add_eq_or_of_lt h, Nat.shiftLeft_eq]

/-- The detail of a faulted access as the sum of its fields. -/
theorem faultDetail_eq (node addr : Nat) (w : Bool) :
    (node % 4096) <<< 36 ||| b2n w <<< 26 ||| addr % 2 ^ 26 = node % 4096 * 2 ^ 36 + b2n w * 2 ^ 26 + addr % 2 ^ 26 := by
  have hb : b2n w ≤ 1 := by cases w <;> decide
  rw [Nat.or_assoc, shiftLeft_or_eq _ _ 26 (by omega), shiftLeft_or_eq _ _ 36 (by omega), Nat.add_assoc]

/-- A record as the sum of its fields. -/
theorem occRecord_eq (c u d : Nat) (hc : c < 256) (hu : u < 256) (hd : d < 2 ^ 48) :
    occRecord c u d = BitVec.ofNat 64 (c * 2 ^ 56 + u * 2 ^ 48 + d) := by
  rw [occRecord, Nat.mod_eq_of_lt hc, Nat.mod_eq_of_lt hu, Nat.mod_eq_of_lt hd, Nat.or_assoc, shiftLeft_or_eq _ _ 48 hd,
    shiftLeft_or_eq _ _ 56 (by omega), Nat.add_assoc]

/-- An occurrence changes no more than the queues. -/
theorem occur_sameButRecords (s : State) (p : Page) (c u d : Nat) : SameButRecords s (s.occur p c u d) := rfl

/-- Settles O6: each clause names the fault that the access meets; the record is an arrival at SYS's queue. -/
theorem faultedAccesses : Obligations.FaultedAccesses := by
  refine ⟨fun a addr v k s hu => ⟨fun hr => ?_, fun p off m d hr hd => ⟨fun hw => ?_, fun hw hc hf => ?_, fun hw hc hf ho => ?_⟩⟩,
    fun a addr s hu => ⟨fun hp => ?_, fun p hp => ⟨fun hr => ?_, fun off m hr hn h0 h4 h28 => ?_⟩⟩,
    fun s a c addr w => ⟨?_, fun q hq => ?_, ?_⟩, occRecord_eq, rfl, rfl, fun _ => rfl, rfl⟩
  · exact exec_registerWrite_fault s a addr _ v k hu (faultOfWrite_unmapped s a _ hr)
  · exact exec_registerWrite_fault s a addr _ v k hu (faultOfWrite_denied s a _ p off m hr hw)
  · exact exec_registerWrite_fault s a addr _ v k hu (faultOfWrite_partial s a _ p off m hr hw hc hf)
  · exact exec_registerWrite_fault s a addr _ v k hu (faultOfWrite_readOnly s a _ p off m d hr hd hw hc hf ho)
  · rw [exec_faultedRead_fault s a addr _ hu (readFault_unmapped s a _ (regAt_eq_none_of_pageAt _ hp)),
      faultedReadData_no_page _ hp]
  · rw [exec_faultedRead_fault s a addr _ hu (readFault_unmapped s a _ hr), faultedReadData_page _ p hp]
  · rw [exec_faultedRead_fault s a addr _ hu (readFault_denied s a _ p off m hr hn (readableByAll_eq_false off h0 h4 h28)),
      faultedReadData_page _ p hp]
  · rw [State.faulted, queue_occur_same, faultDetail_eq]
  · exact queue_occur_ne s SYS q _ _ _ hq
  · exact occur_sameButRecords s SYS _ _ _

/-! Arrival at an occurrence queue (R47). -/

theorem occPush_room (q : OccQueue) (r : BitVec 64) (h : q.recs.length < 64) :
    occPush q r = { q with recs := q.recs ++ [r], total := (q.total + 1) % 2 ^ 32 } := if_pos h

theorem occPush_full (q : OccQueue) (r : BitVec 64) (h : 64 ≤ q.recs.length) :
    occPush q r = { q with lost := min 0xFFFF (q.lost + 1), total := (q.total + 1) % 2 ^ 32 } := if_neg (Nat.not_lt.mpr h)

theorem occPush_total (q : OccQueue) (r : BitVec 64) : (occPush q r).total = (q.total + 1) % 2 ^ 32 := by
  unfold occPush
  split <;> rfl

/-! Which bits of PAGE_STATUS the conditions reach: no condition of any page stands at bit 31, which is OCC_NONEMPTY's (R40). -/

theorem testBit_b2n_zero (b : Bool) : (b2n b).testBit 0 = b := by cases b <;> rfl

/-- A one-bit condition at bit `k` reaches no bit above `k`. -/
theorem testBit_b2n_shiftLeft (b : Bool) (k i : Nat) (h : k < i) : (b2n b <<< k).testBit i = false := by
  have hb : b2n b < 2 ^ (i - k) := (by cases b <;> decide : b2n b < 2).trans_le (Nat.le_self_pow (by omega) 2)
  rw [Nat.testBit_shiftLeft, Nat.testBit_lt_two_pow hb, Bool.and_false]

theorem testBit_b2n_pos (b : Bool) (i : Nat) (h : 0 < i) : (b2n b).testBit i = false := testBit_b2n_shiftLeft b 0 i h

/-- A field's value has no bit at or above the field's width. -/
theorem testBit_bits (w hi lo i : Nat) (h : hi + 1 - lo ≤ i) : (bits w hi lo).testBit i = false := by
  rw [bits, Nat.testBit_mod_two_pow, decide_eq_false (Nat.not_lt.mpr h), Bool.false_and]

theorem testBit_rd (s : State) (p : Page) (f : Field) (i : Nat) (h : f.hi + 1 - f.lo ≤ i) : (s.rd p f).testBit i = false :=
  testBit_bits _ _ _ _ h

theorem testBit_rd_shiftLeft (s : State) (p : Page) (f : Field) (k i : Nat) (h : f.hi + 1 - f.lo ≤ i - k) :
    (s.rd p f <<< k).testBit i = false := by
  rw [Nat.testBit_shiftLeft, testBit_rd s p f _ h, Bool.and_false]

/-- The conditions of every page are an OR of one-bit conditions, of fields and of the low bits of a register, each below bit 31; those of
the SEC pages differ from one another. -/
theorem derivedStatus_testBit_31 (s : State) (p : Page) : (s.derivedStatus p).testBit 31 = false := by
  unfold State.derivedStatus
  split
  case h_2 => split <;> simp (disch := decide) only [Nat.testBit_or, testBit_b2n_pos, testBit_b2n_shiftLeft, Bool.or_self]
  all_goals simp (disch := decide) only [Nat.testBit_or, testBit_b2n_pos, testBit_b2n_shiftLeft, testBit_bits,
    testBit_rd_shiftLeft, Bool.or_self, Nat.zero_testBit]

/-- OCC_NONEMPTY of PAGE_STATUS (R40). -/
theorem pageStatus_bit_31 (s : State) (p : Page) : bit (s.pageStatus p) 31 = !(s.queue p).recs.isEmpty := by
  rw [bit, State.pageStatus, Nat.testBit_or, Nat.testBit_or, testBit_rd s p Reg.PAGE_STATUS_COND 31 (by decide),
    derivedStatus_testBit_31, Nat.testBit_shiftLeft, testBit_b2n_zero]
  rfl

/-- Settles O8: an arrival is `occPush` of the page's queue, by the room in it; a pop from 64 records leaves 63. -/
theorem occurrenceArrival : Obligations.OccurrenceArrival := by
  refine fun s p c u d => ⟨fun h => ?_, fun h => ?_, ?_, fun q hq => ?_, ?_, fun h => ?_, ?_⟩
  · rw [queue_occur_same, occPush_room _ _ h]
    exact ⟨rfl, rfl⟩
  · rw [queue_occur_same, occPush_full _ _ h]
    exact ⟨rfl, rfl⟩
  · rw [queue_occur_same, occPush_total]
  · exact queue_occur_ne s p q c u d hq
  · exact occur_sameButRecords s p c u d
  · have hroom : (s.queue p).recs.tail.length < 64 := by rw [List.length_tail, h]; decide
    rw [queue_occur_same, queue_setQueue_same, occPush_room _ _ hroom]
  · rw [pageStatus_bit_31, Bool.not_eq_true', List.isEmpty_eq_false_iff]

end Sys2Proof.Machine
end

section
/-!
PROOFS about fabric commits (03_frame_commits.md R68-R73): which registers and fields the end of an arm and a step of a fabric commit
leave alone, what reaches a device over the fabric, and then the fabric commit itself.
-/

namespace Sys2Proof.Machine

/-! Registers that only words of SYS differ in. -/

/-- The registers of `t` are those of `s` but for the words of SYS at these offsets. -/
def SysWordsOnly (offs : List Nat) (s t : State) : Prop :=
  ∀ (q : Page) (o : Nat), q.inBar0 → o < 0x1000 → (q = SYS → o ∉ offs) → t.word q o = s.word q o

theorem SysWordsOnly.of_cur {offs : List Nat} {s t : State} (h : t.cur = s.cur) : SysWordsOnly offs s t :=
  fun q o _ _ _ => by rw [State.word, State.word, h]

theorem SysWordsOnly.trans {offs : List Nat} {s t u : State} (h : SysWordsOnly offs s t) (k : SysWordsOnly offs t u) :
    SysWordsOnly offs s u := fun q o hq ho hn => (k q o hq ho hn).trans (h q o hq ho hn)

/-- A register write leaves every other word of BAR0 alone. -/
theorem word_wr_page (s : State) (p q : Page) (f : Field) (v o : Nat) (hp : p.inBar0) (hq : q.inBar0) (hf : f.off < 0x1000)
    (ho : o < 0x1000) (h : q = p → o ≠ f.off) : (s.wr p f v).word q o = s.word q o :=
  word_setWord_ne _ _ _ _ _ _ fun he => have hpo := base_inj q p o f.off hq hp ho hf he; h hpo.1 hpo.2

theorem SysWordsOnly.wr {offs : List Nat} {s t : State} (h : SysWordsOnly offs s t) (f : Field) (v : Nat) (hf : f.off ∈ offs)
    (hb : f.off < 0x1000) : SysWordsOnly offs s (t.wr SYS f v) :=
  h.trans fun q o hq ho hn => word_wr_page t SYS q f v o (by decide) hq hb ho fun hs he => hn hs (he ▸ hf)

theorem SysWordsOnly.each {α : Type} {offs : List Nat} {f : State → α → State} (l : List α) (s : State)
    (h : ∀ a ∈ l, ∀ s, SysWordsOnly offs s (f s a)) : SysWordsOnly offs s (s.each l f) := by
  induction l generalizing s with
  | nil => exact .of_cur rfl
  | cons a l ih => exact (h a List.mem_cons_self s).trans (ih _ fun b hb => h b (List.mem_cons_of_mem a hb))

theorem SysWordsOnly.rd {offs : List Nat} {s t : State} (h : SysWordsOnly offs s t) (f : Field) (hb : f.off < 0x1000)
    (hf : f.off ∉ offs) : t.rd SYS f = s.rd SYS f := by
  rw [State.rd, State.rd, h SYS f.off (by decide) hb fun _ => hf]

theorem SysWordsOnly.nodeId {offs : List Nat} {s t : State} (h : SysWordsOnly offs s t) : t.nodeId = s.nodeId := by
  rw [State.nodeId, State.nodeId, State.rd, State.rd, h FAB _ (by decide) (by decide) fun hs => absurd hs (by decide)]

/-- The words of SYS that show arms and their results: COMMIT_STATUS, GROUP_ARMED, GROUP_LATE, GROUP_RESULT. -/
abbrev armWords : List Nat := [0x054, 0x058, 0x05C, 0x060, 0x064, 0x068, 0x06C]

/-- The words of SYS that show the fabric commit: FAB_COMMIT_STATE, FAB_COMMIT_INFO. -/
abbrev txnWords : List Nat := [0x080, 0x084]

/-! An arm ends (R55, R57, R64). -/

theorem mem_groupList (mask g : Nat) : g ∈ groupList mask ↔ g < 32 ∧ bit mask g = true := by
  rw [groupList, List.mem_filter, List.mem_range]

@[simp] theorem armsShown_cm (s : State) : s.armsShown.cm = s.cm := by
  simp only [State.armsShown, State.wr_cm]
@[simp] theorem armsShown_pnd (s : State) : s.armsShown.pnd = s.pnd := by
  simp only [State.armsShown, State.wr_pnd]
@[simp] theorem armStatus_cm (s : State) (result reason group : Nat) : (s.armStatus result reason group).cm = s.cm := by
  simp only [State.armStatus, State.wr_cm]
@[simp] theorem armStatus_occ (s : State) (result reason group : Nat) : (s.armStatus result reason group).occ = s.occ := by
  simp only [State.armStatus, State.wr_occ]

theorem armsShown_words (s : State) : SysWordsOnly armWords s s.armsShown :=
  (((SysWordsOnly.of_cur rfl).wr _ _ (by decide) (by decide)).wr _ _ (by decide) (by decide)).wr _ _ (by decide) (by decide)

theorem armStatus_words (s : State) (result reason group : Nat) : SysWordsOnly armWords s (s.armStatus result reason group) :=
  (((SysWordsOnly.of_cur rfl).wr _ _ (by decide) (by decide)).wr _ _ (by decide) (by decide)).wr _ _ (by decide) (by decide)

theorem groupResult_words (s : State) (r : Nat) (l : List (Nat × Nat)) (g : Nat) (hg : g < 32) :
    SysWordsOnly armWords s (s.groupResult r l g) := by
  have hoff : 0x060 + 4 * (g / 8) ∈ armWords := by
    have : g / 8 < 4 := by omega
    interval_cases g / 8 <;> decide
  exact ((SysWordsOnly.of_cur rfl).wr ⟨0x060 + 4 * (g / 8), 4 * (g % 8) + 2, 4 * (g % 8)⟩ r hoff (by simp only; omega)).trans
    (.of_cur rfl)

theorem groupResult_rd_same (s : State) (r : Nat) (l : List (Nat × Nat)) (g : Nat) :
    (s.groupResult r l g).rd SYS (groupResultField g) = r % 8 := by
  have h := rd_wr_same s SYS (groupResultField g) r (by simp only; omega) (by simp only; omega)
  rwa [show 4 * (g % 8) + 2 + 1 - 4 * (g % 8) = 3 by omega] at h

theorem groupResult_rd_ne (s : State) (r : Nat) (l : List (Nat × Nat)) (g k : Nat) (h : k ≠ g) :
    (s.groupResult r l g).rd SYS (groupResultField k) = s.rd SYS (groupResultField k) := by
  change (s.wr SYS (groupResultField g) r).rd SYS (groupResultField k) = _
  by_cases hw : k / 8 = g / 8
  · exact rd_wr_apart s SYS _ _ r (by simp only; omega) (by simp only; omega) (by simp only [hw]) (by simp only; omega)
      (by simp only; omega)
  · exact rd_wr_ne s SYS SYS _ _ r (by simp only; omega)

/-- Every group of a list shows the result that was given to the list's groups; the others keep theirs. -/
theorem each_groupResult_rd (s : State) (r : Nat) (reasons : List (Nat × Nat)) (l : List Nat) (k : Nat) :
    (s.each l (State.groupResult · r reasons)).rd SYS (groupResultField k) =
      if k ∈ l then r % 8 else s.rd SYS (groupResultField k) := by
  induction l generalizing s with
  | nil => rfl
  | cons g l ih =>
    change ((s.groupResult r reasons g).each l (State.groupResult · r reasons)).rd SYS _ = _
    rw [ih]
    by_cases hk : k = g
    · subst hk; rw [groupResult_rd_same, ite_self, if_pos List.mem_cons_self]
    · rw [groupResult_rd_ne _ _ _ _ _ hk]; simp only [List.mem_cons, hk, false_or]

theorem each_groupResult_frame (s : State) (r : Nat) (reasons : List (Nat × Nat)) (l : List Nat) :
    ∃ c gs, s.each l (State.groupResult · r reasons) = { s with cur := c, cm := { s.cm with groups := gs } } := by
  induction l generalizing s with
  | nil => exact ⟨s.cur, s.cm.groups, rfl⟩
  | cons g l ih =>
    obtain ⟨c, gs, h⟩ := ih (s.groupResult r reasons g)
    exact ⟨c, gs, h⟩

/-- Occurrences of groups reach the queue of SYS, in the groups' order, and change nothing but the queues. -/
theorem occurGroups_frame (s : State) (code mask detail : Nat) : ∃ o, s.occurGroups code mask detail = { s with occ := o } ∧
    (s.occurGroups code mask detail).queue SYS =
      (groupList mask).foldl (fun q g => occPush q (occRecord code g detail)) (s.queue SYS) := by
  unfold State.occurGroups
  induction groupList mask generalizing s with
  | nil => exact ⟨s.occ, rfl, rfl⟩
  | cons g l ih =>
    obtain ⟨o, h, hq⟩ := ih (s.occur SYS code g detail)
    rw [queue_occur_same] at hq
    exact ⟨o, h, hq⟩

@[simp] theorem occurGroups_cur (s : State) (code mask detail : Nat) : (s.occurGroups code mask detail).cur = s.cur := by
  obtain ⟨o, h, _⟩ := occurGroups_frame s code mask detail
  rw [h]

/-- The groups of an arm that ends ABORTED show so; their records follow. -/
theorem abortArm_eq (s : State) (a : Arm) : s.abortArm a =
    ((s.dropArm a.groups).each (groupList a.groups) (State.groupResult · 4 [])).occurGroups 0x22 a.groups s.frameNo := rfl

/-- An arm that ends ABORTED is gone; but for registers, its groups' results and records, the rest of the state stays. -/
theorem abortArm_frame (s : State) (a : Arm) : ∃ c o gs, s.abortArm a =
    { s with cur := c, occ := o, cm := { s.cm with arms := s.cm.arms.filter fun b => b.groups ≠ a.groups, groups := gs } } := by
  obtain ⟨c, gs, h⟩ := each_groupResult_frame (s.dropArm a.groups) 4 [] (groupList a.groups)
  rw [abortArm_eq, h]
  obtain ⟨o, ho, _⟩ := occurGroups_frame _ 0x22 a.groups s.frameNo
  exact ⟨c, o, gs, ho⟩

theorem abortArm_words (s : State) (a : Arm) : SysWordsOnly armWords s (s.abortArm a) := by
  have hdrop : SysWordsOnly armWords s (s.dropArm a.groups) := .trans (.of_cur rfl) (armsShown_words _)
  rw [abortArm_eq]
  exact (hdrop.trans (SysWordsOnly.each _ _ fun g hg t => groupResult_words t 4 [] g ((mem_groupList _ g).1 hg).1)).trans
    (.of_cur (occurGroups_cur _ _ _ _))

theorem abortArm_rd_groupResult (s : State) (a : Arm) (k : Nat) (hk : k < 32) (hg : bit a.groups k = true) :
    (s.abortArm a).rd SYS (groupResultField k) = 4 := by
  rw [abortArm_eq, State.rd, State.word, occurGroups_cur]
  exact (each_groupResult_rd _ 4 [] _ k).trans (if_pos ((mem_groupList _ k).2 ⟨hk, hg⟩))

theorem abortArm_queue (s : State) (a : Arm) : (s.abortArm a).queue SYS =
    (groupList a.groups).foldl (fun q g => occPush q (occRecord 0x22 g s.frameNo)) (s.queue SYS) := by
  obtain ⟨c, gs, h⟩ := each_groupResult_frame (s.dropArm a.groups) 4 [] (groupList a.groups)
  rw [abortArm_eq, h]
  obtain ⟨_, _, hq⟩ := occurGroups_frame _ 0x22 a.groups s.frameNo
  exact hq

/-! The list of fabric commits and what SYS shows of it (R55, R69). -/

theorem txnShown_frame (s : State) : s.txnShown = { s with cur := s.txnShown.cur } := by
  unfold State.txnShown
  split <;> rfl

theorem txnShown_words (s : State) : SysWordsOnly txnWords s s.txnShown := by
  unfold State.txnShown
  split
  · exact (((SysWordsOnly.of_cur rfl).wr _ _ (by decide) (by decide)).wr _ _ (by decide) (by decide)).wr _ _ (by decide) (by decide)
  · exact .of_cur rfl

theorem txnShown_rd (s : State) (x : FabTxn) (l : List FabTxn) (h : s.cm.txns = x :: l) :
    s.txnShown.rd SYS Reg.SYS_FAB_COMMIT_STATE_STATE = x.st % 8 ∧ s.txnShown.rd SYS Reg.SYS_FAB_COMMIT_STATE_TXN = x.txn % 65536 := by
  simp only [State.txnShown, h]
  constructor
  · simp (disch := decide) only [rd_wr_same, rd_wr_apart, rd_wr_ne]
    rfl
  · simp (disch := decide) only [rd_wr_same, rd_wr_ne]
    rfl

/-- The list of fabric commits with one of them replaced. -/
def replaceTxn (x : FabTxn) (l : List FabTxn) : List FabTxn := l.map fun y => if y.txn = x.txn then x else y

theorem replaceTxn_cons_same (x y : FabTxn) (l : List FabTxn) (h : y.txn = x.txn) :
    replaceTxn x (y :: l) = x :: replaceTxn x l := by
  rw [replaceTxn, List.map_cons, if_pos h]; rfl

theorem head_replaceTxn (x y : FabTxn) (l : List FabTxn) (h : y.txn = x.txn) : (replaceTxn x (y :: l)).head? = some x := by
  rw [replaceTxn_cons_same x y l h]; rfl

theorem find_replaceTxn (x : FabTxn) (l : List FabTxn) (h : ∃ y ∈ l, y.txn = x.txn) :
    (replaceTxn x l).find? (fun y => y.txn = x.txn) = some x := by
  obtain ⟨z, hz⟩ := Option.isSome_iff_exists.1 (List.find?_isSome (p := fun y : FabTxn => y.txn = x.txn) |>.2 (by simpa using h))
  have hp : ((fun y : FabTxn => decide (y.txn = x.txn)) ∘ fun y => if y.txn = x.txn then x else y) =
      fun y => decide (y.txn = x.txn) := by
    funext y
    by_cases hy : y.txn = x.txn <;> simp [hy]
  rw [replaceTxn, List.find?_map, hp, hz, Option.map_some, if_pos (by simpa using List.find?_some hz)]

@[simp] theorem setTxn_cm (s : State) (x : FabTxn) : (s.setTxn x).cm = { s.cm with txns := replaceTxn x s.cm.txns } :=
  congrArg State.cm (txnShown_frame _)
@[simp] theorem setTxn_pnd (s : State) (x : FabTxn) : (s.setTxn x).pnd = s.pnd := by
  rw [State.setTxn, txnShown_frame]
@[simp] theorem setTxn_occ (s : State) (x : FabTxn) : (s.setTxn x).occ = s.occ := by
  rw [State.setTxn, txnShown_frame]
@[simp] theorem setTxn_tm (s : State) (x : FabTxn) : (s.setTxn x).tm = s.tm := by
  rw [State.setTxn, txnShown_frame]

theorem setTxn_words (s : State) (x : FabTxn) : SysWordsOnly txnWords s (s.setTxn x) := .trans (.of_cur rfl) (txnShown_words _)

/-- The latest fabric commit, replaced, is the one that SYS shows. -/
theorem setTxn_rd (s : State) (x y : FabTxn) (l : List FabTxn) (h : s.cm.txns = y :: l) (hx : y.txn = x.txn) :
    (s.setTxn x).rd SYS Reg.SYS_FAB_COMMIT_STATE_STATE = x.st % 8 ∧
      (s.setTxn x).rd SYS Reg.SYS_FAB_COMMIT_STATE_TXN = x.txn % 65536 :=
  txnShown_rd _ x (replaceTxn x l) ((congrArg (replaceTxn x) h).trans (replaceTxn_cons_same x y l hx))

@[simp] theorem addTxn_pnd (s : State) (x : FabTxn) : (s.addTxn x).pnd = s.pnd := by
  rw [State.addTxn, txnShown_frame]
@[simp] theorem addTxn_occ (s : State) (x : FabTxn) : (s.addTxn x).occ = s.occ := by
  rw [State.addTxn, txnShown_frame]
@[simp] theorem addTxn_tm (s : State) (x : FabTxn) : (s.addTxn x).tm = s.tm := by
  rw [State.addTxn, txnShown_frame]
theorem addTxn_cm (s : State) (x : FabTxn) : ∃ l, (s.addTxn x).cm = { s.cm with txns := x :: l } := by
  rw [State.addTxn, txnShown_frame]
  exact ⟨_, rfl⟩

theorem addTxn_words (s : State) (x : FabTxn) : SysWordsOnly txnWords s (s.addTxn x) := .trans (.of_cur rfl) (txnShown_words _)

theorem addTxn_rd (s : State) (x : FabTxn) : (s.addTxn x).rd SYS Reg.SYS_FAB_COMMIT_STATE_STATE = x.st % 8 ∧
    (s.addTxn x).rd SYS Reg.SYS_FAB_COMMIT_STATE_TXN = x.txn % 65536 := txnShown_rd _ x _ rfl

/-! A fabric commit's own arm is dropped (R69, R71). -/

theorem txnDrop_none (s : State) (x : FabTxn) (h : s.txnArm x = none) : s.txnDrop x = s := by rw [State.txnDrop, h]

theorem txnDrop_some (s : State) (x : FabTxn) (a : Arm) (h : s.txnArm x = some a) : s.txnDrop x = s.abortArm a := by
  rw [State.txnDrop, h]

theorem txnDrop_frame (s : State) (x : FabTxn) :
    ∃ c o as gs, s.txnDrop x = { s with cur := c, occ := o, cm := { s.cm with arms := as, groups := gs } } := by
  cases h : s.txnArm x with
  | none => exact ⟨s.cur, s.occ, s.cm.arms, s.cm.groups, txnDrop_none s x h⟩
  | some a =>
    obtain ⟨c, o, gs, ha⟩ := abortArm_frame s a
    exact ⟨c, o, _, gs, (txnDrop_some s x a h).trans ha⟩

@[simp] theorem txnDrop_pnd (s : State) (x : FabTxn) : (s.txnDrop x).pnd = s.pnd := by
  obtain ⟨c, o, as, gs, h⟩ := txnDrop_frame s x; rw [h]
@[simp] theorem txnDrop_txns (s : State) (x : FabTxn) : (s.txnDrop x).cm.txns = s.cm.txns := by
  obtain ⟨c, o, as, gs, h⟩ := txnDrop_frame s x; rw [h]
@[simp] theorem txnDrop_fenced (s : State) (x : FabTxn) : (s.txnDrop x).cm.fenced = s.cm.fenced := by
  obtain ⟨c, o, as, gs, h⟩ := txnDrop_frame s x; rw [h]

theorem txnDrop_arms (s : State) (x : FabTxn) (a : Arm) (h : s.txnArm x = some a) :
    (s.txnDrop x).cm.arms = s.cm.arms.filter fun b => b.groups ≠ a.groups := by
  obtain ⟨c, o, gs, ha⟩ := abortArm_frame s a
  rw [txnDrop_some s x a h, ha]

/-! A fabric commit ends ABORTED on this device: by its decision, or by this device's own NO (R69 steps 2″ and 4). -/

/-- The fabric commit `x` becomes `y`, its arm is dropped, and the abort is shown and recorded. -/
def State.txnAborted (s : State) (y x : FabTxn) (reason : Nat) (first : Option Nat) : State :=
  (((s.setTxn y).txnDrop x).abortInfo reason first).fabAbortRecord x.txn reason first

@[simp] theorem txnAborted_pnd (s : State) (y x : FabTxn) (reason : Nat) (first : Option Nat) :
    (s.txnAborted y x reason first).pnd = s.pnd := by
  simp only [State.txnAborted, State.fabAbortRecord, State.occur_pnd, State.abortInfo, State.wr_pnd, txnDrop_pnd, setTxn_pnd]

/-- Past the dropped arm, the abort leaves the commits' state as it is. -/
theorem txnAborted_cm (s : State) (y x : FabTxn) (reason : Nat) (first : Option Nat) :
    (s.txnAborted y x reason first).cm = ((s.setTxn y).txnDrop x).cm := by
  simp only [State.txnAborted, State.fabAbortRecord, State.occur_cm, State.abortInfo, State.wr_cm]

@[simp] theorem txnAborted_txns (s : State) (y x : FabTxn) (reason : Nat) (first : Option Nat) :
    (s.txnAborted y x reason first).cm.txns = replaceTxn y s.cm.txns := by
  rw [txnAborted_cm, txnDrop_txns, setTxn_cm]
@[simp] theorem txnAborted_fenced (s : State) (y x : FabTxn) (reason : Nat) (first : Option Nat) :
    (s.txnAborted y x reason first).cm.fenced = s.cm.fenced := by
  rw [txnAborted_cm, txnDrop_fenced, setTxn_cm]

theorem txnArm_setTxn (s : State) (y x : FabTxn) : (s.setTxn y).txnArm x = s.txnArm x := by
  rw [State.txnArm, setTxn_cm]; rfl

theorem txnAborted_arms (s : State) (y x : FabTxn) (reason : Nat) (first : Option Nat) (a : Arm) (h : s.txnArm x = some a) :
    (s.txnAborted y x reason first).cm.arms = s.cm.arms.filter fun b => b.groups ≠ a.groups := by
  rw [txnAborted_cm, txnDrop_arms _ x a ((txnArm_setTxn s y x).trans h), setTxn_cm]

theorem txnAborted_arms_none (s : State) (y x : FabTxn) (reason : Nat) (first : Option Nat) (h : s.txnArm x = none) :
    (s.txnAborted y x reason first).cm.arms = s.cm.arms := by
  rw [txnAborted_cm, txnDrop_none _ x ((txnArm_setTxn s y x).trans h), setTxn_cm]

theorem takeDecision_commit (s : State) (x : FabTxn) (reason : Nat) (first : Option Nat) (epoch : Nat) :
    s.takeDecision x true reason first epoch = s.setTxn { x with decision := some (true, reason, first, epoch), st := 3 } := rfl

theorem takeDecision_abort (s : State) (x : FabTxn) (reason : Nat) (first : Option Nat) (epoch : Nat) :
    s.takeDecision x false reason first epoch =
      s.txnAborted { x with decision := some (false, reason, first, epoch), st := 5 } x reason first := rfl

theorem takeDecision_txns (s : State) (x : FabTxn) (c : Bool) (reason : Nat) (first : Option Nat) (epoch : Nat) :
    (s.takeDecision x c reason first epoch).cm.txns =
      replaceTxn { x with decision := some (c, reason, first, epoch), st := if c then 3 else 5 } s.cm.txns := by
  cases c with
  | true => rw [takeDecision_commit, setTxn_cm]; rfl
  | false => rw [takeDecision_abort, txnAborted_txns]; rfl

theorem takeDecision_txnOf (s : State) (x : FabTxn) (c : Bool) (reason : Nat) (first : Option Nat) (epoch : Nat)
    (h : ∃ y ∈ s.cm.txns, y.txn = x.txn) : (s.takeDecision x c reason first epoch).txnOf x.txn =
      some { x with decision := some (c, reason, first, epoch), st := if c then 3 else 5 } := by
  rw [State.txnOf, takeDecision_txns]
  exact find_replaceTxn { x with decision := some (c, reason, first, epoch), st := if c then 3 else 5 } s.cm.txns h

theorem takeDecision_pnd (s : State) (x : FabTxn) (c : Bool) (reason : Nat) (first : Option Nat) (epoch : Nat) :
    (s.takeDecision x c reason first epoch).pnd = s.pnd := by
  cases c with
  | true => rw [takeDecision_commit, setTxn_pnd]
  | false => rw [takeDecision_abort, txnAborted_pnd]

theorem takeDecision_fenced (s : State) (x : FabTxn) (c : Bool) (reason : Nat) (first : Option Nat) (epoch : Nat) :
    (s.takeDecision x c reason first epoch).cm.fenced = s.cm.fenced := by
  cases c with
  | true => rw [takeDecision_commit, setTxn_cm]
  | false => rw [takeDecision_abort, txnAborted_fenced]

/-! What a routed frame finds (R369, R373, R380), and what a message to a member changes (R384). -/

/-- A link-layer check changes registers and the port alone. -/
theorem checked_frame (s : State) (p : Nat) (f : FabFrame) : ∃ c b, s.checked p f = { s with cur := c, fab := b } := by
  simp only [State.checked, State.fabCheck]
  split_ifs <;> exact ⟨_, _, rfl⟩

@[simp] theorem checked_pnd (s : State) (p : Nat) (f : FabFrame) : (s.checked p f).pnd = s.pnd := by
  obtain ⟨c, b, h⟩ := checked_frame s p f; rw [h]
@[simp] theorem checked_occ (s : State) (p : Nat) (f : FabFrame) : (s.checked p f).occ = s.occ := by
  obtain ⟨c, b, h⟩ := checked_frame s p f; rw [h]
@[simp] theorem checked_tm (s : State) (p : Nat) (f : FabFrame) : (s.checked p f).tm = s.tm := by
  obtain ⟨c, b, h⟩ := checked_frame s p f; rw [h]
@[simp] theorem checked_cm (s : State) (p : Nat) (f : FabFrame) : (s.checked p f).cm = s.cm := by
  obtain ⟨c, b, h⟩ := checked_frame s p f; rw [h]

/-- A valid routed frame is counted in its port's page. -/
theorem fabCheck_routed (s : State) (p : Nat) (f : FabFrame) (h : ArrivesRouted s p f) :
    ∃ x, s.fabCheck p f =
      (if p < 16 then (s.setFport p x).inc (FPT p) Reg.FPORT_FRAMES_RX else s.setFport p x, true) := by
  obtain ⟨-, -, -, hfcs, htag, hpn, -⟩ := h
  simp only [State.fabCheck, hfcs, htag, hpn, decide_true, Bool.and_true, Bool.or_true, Bool.not_true, Bool.false_eq_true, if_false]
  exact ⟨_, rfl⟩

theorem checked_word (s : State) (p : Nat) (f : FabFrame) (h : ArrivesRouted s p f) (q : Page) (o : Nat) (hq : q.inBar0)
    (ho : o < 0x1000) (hty : q.ty ≠ .fabPort) : (s.checked p f).word q o = s.word q o := by
  obtain ⟨x, hx⟩ := fabCheck_routed s p f h
  rw [State.checked, hx]
  by_cases hp : p < 16
  · rw [if_pos hp]
    exact word_wr_page (s.setFport p x) (FPT p) q _ _ o ⟨fun he => PageType.noConfusion he, hp⟩ hq (by decide) ho fun he =>
      absurd (congrArg Page.ty he) hty
  · rw [if_neg hp]
    rfl

theorem checked_rd_sys (s : State) (p : Nat) (f : FabFrame) (h : ArrivesRouted s p f) (g : Field) (hg : g.off < 0x1000) :
    (s.checked p f).rd SYS g = s.rd SYS g := by
  rw [State.rd, State.rd, checked_word s p f h SYS g.off (by decide) hg (by decide)]

theorem checked_nodeId (s : State) (p : Nat) (f : FabFrame) (h : ArrivesRouted s p f) : (s.checked p f).nodeId = s.nodeId := by
  rw [State.nodeId, State.nodeId, State.rd, State.rd, checked_word s p f h FAB _ (by decide) (by decide) (by decide)]

/-- A routed frame that reaches this device is taken once its check has counted it, and frees its credits then. -/
theorem fabArrive_routed (s : State) (p : Nat) (f : FabFrame) (take : State → State) (h : ArrivesRouted s p f) :
    s.fabArrive p f take = (take (s.checked p f)).fabFree p f := by
  have hgood : (s.fabCheck p f).2 = true := by
    obtain ⟨x, hx⟩ := fabCheck_routed s p f h
    rw [hx]
  obtain ⟨-, hlink, hst, -, -, -, hroute, hvc, haddr⟩ := h
  have hown : (unicastType f.body.code && s.landed && !s.addressed f.dst &&
      !(f.body.code = 0x09 && f.dst = 0 && f.src = 0)) = false := by
    cases hu : unicastType f.body.code with
    | false => rfl
    | true =>
      cases hl : s.landed with
      | false => rfl
      | true =>
        rcases haddr hu hl with h1 | ⟨h1, h2, h3⟩
        · rw [h1]; rfl
        · rw [h1, h2, h3]; simp
  have hup : ((s.fport p).st = 0 || !(s.fport p).link) = false := by rw [hst, hlink]; rfl
  have hst5 : ((s.fport p).st ≠ 3 && !((s.fport p).st = 5 && f.body.code = 0x0B)) = false := by rw [hst]; rfl
  unfold State.fabArrive
  simp only [hup, hroute, hvc, hst5, hown, hgood, Bool.false_eq_true, if_false, if_true, ne_eq, not_true_eq_false]

@[simp] theorem fabFree_pnd (s : State) (p : Nat) (f : FabFrame) : (s.fabFree p f).pnd = s.pnd := rfl
@[simp] theorem fabFree_rd (s : State) (p : Nat) (f : FabFrame) (q : Page) (g : Field) : (s.fabFree p f).rd q g = s.rd q g := rfl
@[simp] theorem fabFree_cm (s : State) (p : Nat) (f : FabFrame) : (s.fabFree p f).cm = s.cm := rfl

@[simp] theorem commitSend_cm (s : State) (dst : Nat) (b : FabBody) : (s.commitSend dst b).cm = s.cm := by
  unfold State.commitSend State.fabSend State.fabRoute
  split <;> rfl

@[simp] theorem each_commitSend_cm (s : State) (l : List Nat) (b : FabBody) :
    (s.each l fun t n => t.commitSend n b).cm = s.cm :=
  each_keeps State.cm _ (fun t n => commitSend_cm t n b) s l

/-! PREPARE at a member (R69 step 2). -/

/-- The fabric commit that PREPARE begins on a member. -/
def preparedTxn (src txn mask target : Nat) : FabTxn :=
  { txn := txn, st := 1, target := target, mask := mask, coordinator := src, unvoted := [], unacked := [], decision := none }

/-- What a member's NO leaves before its vote is sent. -/
def State.votedNo (s : State) (x : FabTxn) (reason : Nat) : State := s.txnAborted { x with st := 5 } x reason (some s.nodeId)

theorem voteNo_eq (s : State) (x : FabTxn) (reason : Nat) :
    s.voteNo x reason = (s.votedNo x reason).commitSend x.coordinator (.vote x.txn false reason) := rfl

/-- An arm that PREPARE makes meets only the checks of R60 on VALIDATING, the mask and the armed groups. -/
theorem armRefused_prepare (s : State) (mask target : Nat) : s.armRefused mask (some (.epoch target)) true =
    if s.rd SYS Reg.SYS_COMMIT_STATUS_VALIDATING = 1 then some 0x05 else if mask = 0 then some 0x02
    else if mask &&& s.armedMask ≠ 0 then some 0x03 else none := by
  simp only [State.armRefused, Bool.false_eq_true, if_false, if_true]

theorem armRefused_addTxn (s : State) (x : FabTxn) (mask target : Nat) :
    (s.addTxn x).armRefused mask (some (.epoch target)) true = s.armRefused mask (some (.epoch target)) true := by
  obtain ⟨l, h⟩ := addTxn_cm s x
  have hm : (s.addTxn x).armedMask = s.armedMask := by rw [State.armedMask, h]; rfl
  rw [armRefused_prepare, armRefused_prepare, (addTxn_words s x).rd _ (by decide) (by decide), hm]

/-- FAB_ABORT's detail (R57) as the sum of its fields. -/
theorem fabAbort_detail (txn node : Nat) (h : txn < 65536) :
    (txn % 65536) <<< 32 ||| b2n true <<< 12 ||| node % 4096 = txn * 2 ^ 32 + 4096 + node % 4096 := by
  rw [Nat.mod_eq_of_lt h, Nat.or_assoc, shiftLeft_or_eq _ _ 12 (by omega), shiftLeft_or_eq _ _ 32 (by simp [b2n]; omega)]
  simp [b2n]
  omega

theorem abortInfo_words (s : State) (reason : Nat) (first : Option Nat) : SysWordsOnly [0x084] s (s.abortInfo reason first) :=
  (((SysWordsOnly.of_cur rfl).wr _ _ (by decide) (by decide)).wr _ _ (by decide) (by decide)).wr _ _ (by decide) (by decide)

theorem abortInfo_rd (s : State) (reason n : Nat) :
    (s.abortInfo reason (some n)).rd SYS Reg.SYS_FAB_COMMIT_INFO_ABORT_REASON = reason % 64 ∧
    (s.abortInfo reason (some n)).rd SYS Reg.SYS_FAB_COMMIT_INFO_FIRST_NO_VALID = 1 ∧
    (s.abortInfo reason (some n)).rd SYS Reg.SYS_FAB_COMMIT_INFO_FIRST_NO = n % 4096 := by
  unfold State.abortInfo
  refine ⟨?_, ?_, ?_⟩ <;> simp (disch := decide) only [rd_wr_same, rd_wr_apart] <;> rfl

theorem fabAbortRecord_rd (s : State) (txn reason : Nat) (first : Option Nat) (q : Page) (f : Field) :
    (s.fabAbortRecord txn reason first).rd q f = s.rd q f := rfl

/-- A NO on the latest fabric commit, which holds no arm, is shown with its reason and this device as the first NO voter, and recorded. -/
theorem votedNo_shown (s : State) (x y : FabTxn) (l : List FabTxn) (reason : Nat) (hs : s.cm.txns = y :: l) (hy : y.txn = x.txn)
    (ha : s.txnArm x = none) (ht : x.txn < 65536) (hr : reason < 64) :
    (s.votedNo x reason).rd SYS Reg.SYS_FAB_COMMIT_STATE_STATE = 5 ∧
    (s.votedNo x reason).rd SYS Reg.SYS_FAB_COMMIT_STATE_TXN = x.txn ∧
    (s.votedNo x reason).rd SYS Reg.SYS_FAB_COMMIT_INFO_ABORT_REASON = reason ∧
    (s.votedNo x reason).rd SYS Reg.SYS_FAB_COMMIT_INFO_FIRST_NO_VALID = 1 ∧
    (s.votedNo x reason).rd SYS Reg.SYS_FAB_COMMIT_INFO_FIRST_NO = s.nodeId % 4096 ∧
    (s.votedNo x reason).queue SYS =
      occPush (s.queue SYS) (occRecord 0x23 reason (x.txn * 2 ^ 32 + 4096 + s.nodeId % 4096)) := by
  have heq : s.votedNo x reason = ((s.setTxn { x with st := 5 }).abortInfo reason (some s.nodeId)).fabAbortRecord x.txn reason
      (some s.nodeId) := by
    rw [State.votedNo, State.txnAborted, txnDrop_none _ x ((txnArm_setTxn s _ x).trans ha)]
  have hst := setTxn_rd s { x with st := 5 } y l hs hy
  have hinfo := abortInfo_rd (s.setTxn { x with st := 5 }) reason s.nodeId
  have hkeep := abortInfo_words (s.setTxn { x with st := 5 }) reason (some s.nodeId)
  simp only [heq, fabAbortRecord_rd]
  refine ⟨?_, ?_, ?_, hinfo.2.1, hinfo.2.2, ?_⟩
  · exact (hkeep.rd _ (by decide) (by decide)).trans hst.1
  · exact ((hkeep.rd _ (by decide) (by decide)).trans hst.2).trans (Nat.mod_eq_of_lt ht)
  · exact hinfo.1.trans (Nat.mod_eq_of_lt hr)
  · rw [State.fabAbortRecord, queue_occur_same, Option.isSome_some, Option.getD_some, fabAbort_detail _ _ ht, State.queue,
      State.abortInfo]
    simp only [State.wr_occ, setTxn_occ]
    rfl

/-- Why PREPARE is answered with a NO (R69): it comes at or after B(F − 2), or R60 rejects its arm. -/
def State.prepareNo (s : State) (mask target : Nat) : Option Nat :=
  if beatStart s.tm.rate (target - 2) ≤ s.tm.sys then some 0x13 else s.armRefused mask (some (.epoch target)) true

theorem prepareIn_late (s : State) (src txn mask target : Nat) (h : beatStart s.tm.rate (target - 2) ≤ s.tm.sys) :
    s.prepareIn src txn mask target =
      (s.addTxn (preparedTxn src txn mask target)).voteNo { preparedTxn src txn mask target with mask := 0 } 0x13 := by
  rw [← addTxn_tm s (preparedTxn src txn mask target)] at h
  simp only [State.prepareIn]
  exact if_pos h

theorem prepareIn_rejected (s : State) (src txn mask target r : Nat) (h : ¬ beatStart s.tm.rate (target - 2) ≤ s.tm.sys)
    (hr : s.armRefused mask (some (.epoch target)) true = some r) : s.prepareIn src txn mask target =
      ((s.addTxn (preparedTxn src txn mask target)).armStatus 2 r 0).voteNo { preparedTxn src txn mask target with mask := 0 } r := by
  rw [← addTxn_tm s (preparedTxn src txn mask target)] at h
  rw [← armRefused_addTxn s (preparedTxn src txn mask target)] at hr
  simp only [preparedTxn] at hr
  simp only [State.prepareIn, hr]
  exact if_neg h

theorem prepareIn_armed (s : State) (src txn mask target : Nat) (h : ¬ beatStart s.tm.rate (target - 2) ≤ s.tm.sys)
    (hr : s.armRefused mask (some (.epoch target)) true = none) : s.prepareIn src txn mask target =
      (s.addTxn (preparedTxn src txn mask target)).armGroups mask (.epoch target) (some txn) := by
  rw [← addTxn_tm s (preparedTxn src txn mask target)] at h
  rw [← armRefused_addTxn s (preparedTxn src txn mask target)] at hr
  simp only [preparedTxn] at hr
  simp only [State.prepareIn, hr]
  exact if_neg h

/-- PREPARE that is refused votes NO in a state that holds its fabric commit as the latest, and no more arms than before. -/
theorem prepareIn_refused (s : State) (src txn mask target r : Nat) (h : s.prepareNo mask target = some r) :
    ∃ (u : State) (l : List FabTxn), u.cm = { s.cm with txns := preparedTxn src txn mask target :: l } ∧ u.occ = s.occ ∧
      u.nodeId = s.nodeId ∧ s.prepareIn src txn mask target = u.voteNo { preparedTxn src txn mask target with mask := 0 } r := by
  obtain ⟨l, hcm⟩ := addTxn_cm s (preparedTxn src txn mask target)
  have hocc := addTxn_occ s (preparedTxn src txn mask target)
  have hnode := (addTxn_words s (preparedTxn src txn mask target)).nodeId
  unfold State.prepareNo at h
  split_ifs at h with hlate
  · cases h
    exact ⟨s.addTxn (preparedTxn src txn mask target), l, hcm, hocc, hnode, prepareIn_late s src txn mask target hlate⟩
  · exact ⟨(s.addTxn (preparedTxn src txn mask target)).armStatus 2 r 0, l, (armStatus_cm _ 2 r 0).trans hcm,
      (armStatus_occ _ 2 r 0).trans hocc, (armStatus_words _ 2 r 0).nodeId.trans hnode,
      prepareIn_rejected s src txn mask target r hlate h⟩

@[simp] theorem calShown_cm (s : State) (x : Nat) : (s.calShown x).cm = s.cm := by
  simp only [State.calShown, State.wr_cm]
@[simp] theorem calShown_pnd (s : State) (x : Nat) : (s.calShown x).pnd = s.pnd := by
  simp only [State.calShown, State.wr_pnd]

/-- The arm of PREPARE: it holds the masked groups, is not accepted yet, and names the coordinator's transaction. -/
theorem armGroups_arms (s : State) (mask : Nat) (tg : Target) (remote : Option Nat) :
    ∃ x, (s.armGroups mask tg remote).cm.arms = s.cm.arms ++ [x] ∧ x.groups = mask ∧ x.target = tg ∧ x.accepted = false ∧
      x.remote = remote := by
  unfold State.armGroups
  rw [each_keeps State.cm State.calShown calShown_cm, armsShown_cm]
  exact ⟨_, rfl, rfl, rfl, rfl, rfl⟩

theorem armGroups_pnd (s : State) (mask : Nat) (tg : Target) (remote : Option Nat) : (s.armGroups mask tg remote).pnd = s.pnd := by
  unfold State.armGroups
  rw [each_keeps State.pnd State.calShown calShown_pnd, armsShown_pnd]

theorem calShown_rd_sys (s : State) (x : Nat) (hx : x < 2) (f : Field) (hf : f.off < 0x1000) :
    (s.calShown x).rd SYS f = s.rd SYS f := by
  have hwr : ∀ (t : State) (g : Field) (v : Nat), g.off < 0x1000 → (t.wr (CAL x) g v).rd SYS f = t.rd SYS f := fun t g v hg => by
    rw [State.rd, State.rd, word_wr_page t (CAL x) SYS g v f.off ⟨fun he => PageType.noConfusion he, hx⟩ (by decide) hg hf fun he =>
      PageType.noConfusion (congrArg Page.ty he)]
  rw [State.calShown, hwr _ _ _ (by decide), hwr _ _ _ (by decide), hwr _ _ _ (by decide)]

/-- Arming groups shows in the words of the arms, not in those of the fabric commit. -/
theorem armGroups_rd_sys (s : State) (mask : Nat) (tg : Target) (remote : Option Nat) (f : Field) (hf : f.off < 0x1000)
    (hn : f.off ∉ armWords) : (s.armGroups mask tg remote).rd SYS f = s.rd SYS f := by
  unfold State.armGroups
  simp only [State.each, List.foldl_cons, List.foldl_nil]
  rw [calShown_rd_sys _ 1 (by decide) f hf, calShown_rd_sys _ 0 (by decide) f hf, (armsShown_words _).rd f hf hn]
  rfl

theorem exec_fabPrepareReceived_routed (s : State) (p : Nat) (f : FabFrame) (txn mask target n : Nat) (h : ArrivesRouted s p f)
    (hb : f.body = .prepare txn mask target n) : exec (.fabPrepareReceived p f) s =
      .next (settle (((s.checked p f).prepareIn f.src txn mask target).fabFree p f)) := by
  change live s _ = _
  rw [live_up _ _ h.1, fabArrive_routed s p f _ h]
  simp only [hb]

/-- The refusals of PREPARE are those of the state that the frame's check leaves, at the instant of its arrival. -/
theorem prepareNo_checked (s : State) (p : Nat) (f : FabFrame) (mask target : Nat) : (s.checked p f).prepareNo mask target =
    if decide (beatStart s.tm.rate (target - 2) ≤ s.tm.sys) = true then some 0x13
    else (s.checked p f).armRefused mask (some (.epoch target)) true := by
  simp only [State.prepareNo, checked_tm, decide_eq_true_eq]

/-- A refused PREPARE is answered with a NO; it is shown and recorded, and arms nothing. -/
theorem fabPrepareReceived_refused (s : State) (p : Nat) (f : FabFrame) (txn mask target n r : Nat) (h : ArrivesRouted s p f)
    (hb : f.body = .prepare txn mask target n) (ht : txn < 65536) (ha : ∀ x ∈ s.cm.arms, x.groups ≠ 0)
    (hno : (s.checked p f).prepareNo mask target = some r) (hr : r < 64) : ∃ u : State,
      exec (.fabPrepareReceived p f) s = .next (settle ((u.commitSend f.src (.vote txn false r)).fabFree p f)) ∧
      u.cm.arms = s.cm.arms ∧ u.rd SYS Reg.SYS_FAB_COMMIT_STATE_STATE = 5 ∧ u.rd SYS Reg.SYS_FAB_COMMIT_STATE_TXN = txn ∧
      u.rd SYS Reg.SYS_FAB_COMMIT_INFO_ABORT_REASON = r ∧ u.rd SYS Reg.SYS_FAB_COMMIT_INFO_FIRST_NO_VALID = 1 ∧
      u.rd SYS Reg.SYS_FAB_COMMIT_INFO_FIRST_NO = s.nodeId % 4096 ∧
      u.queue SYS = occPush (s.queue SYS) (occRecord 0x23 r (txn * 2 ^ 32 + 4096 + s.nodeId % 4096)) := by
  obtain ⟨u, l, hcm, hocc, hnode, heq⟩ := prepareIn_refused (s.checked p f) f.src txn mask target r hno
  have hexec := exec_fabPrepareReceived_routed s p f txn mask target n h hb
  rw [heq, voteNo_eq] at hexec
  have harms : u.cm.arms = s.cm.arms := by rw [hcm, checked_cm]
  have hnone : u.txnArm { preparedTxn f.src txn mask target with mask := 0 } = none := by
    rw [State.txnArm, harms, List.find?_eq_none]
    intro x hx
    simp [ha x hx]
  have hqueue : u.queue SYS = s.queue SYS := by rw [State.queue, hocc, checked_occ]; rfl
  obtain ⟨hst, htxn, hreason, hvalid, hfirst, hq⟩ :=
    votedNo_shown u { preparedTxn f.src txn mask target with mask := 0 } _ l r (congrArg CommitState.txns hcm) rfl hnone ht hr
  rw [hnode, checked_nodeId s p f h] at hfirst hq
  rw [hqueue] at hq
  exact ⟨_, hexec, (txnAborted_arms_none u _ _ r _ hnone).trans harms, hst, htxn, hreason, hvalid, hfirst, hq⟩

/-- Any other PREPARE enters COLLECTING with the masked groups armed. -/
theorem fabPrepareReceived_armed (s : State) (p : Nat) (f : FabFrame) (txn mask target n : Nat) (h : ArrivesRouted s p f)
    (hb : f.body = .prepare txn mask target n) (ht : txn < 65536) (hno : (s.checked p f).prepareNo mask target = none) :
    Takes (.fabPrepareReceived p f) s fun t =>
      t.rd SYS Reg.SYS_FAB_COMMIT_STATE_STATE = 1 ∧ t.rd SYS Reg.SYS_FAB_COMMIT_STATE_TXN = txn ∧
      (∃ x, t.cm.arms = s.cm.arms ++ [x] ∧ x.groups = mask ∧ x.target = .epoch target ∧ x.accepted = false ∧
        x.remote = some txn) ∧
      t.pnd = s.pnd := by
  have hlate : ¬ beatStart (s.checked p f).tm.rate (target - 2) ≤ (s.checked p f).tm.sys := fun hl => by
    rw [State.prepareNo, if_pos hl] at hno
    cases hno
  rw [State.prepareNo, if_neg hlate] at hno
  have hexec := exec_fabPrepareReceived_routed s p f txn mask target n h hb
  rw [prepareIn_armed _ f.src txn mask target hlate hno] at hexec
  obtain ⟨hst, htxn⟩ := addTxn_rd (s.checked p f) (preparedTxn f.src txn mask target)
  obtain ⟨l, hcm⟩ := addTxn_cm (s.checked p f) (preparedTxn f.src txn mask target)
  have hpnd := addTxn_pnd (s.checked p f) (preparedTxn f.src txn mask target)
  generalize (s.checked p f).addTxn (preparedTxn f.src txn mask target) = u at hexec hst htxn hcm hpnd
  obtain ⟨x, harms, hx⟩ := armGroups_arms u mask (.epoch target) (some txn)
  have hkeep := armGroups_rd_sys u mask (.epoch target) (some txn)
  refine ⟨_, hexec, ?_, ?_, ⟨x, ?_, hx⟩, ?_⟩
  · rw [settle_rd, fabFree_rd, hkeep _ (by decide) (by decide), hst]; rfl
  · rw [settle_rd, fabFree_rd, hkeep _ (by decide) (by decide), htxn]; exact Nat.mod_eq_of_lt ht
  · rw [settle_cm, fabFree_cm, harms, hcm, checked_cm]
  · rw [settle_pnd, fabFree_pnd, armGroups_pnd, hpnd, checked_pnd]

/-! Votes and decisions at the coordinator (R69 step 3). -/

theorem txnDecide_eq (s : State) (x : FabTxn) (members : List Nat) (c : Bool) (reason : Nat) (first : Option Nat) :
    s.txnDecide x members c reason first =
      (s.takeDecision { x with unacked := members } c reason first (s.rd SYS Reg.SYS_CONFIG_EPOCH)).each members fun t n =>
        t.commitSend n (.decision x.txn c reason (s.rd SYS Reg.SYS_CONFIG_EPOCH) (first.getD 0xFFFF)) := rfl

theorem txnDecide_cm (s : State) (x : FabTxn) (members : List Nat) (c : Bool) (reason : Nat) (first : Option Nat) :
    (s.txnDecide x members c reason first).cm =
      (s.takeDecision { x with unacked := members } c reason first (s.rd SYS Reg.SYS_CONFIG_EPOCH)).cm := by
  rw [txnDecide_eq, each_commitSend_cm]

/-- A fabric commit with the vote of one member in. -/
def FabTxn.voted (x : FabTxn) (src : Nat) : FabTxn := { x with unvoted := sdel src x.unvoted }

/-- A missing vote on the latest fabric commit of this coordinator counts: the first NO and the last YES decide. -/
theorem voteIn_counted (s : State) (src txn reason : Nat) (yes : Bool) (x : FabTxn) (l : List FabTxn) (hs : s.cm.txns = x :: l)
    (ht : x.txn = txn) (hst : x.st = 1) (hc : x.coordinator = s.nodeId) (hv : src ∈ x.unvoted) : s.voteIn src txn yes reason =
      if !yes then (s.setTxn (x.voted src)).txnDecide (x.voted src) x.unacked false reason (some src)
      else if (x.voted src).unvoted.isEmpty then (s.setTxn (x.voted src)).txnDecide (x.voted src) x.unacked true 0 none
      else s.setTxn (x.voted src) := by
  have hmem : (decide (x.txn = txn) && decide (x.st = 1) && decide (x.coordinator = s.nodeId) && x.unvoted.contains src) = true := by
    simp [ht, hst, hc, hv]
  simp only [State.voteIn, hs, hmem, if_true]
  rfl

/-- A decision of the coordinator on its latest fabric commit stays the latest, with the epoch in force. -/
theorem txnDecide_voted_txns (s : State) (src : Nat) (c : Bool) (reason : Nat) (first : Option Nat) (x : FabTxn) (l : List FabTxn)
    (hs : s.cm.txns = x :: l) :
    ((s.setTxn (x.voted src)).txnDecide (x.voted src) x.unacked c reason first).cm.txns.head? =
      some { x.voted src with st := if c then 3 else 5, decision := some (c, reason, first, s.rd SYS Reg.SYS_CONFIG_EPOCH) } := by
  rw [txnDecide_cm, takeDecision_txns, setTxn_cm, hs, (setTxn_words s _).rd Reg.SYS_CONFIG_EPOCH (by decide) (by decide)]
  simp only
  rw [replaceTxn_cons_same (x.voted src) x l rfl]
  exact head_replaceTxn _ (x.voted src) _ rfl

theorem exec_fabVoteReceived_routed (s : State) (p : Nat) (f : FabFrame) (txn reason : Nat) (yes : Bool) (h : ArrivesRouted s p f)
    (hb : f.body = .vote txn yes reason) : exec (.fabVoteReceived p f) s =
      .next (settle (((s.checked p f).voteIn f.src txn yes reason).fabFree p f)) := by
  change live s _ = _
  rw [live_up _ _ h.1, fabArrive_routed s p f _ h]
  simp only [hb]

theorem fabVoteReceived_counted (s : State) (p : Nat) (f : FabFrame) (txn reason : Nat) (yes : Bool) (x : FabTxn) (l : List FabTxn)
    (h : ArrivesRouted s p f) (hb : f.body = .vote txn yes reason) (hs : s.cm.txns = x :: l) (ht : x.txn = txn) (hst : x.st = 1)
    (hc : x.coordinator = s.nodeId) (hv : f.src ∈ x.unvoted) : Takes (.fabVoteReceived p f) s fun t =>
      t.cm.txns.head? = some
        (if yes = false then
          { x.voted f.src with st := 5, decision := some (false, reason, some f.src, s.rd SYS Reg.SYS_CONFIG_EPOCH) }
         else if (x.voted f.src).unvoted = [] then
          { x.voted f.src with st := 3, decision := some (true, 0, none, s.rd SYS Reg.SYS_CONFIG_EPOCH) }
         else x.voted f.src) ∧ (yes = true → t.cm.arms = s.cm.arms) := by
  refine ⟨_, exec_fabVoteReceived_routed s p f txn reason yes h hb, ?_⟩
  have hs' : (s.checked p f).cm.txns = x :: l := by rw [checked_cm, hs]
  beta_reduce
  rw [settle_cm, fabFree_cm, voteIn_counted _ f.src txn reason yes x l hs' ht hst (by rw [hc, checked_nodeId s p f h]) hv,
    ← checked_rd_sys s p f h Reg.SYS_CONFIG_EPOCH (by decide), ← checked_cm s p f]
  generalize s.checked p f = t at hs'
  cases yes with
  | false => exact ⟨txnDecide_voted_txns t f.src false reason (some f.src) x l hs', fun hy => Bool.noConfusion hy⟩
  | true =>
    simp only [Bool.true_eq_false, if_false, Bool.not_true, Bool.false_eq_true, List.isEmpty_iff]
    by_cases hl : (x.voted f.src).unvoted = []
    · rw [if_pos hl, if_pos hl]
      refine ⟨txnDecide_voted_txns t f.src true 0 none x l hs', fun _ => ?_⟩
      rw [txnDecide_cm, takeDecision_commit, setTxn_cm, setTxn_cm]
    · rw [if_neg hl, if_neg hl, setTxn_cm, ← head_replaceTxn (x.voted f.src) x l rfl, ← hs']
      exact ⟨rfl, fun _ => rfl⟩

theorem mem_voteLate (s : State) (x : FabTxn) : x ∈ s.voteLate ↔ x ∈ s.cm.txns ∧ x.st = 1 ∧ x.coordinator = s.nodeId ∧
    x.unvoted ≠ [] ∧ ∀ y ∈ s.cm.txns, y.st = 1 → y.coordinator = s.nodeId → y.unvoted ≠ [] → x.target ≤ y.target := by
  simp only [State.voteLate, List.mem_filter, List.all_eq_true, Bool.and_eq_true, decide_eq_true_eq, Bool.not_eq_true',
    List.isEmpty_eq_false_iff, and_imp, and_assoc]

/-- At the vote deadline the earliest fabric commit with missing votes is decided ABORT for want of them. -/
theorem fabVoteDeadline_decides (s : State) (x : FabTxn) (hu : s.pow.up = true) (hx : s.voteLate = [x]) : ∃ u : State,
    exec .fabVoteDeadline s = .next (settle (u.each x.unacked fun t n =>
      t.commitSend n (.decision x.txn false 0x14 (s.rd SYS Reg.SYS_CONFIG_EPOCH) 0xFFFF))) ∧
    u.txnOf x.txn = some { x with st := 5, decision := some (false, 0x14, none, s.rd SYS Reg.SYS_CONFIG_EPOCH) } ∧
    (∀ a, s.txnArm x = some a → u.cm.arms = s.cm.arms.filter (fun y => y.groups ≠ a.groups)) ∧ u.pnd = s.pnd := by
  have hmem : x ∈ s.cm.txns := ((mem_voteLate s x).1 (hx ▸ List.mem_singleton_self x)).1
  refine ⟨s.takeDecision x false 0x14 none (s.rd SYS Reg.SYS_CONFIG_EPOCH), ?_,
    takeDecision_txnOf s x false 0x14 none _ ⟨x, hmem, rfl⟩,
    fun a ha => txnAborted_arms s _ x 0x14 none a ha, takeDecision_pnd s x false 0x14 none _⟩
  change live s _ = _
  rw [live_up _ _ hu, hx]
  rfl

/-- Until B(F − 1) the coordinator repeats its decision to every member that has not acknowledged it. -/
theorem fabDecisionRepeat_sends (s : State) (x : FabTxn) (c : Bool) (r e : Nat) (first : Option Nat) (hu : s.pow.up = true)
    (hs : s.cm.txns = [x]) (hc : x.coordinator = s.nodeId) (hd : x.decision = some (c, r, first, e)) :
    exec .fabDecisionRepeat s = .next (settle (if s.frameNo + 1 < x.target then
      s.each x.unacked fun u n => u.commitSend n (.decision x.txn c r e (first.getD 0xFFFF)) else s)) := by
  have hmsg : x.message = .decision x.txn c r e (first.getD 0xFFFF) := by rw [FabTxn.message, hd]
  change live s _ = _
  rw [live_up _ _ hu, hs, List.filter_singleton, hc, hd]
  by_cases hb : s.frameNo + 1 < x.target
  · simp only [hb, decide_true, Option.isSome_some, Bool.and_true, if_true, ← hmsg]
    rfl
  · simp only [hb, decide_false, Bool.and_false, if_false]
    rfl

/-! The decision and its acknowledgement (R69 step 4, R384). -/

theorem txnOf_some (s : State) (n : Nat) (x : FabTxn) (h : s.txnOf n = some x) : x ∈ s.cm.txns ∧ x.txn = n :=
  ⟨List.mem_of_find?_eq_some h, by simpa using List.find?_some h⟩

theorem decisionIn_voted (s : State) (src txn : Nat) (c : Bool) (reason firstNo : Nat) (x : FabTxn) (h : s.txnOf txn = some x)
    (hst : x.st = 2) (hd : x.decision = none) :
    s.decisionIn src txn c reason (s.rd SYS Reg.SYS_CONFIG_EPOCH) firstNo =
      (s.takeDecision x c reason (if firstNo < 4096 then some firstNo else none) (s.rd SYS Reg.SYS_CONFIG_EPOCH)).commitSend src
        (.ack txn) := by
  simp only [State.decisionIn, h, hst, hd, State.checkConfig, if_true, Option.isSome_none, decide_true, Bool.true_or,
    Bool.false_eq_true, if_false, Nat.reduceEqDiff]

theorem fabDecisionReceived_taken (s : State) (p : Nat) (f : FabFrame) (txn reason config first : Nat) (c : Bool) (x : FabTxn)
    (h : ArrivesRouted s p f) (hb : f.body = .decision txn c reason config first) (hx : s.txnOf txn = some x) (hst : x.st = 2)
    (hd : x.decision = none) (hc : s.rd SYS Reg.SYS_CONFIG_EPOCH = config) : ∃ u : State,
      exec (.fabDecisionReceived p f) s = .next (settle (((u.commitSend f.src (.ack txn)).mateSettle).fabFree p f)) ∧
      (u.txnOf txn).map (·.st) = some (if c then 3 else 5) ∧ u.cm.fenced = s.cm.fenced ∧ u.pnd = s.pnd ∧
      (c = true → u.cm.arms = s.cm.arms) ∧
      (c = false → ∀ a, s.txnArm x = some a → u.cm.arms = s.cm.arms.filter (fun y => y.groups ≠ a.groups)) := by
  obtain ⟨hmem, rfl⟩ := txnOf_some s txn x hx
  have hcm := checked_cm s p f
  have hpnd := checked_pnd s p f
  have hx' : (s.checked p f).txnOf x.txn = some x := by rw [State.txnOf, hcm]; exact hx
  have hexec : exec (.fabDecisionReceived p f) s =
      .next (settle ((((s.checked p f).decisionIn f.src x.txn c reason config first).mateSettle).fabFree p f)) := by
    change live s _ = _
    rw [live_up _ _ h.1, fabArrive_routed s p f _ h]
    simp only [hb]
  rw [← hc, ← checked_rd_sys s p f h Reg.SYS_CONFIG_EPOCH (by decide), decisionIn_voted _ f.src x.txn c reason first x hx' hst hd]
    at hexec
  refine ⟨_, hexec, ?_, ?_, ?_, fun hy => ?_, fun hn a ha => ?_⟩
  · rw [takeDecision_txnOf _ x c reason _ _ ⟨x, hcm ▸ hmem, rfl⟩]; rfl
  · rw [takeDecision_fenced, hcm]
  · rw [takeDecision_pnd, hpnd]
  · rw [hy, takeDecision_commit, setTxn_cm, hcm]
  · rw [hn, takeDecision_abort, txnAborted_arms _ _ x reason _ a (by rw [State.txnArm, hcm]; exact ha), hcm]

/-- An ACK ends the repeats to its sender. -/
theorem fabAckReceived_taken (s : State) (p : Nat) (f : FabFrame) (txn : Nat) (x : FabTxn) (h : ArrivesRouted s p f)
    (hb : f.body = .ack txn) (hx : s.txnOf txn = some x) (hc : x.coordinator = s.nodeId) :
    Takes (.fabAckReceived p f) s fun t => t.txnOf txn = some { x with unacked := x.unacked.filter (· ≠ f.src) } := by
  obtain ⟨hmem, rfl⟩ := txnOf_some s txn x hx
  have hcm := checked_cm s p f
  have hx' : (s.checked p f).txnOf x.txn = some x := by rw [State.txnOf, hcm]; exact hx
  have hexec : exec (.fabAckReceived p f) s =
      .next (settle (((s.checked p f).setTxn { x with unacked := sdel f.src x.unacked }).fabFree p f)) := by
    change live s _ = _
    rw [live_up _ _ h.1, fabArrive_routed s p f _ h]
    simp only [hb, hx', checked_nodeId s p f h, hc, if_true]
  refine ⟨_, hexec, ?_⟩
  beta_reduce
  rw [State.txnOf, settle_cm, fabFree_cm, setTxn_cm, hcm]
  exact find_replaceTxn { x with unacked := sdel f.src x.unacked } s.cm.txns ⟨x, hmem, rfl⟩

/-! B(F − 1): the commit is applied, or the decision is missing (R69 step 5, R71, R73). -/

theorem exec_fabCommitApply_committed (s : State) (x : FabTxn) (c : Bool) (reason epoch : Nat) (first : Option Nat)
    (hu : s.pow.up = true) (hs : s.cm.txns = [x]) (ht : x.target ≤ s.frameNo + 1) (hst : x.st = 3)
    (hd : x.decision = some (c, reason, first, epoch)) : exec .fabCommitApply s = .next (settle (s.txnApply x epoch)) := by
  change live s s.txnsDue = _
  simp only [live_up _ _ hu, State.txnsDue, hs, List.filter_cons, ht, decide_true, if_true, List.filter_nil, State.each,
    List.foldl_cons, List.foldl_nil, hst, hd]

theorem exec_fabCommitApply_missing (s : State) (x : FabTxn) (hu : s.pow.up = true) (hs : s.cm.txns = [x])
    (ht : x.target ≤ s.frameNo + 1) (hst : x.st = 2) : exec .fabCommitApply s = .next (settle (s.txnMissing x)) := by
  change live s s.txnsDue = _
  simp only [live_up _ _ hu, State.txnsDue, hs, List.filter_cons, ht, decide_true, if_true, List.filter_nil, State.each,
    List.foldl_cons, List.foldl_nil, hst]

/-- Its arm applied, a committed member takes the decision's CONFIG_EPOCH plus 1, and its fence clears. -/
theorem fabCommitApply_applies (s : State) (x : FabTxn) (a : Arm) (c : Bool) (reason epoch : Nat) (first : Option Nat)
    (hu : s.pow.up = true) (hs : s.cm.txns = [x]) (ht : x.target ≤ s.frameNo + 1) (hst : x.st = 3)
    (hd : x.decision = some (c, reason, first, epoch)) (ha : s.txnArm x = some a) : ∃ u : State,
      exec .fabCommitApply s = .next (settle u.coordSync.mateSettle) ∧ u.rd SYS Reg.SYS_CONFIG_EPOCH = (epoch + 1) % 2 ^ 32 ∧
      u.cm.fenced = false ∧ u.cm.arms = (s.applyArm a).cm.arms ∧ u.pnd = (s.applyArm a).pnd := by
  have hexec := exec_fabCommitApply_committed s x c reason epoch first hu hs ht hst hd
  simp only [State.txnApply, ha] at hexec
  refine ⟨_, hexec, ?_, rfl, ?_, ?_⟩
  · exact rd_wr_same _ SYS Reg.SYS_CONFIG_EPOCH (epoch + 1) (by decide) (by decide)
  · simp only [State.wr_cm, setTxn_cm]
  · simp only [State.wr_pnd, setTxn_pnd]

/-- DECISION_MISSING's detail (R57) as the sum of its fields. -/
theorem decisionMissing_detail (txn target : Nat) :
    (txn % 65536) <<< 32 ||| target % 2 ^ 32 = txn % 2 ^ 16 * 2 ^ 32 + target % 2 ^ 32 :=
  shiftLeft_or_eq _ _ 32 (Nat.mod_lt _ (by decide))

/-- The records of a missing decision and of the fence that it begins (R71). -/
def State.missingRecorded (s : State) (x : FabTxn) : State :=
  let s1 := s.occur SYS 0x24 0 ((x.txn % 65536) <<< 32 ||| x.target % 2 ^ 32)
  if s1.cm.fenced then s1 else ({ s1 with cm := { s1.cm with fenced := true } }).occurF SYS 0x27 1

theorem txnMissing_eq (s : State) (x : FabTxn) :
    s.txnMissing x = (((s.setTxn { x with st := 5 }).txnDrop x).missingRecorded x).mateSettle := rfl

/-- A missing decision fences the device, and changes nothing else but records. -/
theorem missingRecorded_frame (s : State) (x : FabTxn) :
    ∃ o, s.missingRecorded x = { s with occ := o, cm := { s.cm with fenced := true } } := by
  by_cases hf : s.cm.fenced = true
  · exact ⟨_, (if_pos hf).trans (by rw [← hf]; rfl)⟩
  · exact ⟨_, (if_neg hf).trans rfl⟩

theorem missingRecorded_queue (s : State) (x : FabTxn) : (s.missingRecorded x).queue SYS =
    let missing := occPush (s.queue SYS) (occRecord 0x24 0 (x.txn % 2 ^ 16 * 2 ^ 32 + x.target % 2 ^ 32))
    if s.cm.fenced then missing else occPush missing (occRecord 0x27 1 s.frameNo) := by
  have hmissing : (s.occur SYS 0x24 0 ((x.txn % 65536) <<< 32 ||| x.target % 2 ^ 32)).queue SYS =
      occPush (s.queue SYS) (occRecord 0x24 0 (x.txn % 2 ^ 16 * 2 ^ 32 + x.target % 2 ^ 32)) := by
    rw [queue_occur_same, decisionMissing_detail]
  rw [← hmissing]
  by_cases hf : s.cm.fenced = true
  · exact (congrArg (State.queue · SYS) (if_pos hf)).trans (if_pos hf).symm
  · refine (congrArg (State.queue · SYS) (if_neg hf)).trans (Eq.trans ?_ (if_neg hf).symm)
    exact queue_occur_same _ SYS _ _ _

/-- A member that voted and holds no decision drops its arm, records DECISION_MISSING, and is fenced. -/
theorem fabCommitApply_missing (s : State) (x : FabTxn) (a : Arm) (hu : s.pow.up = true) (hs : s.cm.txns = [x])
    (ht : x.target ≤ s.frameNo + 1) (hst : x.st = 2) (ha : s.txnArm x = some a) : ∃ u : State,
      exec .fabCommitApply s = .next (settle u.mateSettle) ∧ u.cm.fenced = true ∧ u.rd SYS Reg.SYS_FAB_COMMIT_STATE_STATE = 5 ∧
      u.cm.arms = s.cm.arms.filter (fun y => y.groups ≠ a.groups) ∧ u.pnd = s.pnd ∧
      (∀ k, k < 32 → bit a.groups k = true → u.rd SYS (groupResultField k) = 4) ∧
      (∀ (q : Page) (o : Nat), q.inBar0 → o < 0x1000 → q ≠ SYS → u.word q o = s.word q o) ∧
      u.queue SYS =
        let aborted := (groupList a.groups).foldl (fun q g => occPush q (occRecord 0x22 g s.frameNo)) (s.queue SYS)
        let missing := occPush aborted (occRecord 0x24 0 (x.txn % 2 ^ 16 * 2 ^ 32 + x.target % 2 ^ 32))
        if s.cm.fenced then missing else occPush missing (occRecord 0x27 1 s.frameNo) := by
  have hexec := exec_fabCommitApply_missing s x hu hs ht hst
  have hshown := (setTxn_rd s { x with st := 5 } x [] hs rfl).1
  have hwords := setTxn_words s { x with st := 5 }
  have hcm := setTxn_cm s { x with st := 5 }
  have hpnd := setTxn_pnd s { x with st := 5 }
  have hframe : (s.setTxn { x with st := 5 }).frameNo = s.frameNo := by rw [State.frameNo, setTxn_tm]; rfl
  have hqueue : (s.setTxn { x with st := 5 }).queue SYS = s.queue SYS := by rw [State.queue, setTxn_occ]; rfl
  rw [txnMissing_eq, txnDrop_some _ x a ((txnArm_setTxn s _ x).trans ha)] at hexec
  generalize s.setTxn { x with st := 5 } = t at hexec hshown hwords hcm hpnd hframe hqueue
  obtain ⟨c, o, gs, habort⟩ := abortArm_frame t a
  obtain ⟨r, hrec⟩ := missingRecorded_frame (t.abortArm a) x
  have hcur : ((t.abortArm a).missingRecorded x).cur = (t.abortArm a).cur := by rw [hrec]
  refine ⟨_, hexec, by rw [hrec], ?_, ?_, ?_, fun k hk hg => ?_, fun q o hq ho hne => ?_, ?_⟩
  · rw [State.rd, State.word, hcur]
    exact ((abortArm_words t a).rd Reg.SYS_FAB_COMMIT_STATE_STATE (by decide) (by decide)).trans hshown
  · rw [hrec, habort, hcm]
  · rw [hrec, habort, hpnd]
  · rw [State.rd, State.word, hcur]
    exact abortArm_rd_groupResult t a k hk hg
  · rw [State.word, hcur]
    exact (abortArm_words t a q o hq ho fun he => absurd he hne).trans (hwords q o hq ho fun he => absurd he hne)
  · have hfence : (t.abortArm a).cm.fenced = s.cm.fenced := by rw [habort, hcm]
    have hframe' : (t.abortArm a).frameNo = s.frameNo := by rw [habort]; exact hframe
    rw [missingRecorded_queue, hfence, hframe', abortArm_queue, hframe, hqueue]

/-- Settles O19: each clause is one step of the fabric commit, as the lemmas above state it. -/
theorem fabricCommit : Obligations.FabricCommit := by
  refine fun p f s => ⟨fun txn mask target n h hb ht _ ha => ⟨fun r hno hr => ?_, fun hno => ?_⟩,
    fun txn yes reason x l h hb hs ht hst hc hv => ?_, fun x hu hx => fabVoteDeadline_decides s x hu hx, mem_voteLate s,
    fun x c r e first hu hs hc hd => fabDecisionRepeat_sends s x c r e first hu hs hc hd,
    fun txn c reason config first x h hb hx hst hd hc => fabDecisionReceived_taken s p f txn reason config first c x h hb hx hst hd hc,
    fun txn x h hb hx hc => fabAckReceived_taken s p f txn x h hb hx hc,
    fun x a first reason epoch hu hs ht hst hd ha => fabCommitApply_applies s x a true reason epoch first hu hs ht hst hd ha,
    fun x a hu hs ht hst ha => fabCommitApply_missing s x a hu hs ht hst ha⟩
  · exact fabPrepareReceived_refused s p f txn mask target n r h hb ht ha ((prepareNo_checked s p f mask target).trans hno) hr
  · exact fabPrepareReceived_armed s p f txn mask target n h hb ht ((prepareNo_checked s p f mask target).trans hno)
  · exact fabVoteReceived_counted s p f txn reason yes x l h hb hs ht hst hc hv

end Sys2Proof.Machine
end
